-- ==== Sys2Proof/Word.lean ====
section
/-! DEFINITION. The word types of the part: bytes on its serial links, 16-bit fields, and the aligned 32-bit
words of the placement book and of the register window (R1, R182). -/

namespace Sys2Proof

/-- A byte: one address of the book, one byte of a serial frame. -/
abbrev Byte := BitVec 8

/-- A 16-bit field: half a book word, a station's reply word or error word. -/
abbrev Half := BitVec 16

/-- An aligned 32-bit word of the book or of the register window. -/
abbrev Word := BitVec 32

end Sys2Proof
end

