-- ==== Sys2Proof/Config.lean ====
section
/-! DEFINITION. The free values: what the manual leaves open and the machine nevertheless produces. -/

namespace Sys2Proof

/-- A value the manual does not state. The first argument says WHICH open value it is (1: a deviation Z sum
outside the signed 32-bit field of R13; 2: the applied-probe count of R34 when it stands at 0 before it falls by 1; 3: an
applied-probe sum outside its signed 32-bit field), the second is `State.free`, the model's counter of uses. It has no
body, so a claim about it holds whatever the part shows. DESIGN CHOICE (log entry 9), safe. -/
opaque Config.freeWord : Nat → Nat → Word

/-- Whether the test of the image of an accepted COMMIT_CAL outlasts the step of the command (R194, R196): a choice the
manual leaves open, applied to `State.free`. It has no body. DESIGN CHOICE (log entry 40), safe. -/
opaque Config.testOutlasts : Nat → Bool

end Sys2Proof
end

