-- ==== Sys2Proof/Syntax.lean ====
section
/-! DEFINITION. The commands of the part: one constructor of `Instr` for each row of spec/opcode_table.json, with the
operands its rule gives it, and the small types of those operands. The table gives no row any bits. -/

namespace Sys2Proof

/-- An entry of the placement book is referred to by its index, 0..991 (Conventions, R2). -/
abbrev EntryIx := Fin 992

/-- A course record is referred to by its slot, 0..15 (Conventions, R2). -/
abbrev Slot := Fin 16

/-- What an identity line presents at station sense (R84); the codes are those of R197 (station summary). -/
inductive StationKind where
  | absent | feeder | spreader | gripper | unknown
  deriving DecidableEq, Repr

/-- The four positions of the station line (R83): 0 and 1 are the feeders, 2 the spreader, 3 the gripper. -/
inductive Position where
  | feederA | feederB | spreader | gripper
  deriving DecidableEq, Repr

/-- A feeder: A is position 0, B is position 1 (R54). -/
inductive Feeder where
  | a | b
  deriving DecidableEq, Repr

/-- The four station identity lines as they stand when station sense reads them (R84). -/
structure IdentityLines where
  feederA : StationKind
  feederB : StationKind
  spreader : StationKind
  gripper : StationKind
  deriving DecidableEq, Repr

/-- How far the write of the calibration store had come when power was lost (R195): not begun; the checksum word
inverted and some of the 31 words written (a mask, bit j for word j); or all three steps done. -/
inductive StoreWrite where
  | notBegun
  | writing (done : BitVec 31)
  | finished
  deriving DecidableEq, Repr

/-- The eight registers of the register window (chapter 10.1, R182). -/
inductive WindowRegister where
  | ident | control | state | cause | mask | maskSet | maskClear | time
  deriving DecidableEq, Repr

/-- The words of an entry other than its state word and its two spare words (R197, 11.2). -/
inductive EntryWord where
  | kindFlags | cutLength | targetX | targetY | targetZ | targetYaw | attempts
  | deviationXY | deviationZYaw | correctionSamples | probeMeasuredZ | probeDeviation | completionTime
  deriving DecidableEq, Repr

/-- The words of a course record other than its state word (R197, 11.3). -/
inductive CourseWord where
  | updateCount | firstEntry | entryCount | flags | result | remainingLaid | probedFailed | cancelledApplied
  | deviationZSum | maxXY | maxZYaw | appliedProbeSum | carriedCorrection | activationTime | closingTime
  deriving DecidableEq, Repr

/-- The axes of a pose or of the trim stage, in the manual's order. -/
inductive Axis where
  | x | y | z | yaw
  deriving DecidableEq, Repr

/-- The 23 profile words of the header, in the order of R18's table. -/
inductive ProfileField where
  | toleranceXY | toleranceZ | toleranceYaw | slewXY | slewZ | slewYaw | windowXYZ | windowYaw
  | settleCount | settleLimit | reachCount | lossExponent | recoveryMode | restartDelay
  | unsteadyOn | unsteadyOff | openTime | transitLimit | workingPoll | zmax | probeClearance
  | preferredFeeder | earlySpread
  deriving DecidableEq, Repr

/-- The two places at the head (chapter 8); also the operand of EJECT (R89: BAY or GRIP). -/
inductive HeadPlace where
  | bay | gripper
  deriving DecidableEq, Repr

/-- Which side of the head sequencer places what it wants (R146); `both` is the case of R95 in which the two sides'
requests are placed together. -/
inductive HeadSides where
  | spreaderSide | gripperSide | both
  deriving DecidableEq, Repr

/-- A host state write to an entry that is served while an activation runs, after the activation has read that entry
(R12, R30). DESIGN CHOICE: every other host write in the middle of an activation (a field of an entry, POSTED, a field of the
record still OPEN) is taken before the whole step or after it (log entry 42). -/
inductive LateWrite where
  | free (i : EntryIx)
  | cancel (i : EntryIx)
  deriving DecidableEq, Repr

/-- A host write to a profile word that is served while a latch reads the profile, one access for each word (R200):
`seen` when it is served before the latch reads that word, which then takes it; if not, it waits for the next latch. -/
structure LatchWrite where
  field : ProfileField
  value : Word
  seen : Bool
  deriving DecidableEq, Repr

/-- What a reset meets in the step that begins INIT: what the identity lines present (R84), and the host's writes to profile
words served while the profile is latched (R200). -/
structure InitInputs where
  lines : IdentityLines
  during : List LatchWrite
  deriving DecidableEq, Repr

/-- What an activation meets: the host's writes to profile words served while the profile is latched (R200), and the entry
state writes served after it has read the entry (R30). -/
structure ActivationInputs where
  during : List LatchWrite
  late : List LateWrite
  deriving DecidableEq, Repr

/-- The record whose state word a host write addresses. -/
inductive StateWordOf where
  | entry (i : EntryIx)
  | course (k : Slot)
  deriving DecidableEq, Repr

/-- The commands and events the part takes, one constructor per row of spec/opcode_table.json, in the table's order.
`lanes` names the bytes an access carries (bit j for byte j of the word). -/
inductive Instr where
  | powerOn (inputs : InitInputs) (emergency : Bool) (written : StoreWrite)
  | hostPortReset (inputs : InitInputs)
  | run
  | stop
  | abort
  | reset (inputs : InitInputs)
  | commitCal
  | refusedCommandCode (code : BitVec 4)
  | manualRequestSet
  | manualRequestClear
  | causeRead (lanes : BitVec 4)
  | maskSet (value : Word)
  | maskClear (value : Word)
  | ignoredRegisterWrite (reg : WindowRegister) (lanes : BitVec 4) (value : Word)
  | partialBookWrite (offset : BitVec 16) (lanes : BitVec 4) (value : Word)
  | spareWordWrite (offset : BitVec 16) (value : Word)
  | statusBlockWrite (offset : BitVec 16) (value : Word)
  | layoutVersionWrite (value : Word)
  | entryPostWrite (i : EntryIx)
  | entryFreeWrite (i : EntryIx)
  | entryCancelWrite (i : EntryIx)
  | confirm (i : EntryIx)
  | entryFieldWrite (i : EntryIx) (w : EntryWord) (value : Word)
  | courseOpenWrite (k : Slot)
  | courseEmptyWrite (k : Slot)
  | closeRequest (k : Slot)
  | courseFieldWrite (k : Slot) (w : CourseWord) (value : Word)
  | boomWordWrite (value : Word)
  | binEmptiedWrite (value : Word)
  | jogWordWrite (axis : Axis) (value : Word)
  | profileWordWrite (field : ProfileField) (value : Word)
  | calImageWrite (j : Fin 32) (value : Word)
  | emergencyAssert
  | emergencyClear
  | rootSensor
  | baySensor
  | trackerFrame (bytes : List Byte)
  | trackerByteGap (bytes : List Byte)
  | commandReply (bytes : List Byte)
  | queryReply (bytes : List Byte)
  | replyDeadline
  | stationByteGap
  | pollDue (p : Position)
  | lineGrant
  | holdTimerExpiry (f : Feeder)
  | feedTimerExpiry
  | jam
  | lossTimerExpiry
  | settleLimitExpiry
  | openTimeExpiry (place : HeadPlace)
  | restartDelayExpiry
  | setpointFrameEnd
  | commitEnd
  | calLoad
  | initEnd
  | courseActivation (inputs : ActivationInputs)
  | entryTake (kindSeen : Byte)
  | refeed
  | headRequest (sides : HeadSides)
  | probeTakeUp
  | manualGrant
  | drainEnd
  | replyNotGood (bytes : List Byte)
  | stateWriteDiscarded (target : StateWordOf) (code : Byte)
  deriving DecidableEq, Repr

end Sys2Proof
end

