-- ==== Sys2Proof/Machine/State.lean ====
section
/-! DEFINITION. The state of the part, block by block as the manual's block overview lists them, the ways a step can
stop, and the state at power-on. State is plain data. -/

namespace Sys2Proof.Machine

/-! ### The ways a step can stop -/

/-- Why a step may fault. No rule of the manual stops the part: wrong and untimely input is clamped, discarded, failed or
refused (Conventions, "Wrong and untimely input"), each of which is a next state. So no fault exists. Safe. -/
inductive Fault : Type
  deriving DecidableEq, Repr

/-- Why a step may be refused. -/
inductive Refusal where
  /-- Raised by an arm of `exec` whose command has no meaning yet; no arm does. Safe: nothing can be proved of a run that
  stops. -/
  | notModelled (mnemonic : String)
  deriving DecidableEq, Repr

/-! ### Host port and register window (chapter 10) -/

/-- The causes of R187, in the order of their bits 0..16. -/
inductive Cause where
  | courseClosed | entryFailed | confirmWait | reach | trackLost | unsteady | stationFault | headStation
  | supplyStarved | binFull | trainFault | halted | manualGranted | bookWriteRefused | cmdRefused
  | calDone | calRejected
  deriving DecidableEq, Repr

/-- Cause and mask registers and the attention interrupt (R187 to R191). -/
structure HostPort where
  /-- The 17 cause bits (R187). -/
  cause : BitVec 17
  /-- The 17 mask bits (R189). -/
  mask : BitVec 17
  /-- The level of the attention interrupt (R190). -/
  attention : Bool
  /-- The model's own: what the latest CAUSE read returned (R188). -/
  readData : Word
  deriving DecidableEq, Repr

/-! ### Book memory (chapter 1) -/

/-- The book's memory: address and byte pairs, addresses strictly rising, no byte 0 listed (what is not listed reads 0,
as power-on leaves it, R23). -/
abbrev Memory := List Host.Cell

/-- The placement book, but for its status block, whose fields `StatusBlock` holds. -/
structure Book where
  /-- The bytes of the book outside the status block. -/
  cells : Memory
  deriving DecidableEq, Repr

/-! ### Course sequencer (chapter 2) -/

/-- What the head does when tracking is lost under an attempt (R18, R160). -/
inductive RecoveryMode where
  | holdOnly | holdThenFail | fail
  deriving DecidableEq, Repr

/-- The latched profile: the clamped fields of R18. -/
structure Profile where
  toleranceXY : Int
  toleranceZ : Int
  toleranceYaw : Int
  slewXY : Int
  slewZ : Int
  slewYaw : Int
  windowXYZ : Int
  windowYaw : Int
  settleCount : Nat
  settleLimit : Nat
  reachCount : Nat
  lossExponent : Nat
  recoveryMode : RecoveryMode
  restartDelay : Nat
  unsteadyOn : Nat
  unsteadyOff : Nat
  openTime : Nat
  transitLimit : Nat
  workingPoll : Nat
  zmax : Int
  probeClearance : Int
  preferredFeeder : Feeder
  earlySpread : Bool
  deriving DecidableEq, Repr

/-- The state of the course sequencer (R25). The Zc of the active course is the carried correction field of its
record: R25 says that the two are always the same, and it is stored once, in the book. -/
structure Sequencer where
  /-- The next-slot pointer (R26). -/
  pointer : Slot
  /-- The active course. -/
  active : Option Slot
  /-- The close-request mark (R35). -/
  closeMark : Bool
  /-- The latched profile (R19). -/
  profile : Profile
  /-- Last-closed summary: laid count (R39). -/
  lastLaid : Half
  /-- Last-closed summary: deviation Z sum, signed 32-bit (R39). -/
  lastSum : Word
  deriving DecidableEq, Repr

/-! ### Issue unit (chapter 3) -/

/-- The two kinds of entry that stay in the issue list (R46). -/
inductive Kind where
  | lay | probe
  deriving DecidableEq, Repr

/-- Where an entry's brick, or a probe's work, stands (R46). -/
inductive Location where
  | none | feed | train | bay | gripper
  deriving DecidableEq, Repr

/-- A position and yaw, or a difference of two, in pos units and ang units. -/
structure Pose where
  x : Int
  y : Int
  z : Int
  yaw : Int
  deriving DecidableEq, Repr

/-- A record of the issue list (R46). -/
structure IssueRecord where
  entry : EntryIx
  slot : Nat
  kind : Kind
  single : Bool
  cut : Bool
  hold : Bool
  apply : Bool
  target : Pose
  cutLength : Nat
  maxAttempts : Nat
  attemptsUsed : Nat
  voidMark : Bool
  location : Location
  deriving DecidableEq, Repr

/-- The phase of a pending feed (R54); ACCEPTED carries the accept time. -/
inductive FeedPhase where
  | requested | sent | accepted (acceptTime : Word)
  deriving DecidableEq, Repr

/-- The feed-pending record when it is not clear (R54); `entry = none` is VOID (R63). -/
structure FeedPending where
  entry : Option EntryIx
  /-- Of a VOID record, the entry its brick last belonged to, for the bay's VOID content (R143, log entry 36). -/
  former : Option EntryIx
  feeder : Feeder
  cutLength : Nat
  phase : FeedPhase
  deriving DecidableEq, Repr

/-- The issue unit: issue list oldest first, feed-pending record, starved condition (R46, R54, R58). -/
structure IssueUnit where
  list : List IssueRecord
  feed : Option FeedPending
  starved : Bool
  deriving DecidableEq, Repr

/-! ### Train control (chapter 4) -/

/-- A carrier of the train queue (R67); `content = none` is VOID. -/
structure Carrier where
  content : Option EntryIx
  /-- Of a void carrier, the entry its brick last belonged to, for the bay's VOID content (R143, log entry 36). -/
  former : Option EntryIx
  rootTime : Word
  running : Nat
  deriving DecidableEq, Repr

/-- The train queue, front first, and the drive output, `true` for RUNNING (R67, R73). -/
structure Train where
  queue : List Carrier
  drive : Bool
  /-- The comparison made at the latest increase of the front running time found the latched transit limit reached
  (R75). -/
  limitReached : Bool
  deriving DecidableEq, Repr

/-! ### Station line (chapter 5) -/

/-- The commands of R89, with their operands. -/
inductive StationCommand where
  | query | feed (cutLength : Nat) | spread | take | release | probe | eject (place : HeadPlace)
  deriving DecidableEq, Repr

/-- The states of a station record (R86). -/
inductive StationState where
  | absent | ready | busy | held | faulted | unresponsive
  deriving DecidableEq, Repr

/-- The operation outstanding at a station (R85). The requester of a command is the one R89 names for it. -/
inductive Outstanding where
  | none | command (c : StationCommand) | foreign
  deriving DecidableEq, Repr

/-- A station record (R85). -/
structure Station where
  kind : StationKind
  state : StationState
  operation : Outstanding
  deferred : Option StationCommand
  /-- Milliseconds left of a feeder's hold; `none` is stopped. -/
  hold : Option Nat
  lastError : Half
  retry : Bool
  /-- Next poll due, a time base value, or none. -/
  nextPoll : Option Word
  /-- The poll's QUERY request stands at the arbiter (R96). -/
  pollPending : Bool
  deriving DecidableEq, Repr

/-- The transaction that holds the line (chapter 5): its station, its command and the time of its command frame. -/
structure Transaction where
  position : Position
  command : StationCommand
  sentAt : Word
  deriving DecidableEq, Repr

/-- The station line controller: the table, the line, and the head commands pending at the arbiter, first placed
first (R85, R95). -/
structure StationLine where
  feederA : Station
  feederB : Station
  spreader : Station
  gripper : Station
  transaction : Option Transaction
  headRequests : List StationCommand
  /-- The model's own: the bytes of the latest command frame put on the line (R87). -/
  lastFrame : List Byte
  /-- Stations complete (R83). -/
  complete : Bool
  deriving DecidableEq, Repr

/-! ### Tracking unit (chapter 6) -/

/-- The classes of R111. -/
inductive SampleClass where
  | priming | accepted | corrected | rejected | unstable
  deriving DecidableEq, Repr

/-- The tracking states of R114 to R118. -/
inductive TrackingState where
  | lost | acquiring | tracking | unsteady
  deriving DecidableEq, Repr

/-- A sample H: the reflector pose and its time stamp (R109). -/
structure Sample where
  pose : Pose
  stamp : Word
  deriving DecidableEq, Repr

/-- The tracking unit: receiver, sequence record, history (oldest first), class window (oldest first), loss timer,
tracking state, counters and last sample. -/
structure Tracker where
  /-- The receiver takes bytes (R122). -/
  receiving : Bool
  /-- The bytes of the frame being collected; empty while hunting (R105). -/
  collected : List Byte
  /-- The sequence record (R107). -/
  sequence : Option Byte
  history : List Sample
  window : List SampleClass
  /-- Time since the latest start or restart of the loss timer; `none` is stopped (R117). -/
  lossTimer : Option Nat
  state : TrackingState
  priming : Word
  accepted : Word
  corrected : Word
  rejected : Word
  unstable : Word
  malformed : Word
  nofix : Word
  gaps : Word
  lastPose : Pose
  lastClass : Option SampleClass
  deriving DecidableEq, Repr

/-! ### Trim controller (chapter 7) -/

/-- The attempt record (R123); `decided` is the phase DECIDED. -/
structure Attempt where
  entry : EntryIx
  kind : Kind
  hold : Bool
  target : Pose
  zc : Int
  decided : Bool
  confirmWait : Bool
  deriving DecidableEq, Repr

/-- The trim controller (R123, R124) and its output on the trim drive link (R140, R141). -/
structure Trim where
  /-- The set-point S. -/
  setPoint : Pose
  attempt : Option Attempt
  settleCount : Nat
  tally : Nat
  /-- Accumulated time of the settle timer; `none` is stopped (R132). -/
  settleTimer : Option Nat
  saturated : Nat
  /-- The reach request (R135). -/
  reach : Option EntryIx
  /-- G_z and S_z of the probe decision sample (R136). -/
  settleSample : Option (Int × Int)
  driveEnable : Bool
  outputPending : Bool
  /-- The offset O held by the trim controller (R124). -/
  offset : Pose
  /-- The stage ranges Rx, Ry, Rz, Ryaw held by the trim controller (R124). -/
  range : Pose
  /-- A set-point frame is being sent (R141). -/
  sending : Bool
  /-- The number of the next set-point frame (R140). -/
  nextFrame : Byte
  /-- The model's own: the bytes of the latest set-point frame begun. -/
  lastFrame : List Byte
  deriving DecidableEq, Repr

/-! ### Head sequencer (chapter 8) -/

/-- The content of a place at the head; VOID keeps the index it last belonged to (R143, R144). -/
inductive Content where
  | none | entry (i : EntryIx) | void (former : Option EntryIx)
  deriving DecidableEq, Repr

/-- The bay's states (R143). -/
inductive BayState where
  | empty | arrived | spreading | spread | ejecting
  deriving DecidableEq, Repr

/-- The gripper's states (R144). -/
inductive GripperState where
  | empty | taking | holding | releasing | probing | ejecting
  deriving DecidableEq, Repr

/-- The bay record (R143, R147). -/
structure Bay where
  state : BayState
  content : Content
  /-- Accumulated open time; `none` is stopped (R149). -/
  openTimer : Option Nat
  /-- Root time stamp of the brick's carrier; none for a stray at the bay. -/
  rootTime : Option Word
  /-- The state a failed eject returns to (R162). -/
  ejectFrom : BayState
  deriving DecidableEq, Repr

/-- The gripper record (R144, R153). -/
structure Gripper where
  state : GripperState
  content : Content
  brick : Bool
  openTimer : Option Nat
  confirm : Bool
  /-- The deviation D kept from the release decision (R153). -/
  deviation : Pose
  /-- The settle-sample tally kept from the decision (R153, R155). -/
  tally : Nat
  deriving DecidableEq, Repr

/-- The head sequencer (R143 to R145, R161). -/
structure Head where
  bay : Bay
  gripper : Gripper
  /-- The restart-delay timer; `none` is stopped (R161). -/
  restartTimer : Option Nat
  binCount : Nat
  lastTransit : Word
  lastVoidRelease : Option EntryIx
  deriving DecidableEq, Repr

/-! ### Machine control (chapter 9) -/

/-- The machine states (R168). -/
inductive MachineState where
  | init | idle | run | drain | halt
  deriving DecidableEq, Repr

/-- Machine control (R168, R174, R175, R178, R181). -/
structure Control where
  state : MachineState
  manualRequest : Bool
  manualGrant : Bool
  /-- The boom hold: `true` is MOVING (R181). -/
  boomMoving : Bool
  /-- The level of the emergency line: `true` is asserted (R174). -/
  emergency : Bool
  /-- A HALT request held during INIT (R175). -/
  haltHeld : Bool
  /-- Parts of INIT that have completed (R175): station sense, and the profile latch with the rewriting of the book. -/
  sensed : Bool
  latched : Bool
  /-- The calibration load of this INIT has completed (R193). -/
  loaded : Bool
  deriving DecidableEq, Repr

/-! ### Calibration store (chapter 10.4) -/

/-- The calibration store: 31 nonvolatile calibration words and the checksum word, the valid flag and commit busy. -/
structure Calibration where
  store : Vector Word 32
  valid : Bool
  busy : Bool
  /-- The time base at the acceptance of the commit that is busy (R195). -/
  acceptedAt : Word
  deriving DecidableEq, Repr

/-! ### The status block (R20, R86, R145, 11.5) -/

/-- The course sequencer's fields of the status block: the next-slot pointer and the last-closed summary. -/
structure CoursesShown where
  pointer : Slot
  lastLaid : Half
  lastSum : Word
  deriving DecidableEq, Repr

/-- Train occupancy and void count (R68). -/
structure TrainShown where
  occupancy : Nat
  voids : Nat
  deriving DecidableEq, Repr

/-- The SUPPLY summary (R80). -/
inductive Supply where
  | ready | held | starved
  deriving DecidableEq, Repr

/-- The tracking unit's fields: state, counters, and the last sample with its class (R120). -/
structure TrackingShown where
  state : TrackingState
  priming : Word
  accepted : Word
  corrected : Word
  rejected : Word
  unstable : Word
  malformed : Word
  nofix : Word
  gaps : Word
  lastPose : Pose
  lastClass : Option SampleClass
  deriving DecidableEq, Repr

/-- The reject bin count and the head summary (R145). -/
structure HeadShown where
  binCount : Nat
  bay : BayState
  bayContent : Content
  gripper : GripperState
  gripperContent : Content
  lastTransit : Word
  lastVoidRelease : Option EntryIx
  deriving DecidableEq, Repr

/-- The station summary of one position (R86). -/
structure StationShown where
  kind : StationKind
  state : StationState
  operation : Outstanding
  lastError : Half
  deriving DecidableEq, Repr

/-- The station summary (R86). -/
structure StationsShown where
  feederA : StationShown
  feederB : StationShown
  spreader : StationShown
  gripper : StationShown
  deriving DecidableEq, Repr

/-- What the status block shows: the fields of each owner as its latest update wrote them (R20). -/
structure StatusFields where
  courses : CoursesShown
  train : TrainShown
  supply : Supply
  reach : Option EntryIx
  tracking : TrackingShown
  head : HeadShown
  stations : StationsShown
  deriving DecidableEq, Repr

/-- The status block: its update count and its fields (R20, R22). -/
structure StatusBlock where
  count : Word
  fields : StatusFields
  deriving DecidableEq, Repr

/-! ### The whole part -/

/-- The state of the part. -/
structure State where
  host : HostPort
  book : Book
  status : StatusBlock
  seq : Sequencer
  issue : IssueUnit
  train : Train
  line : StationLine
  tracker : Tracker
  trim : Trim
  head : Head
  control : Control
  cal : Calibration
  /-- The time base, in ms (R184). -/
  time : Word
  /-- The model's own: the counter that free values are applied to. -/
  free : Nat
  /-- The model's own: the commands and events that wait, first in first out. -/
  pending : List Instr
  deriving DecidableEq, Repr

/-- Replace one block and keep the others. -/
def State.withHost (s : State) (x : HostPort) : State := { s with host := x }
@[inherit_doc State.withHost] def State.withBook (s : State) (x : Book) : State := { s with book := x }
@[inherit_doc State.withHost] def State.withStatus (s : State) (x : StatusBlock) : State := { s with status := x }
@[inherit_doc State.withHost] def State.withSeq (s : State) (x : Sequencer) : State := { s with seq := x }
@[inherit_doc State.withHost] def State.withIssue (s : State) (x : IssueUnit) : State := { s with issue := x }
@[inherit_doc State.withHost] def State.withTrain (s : State) (x : Train) : State := { s with train := x }
@[inherit_doc State.withHost] def State.withLine (s : State) (x : StationLine) : State := { s with line := x }
@[inherit_doc State.withHost] def State.withTracker (s : State) (x : Tracker) : State := { s with tracker := x }
@[inherit_doc State.withHost] def State.withTrim (s : State) (x : Trim) : State := { s with trim := x }
@[inherit_doc State.withHost] def State.withHead (s : State) (x : Head) : State := { s with head := x }
@[inherit_doc State.withHost] def State.withControl (s : State) (x : Control) : State := { s with control := x }
@[inherit_doc State.withHost] def State.withCal (s : State) (x : Calibration) : State := { s with cal := x }
@[inherit_doc State.withHost] def State.withTime (s : State) (x : Word) : State := { s with time := x }
@[inherit_doc State.withHost] def State.withFree (s : State) (x : Nat) : State := { s with free := x }
@[inherit_doc State.withHost] def State.withPending (s : State) (x : List Instr) : State := { s with pending := x }

/-! ### Reset values -/

/-- The default profile of R18. -/
def Profile.default : Profile where
  toleranceXY := 10
  toleranceZ := 5
  toleranceYaw := 20
  slewXY := 20
  slewZ := 20
  slewYaw := 10
  windowXYZ := 30
  windowYaw := 50
  settleCount := 5
  settleLimit := 8000
  reachCount := 100
  lossExponent := 7
  recoveryMode := .holdThenFail
  restartDelay := 2000
  unsteadyOn := 6
  unsteadyOff := 2
  openTime := 120
  transitLimit := 20
  workingPoll := 10
  zmax := 30
  probeClearance := 200
  preferredFeeder := .a
  earlySpread := false

/-- The pose 0, 0, 0, 0. -/
def Pose.zero : Pose := ⟨0, 0, 0, 0⟩

/-- An EMPTY bay (R167); its other fields hold what log entry 27 names. -/
def Bay.cleared : Bay := ⟨.empty, .none, none, none, .empty⟩

/-- An EMPTY gripper (R167); its other fields hold what log entry 27 names. -/
def Gripper.cleared : Gripper := ⟨.empty, .none, false, none, false, .zero, 0⟩

/-- A station record before station sense (R85). -/
def Station.unsensed : Station := ⟨.absent, .absent, .none, none, none, 0, false, none, false⟩

/-- The book as power-on leaves it (R23): all zero but for the layout version and the profile defaults of R18, at the
offsets of R197, each word stored little-endian. -/
def Memory.powerOn : Memory :=
  [(0x0000, 1), (0x0020, 10), (0x0024, 5), (0x0028, 20), (0x002C, 20), (0x0030, 20), (0x0034, 10),
   (0x0038, 30), (0x003C, 50), (0x0040, 5), (0x0044, 0x40), (0x0045, 0x1F), (0x0048, 100), (0x004C, 7),
   (0x0050, 0xD0), (0x0051, 0x07), (0x0054, 6), (0x0058, 2), (0x005C, 120), (0x0060, 20), (0x0064, 10),
   (0x0068, 30), (0x006C, 200), (0x0078, 1)]

/-- The status block after power-on reads 0 (R23): every summary empty, every count 0. -/
def StatusBlock.powerOn : StatusBlock where
  count := 0
  fields :=
    { courses := ⟨0, 0, 0⟩
      train := ⟨0, 0⟩
      supply := .ready
      reach := none
      tracking := ⟨.lost, 0, 0, 0, 0, 0, 0, 0, 0, .zero, none⟩
      head := ⟨0, .empty, .none, .empty, .none, 0, none⟩
      stations := ⟨⟨.absent, .absent, .none, 0⟩, ⟨.absent, .absent, .none, 0⟩, ⟨.absent, .absent, .none, 0⟩,
        ⟨.absent, .absent, .none, 0⟩⟩ }

/-- The part at the instant of power-on (R23, R45, R122, R123, R142, R167, R177, R191): the book cleared and its header
written, every block in its power-on state, INIT begun and none of its work done. The profile is latched at the first INIT
only (R25): what stands in the sequencer before that latch is the model's choice, the defaults of R18 (log entry 27). -/
def State.reset : State where
  host := ⟨0, 0, false, 0⟩
  book := ⟨.powerOn⟩
  status := .powerOn
  seq := ⟨0, none, false, .default, 0, 0⟩
  issue := ⟨[], none, false⟩
  train := ⟨[], false, false⟩
  line := ⟨.unsensed, .unsensed, .unsensed, .unsensed, none, [], [], false⟩
  tracker := ⟨false, [], none, [], [], none, .lost, 0, 0, 0, 0, 0, 0, 0, 0, .zero, none⟩
  trim := ⟨.zero, none, 0, 0, none, 0, none, none, true, false, .zero, ⟨1, 1, 1, 1⟩, false, 0, []⟩
  head := ⟨.cleared, .cleared, none, 0, 0, none⟩
  control := ⟨.init, false, false, false, false, false, false, false, false⟩
  cal := ⟨Vector.replicate 32 0, false, false, 0⟩
  time := 0
  free := 0
  pending := []

end Sys2Proof.Machine
end

