-- ==== Sys2Proof/Machine/Ops.lean ====
section
/-! DEFINITION. The named operations over the book's memory and over its records: bytes, words and bit fields, the
addresses of the layouts chapter (R2, R197), and reading and writing the fields of entries and course records. -/

namespace Sys2Proof.Machine

/-! ### Fixed numbers of the manual -/

/-- The issue list holds at most 12 records (R46). -/
def issueListMax : Nat := 12
/-- The train queue holds at most 8 carriers (R67). -/
def trainMax : Nat := 8
/-- The reject bin count lies in 0..12 (R145). -/
def binMax : Nat := 12
/-- The feed timer, in ms (R56). -/
def feedTimerMs : Nat := 8000
/-- The reply deadline, in ms (R98). -/
def replyDeadlineMs : Nat := 10
/-- The polling period of a station with no operation and no deferred request, in ms (R86, R96). -/
def idlePollMs : Nat := 250

/-! ### Bytes -/

/-- One byte of the book's memory; what is not listed reads 0 (R23). -/
def Memory.read : Memory → Nat → Byte
  | [], _ => 0
  | (a, b) :: m, x => if a = x then b else Memory.read m x

/-- Store one byte, keeping the canonical form: addresses strictly rising, no byte 0 listed. -/
def Memory.write : Memory → Nat → Byte → Memory
  | [], x, v => if v = 0 then [] else [(x, v)]
  | (a, b) :: m, x, v =>
    if x < a then (if v = 0 then (a, b) :: m else (x, v) :: (a, b) :: m)
    else if x = a then (if v = 0 then m else (x, v) :: m)
    else (a, b) :: Memory.write m x v

/-- The canonical form from address `lo` on, within the 64 KiB window. -/
def Memory.wfFrom : Nat → Memory → Bool
  | _, [] => true
  | lo, (a, b) :: m => decide (lo ≤ a) && decide (a < 0x10000) && decide (b ≠ 0) && Memory.wfFrom (a + 1) m

/-- The book's memory is in canonical form. -/
def Memory.wf (m : Memory) : Bool := Memory.wfFrom 0 m

/-! ### Words and bit fields -/

/-- The little-endian word at an address (Conventions, Memory access). -/
def Memory.readWord (m : Memory) (a : Nat) : Word :=
  m.read (a + 3) ++ (m.read (a + 2) ++ (m.read (a + 1) ++ m.read a))

/-- Store a little-endian word. -/
def Memory.writeWord (m : Memory) (a : Nat) (v : Word) : Memory :=
  (((m.write a (v.extractLsb' 0 8)).write (a + 1) (v.extractLsb' 8 8)).write (a + 2) (v.extractLsb' 16 8)).write (a + 3)
    (v.extractLsb' 24 8)

/-- The `n`-bit field of a word that begins at bit `lo` (R197). -/
def field (v : Word) (lo n : Nat) : Nat := (v.extractLsb' lo n).toNat

/-- The signed 16-bit field that begins at bit `lo` (R197). -/
def fieldSigned (v : Word) (lo : Nat) : Int := (v.extractLsb' lo 16).toInt

/-- A word whose `n` bits from bit `lo` are ones. -/
def fieldMask (lo n : Nat) : Word := BitVec.ofNat 32 ((2 ^ n - 1) * 2 ^ lo)

/-- Replace the `n`-bit field that begins at bit `lo`, keeping the other bits. -/
def putField (v : Word) (lo n : Nat) (x : Nat) : Word :=
  (v &&& ~~~(fieldMask lo n)) ||| (BitVec.ofNat 32 ((x % 2 ^ n) * 2 ^ lo))

/-- The 16 bits of a signed value in a 16-bit field (R197). -/
def signed16 (x : Int) : Nat := (BitVec.ofInt 16 x).toNat

/-- The word at an address of the book's memory. -/
def State.word (s : State) (a : Nat) : Word := s.book.cells.readWord a

/-- Write one word of the book's memory. -/
def State.setWord (s : State) (a : Nat) (v : Word) : State :=
  s.withBook { s.book with cells := s.book.cells.writeWord a v }

/-! ### Updates of the status block (R20, R22)

Each owner's change of its fields is one update: the count rises by 1, the fields are written, and it rises by 1 again.
Where no field has a new value no update is made (log entry 7). -/

/-- One update of the status block (R22). -/
def StatusBlock.update (b : StatusBlock) (f : StatusFields) : StatusBlock :=
  if f = b.fields then b else ⟨b.count + 2, f⟩

/-- Write status fields in one update. -/
def State.updateStatus (s : State) (f : StatusFields) : State := s.withStatus (s.status.update f)

/-- What the course sequencer shows (R39). -/
def Sequencer.shown (q : Sequencer) : CoursesShown := ⟨q.pointer, q.lastLaid, q.lastSum⟩

/-- The number of void carriers (R68). -/
def Train.voids (t : Train) : Nat := (t.queue.filter fun c => decide (c.content = none)).length

/-- Train occupancy and void count (R68). -/
def Train.shown (t : Train) : TrainShown := ⟨t.queue.length, t.voids⟩

/-- The SUPPLY summary: STARVED, else HELD, else READY (R80). -/
def State.supply (s : State) : Supply :=
  if s.issue.starved then .starved
  else if s.line.feederA.state = .held ∨ s.line.feederB.state = .held then .held
  else .ready

/-- What the tracking unit shows (R120). -/
def Tracker.shown (t : Tracker) : TrackingShown :=
  ⟨t.state, t.priming, t.accepted, t.corrected, t.rejected, t.unstable, t.malformed, t.nofix, t.gaps, t.lastPose,
   t.lastClass⟩

/-- What the head sequencer shows (R145). -/
def Head.shown (h : Head) : HeadShown :=
  ⟨h.binCount, h.bay.state, h.bay.content, h.gripper.state, h.gripper.content, h.lastTransit, h.lastVoidRelease⟩

/-- What the station summary shows of a station (R86). -/
def Station.shown (x : Station) : StationShown := ⟨x.kind, x.state, x.operation, x.lastError⟩

/-- The station summary (R86). -/
def StationLine.shown (l : StationLine) : StationsShown :=
  ⟨l.feederA.shown, l.feederB.shown, l.spreader.shown, l.gripper.shown⟩

/-- The fields of the status block as their owners' state gives them (R20). -/
def State.statusNow (s : State) : StatusFields :=
  ⟨s.seq.shown, s.train.shown, s.supply, s.trim.reach, s.tracker.shown, s.head.shown, s.line.shown⟩

/-- Next-slot pointer and last-closed summary, written at a closing (R29, R38). -/
def State.showCourses (s : State) : State := s.updateStatus { s.status.fields with courses := s.seq.shown }
/-- Train occupancy and void count, written at an append, a pop, a displacement and an entry to HALT (R68). -/
def State.showTrain (s : State) : State := s.updateStatus { s.status.fields with train := s.train.shown }
/-- The reach request, written when it is set and when it is cleared (R135). -/
def State.showReach (s : State) : State := s.updateStatus { s.status.fields with reach := s.trim.reach }
/-- The tracking unit's fields, written for each frame judged and each expiry (R120). -/
def State.showTracking (s : State) : State := s.updateStatus { s.status.fields with tracking := s.tracker.shown }
/-- The reject bin count and the head summary, written at each change (R145). -/
def State.showHead (s : State) : State := s.updateStatus { s.status.fields with head := s.head.shown }
/-- The station summary, written at each change of a station record (R86). -/
def State.showStations (s : State) : State := s.updateStatus { s.status.fields with stations := s.line.shown }

/-- The head sequencer changes its records and shows the change (R145). -/
def State.putHead (s : State) (h : Head) : State := (s.withHead h).showHead

/-! ### Addresses (R2, R197) -/

/-- Word `w` of the entry of index `i`. -/
def entryAddr (i : EntryIx) (w : Nat) : Nat := 0x0800 + 64 * i.val + 4 * w

/-- Word `w` of the course record of slot `k`. -/
def courseAddr (k : Slot) (w : Nat) : Nat := 0x0100 + 64 * k.val + 4 * w

/-- Word `j` of the calibration image. -/
def imageAddr (j : Nat) : Nat := 0x0600 + 4 * j

/-- The layout version word. -/
def layoutVersionAddr : Nat := 0x0000
/-- The boom word. -/
def boomWordAddr : Nat := 0x0004
/-- The bin-emptied word. -/
def binEmptiedAddr : Nat := 0x0008

/-- The jog words (R197, 11.4). -/
def jogAddr : Axis → Nat
  | .x => 0x0010
  | .y => 0x0014
  | .z => 0x0018
  | .yaw => 0x001C

/-- The word number, within an entry, of each word that is not the state word or spare (R197, 11.2). -/
def entryWordNumber : EntryWord → Nat
  | .kindFlags => 1
  | .cutLength => 2
  | .targetX => 3
  | .targetY => 4
  | .targetZ => 5
  | .targetYaw => 6
  | .attempts => 7
  | .deviationXY => 8
  | .deviationZYaw => 9
  | .correctionSamples => 10
  | .probeMeasuredZ => 11
  | .probeDeviation => 12
  | .completionTime => 13

/-- The bits of an entry's word that carry fields; a host write's other bits are ignored (R197, 11.2). -/
def entryWordMask : EntryWord → Word
  | .kindFlags => 0x070F0FFF
  | .cutLength => 0x0000FFFF
  | .attempts => 0x000F0707
  | .probeDeviation => 0x0000FFFF
  | .targetX | .targetY | .targetZ | .targetYaw | .deviationXY | .deviationZYaw | .correctionSamples
  | .probeMeasuredZ | .completionTime => 0xFFFFFFFF

/-- The word number, within a course record, of each word that is not the state word (R197, 11.3). -/
def courseWordNumber : CourseWord → Nat
  | .updateCount => 0
  | .firstEntry => 2
  | .entryCount => 3
  | .flags => 4
  | .result => 5
  | .remainingLaid => 6
  | .probedFailed => 7
  | .cancelledApplied => 8
  | .deviationZSum => 9
  | .maxXY => 10
  | .maxZYaw => 11
  | .appliedProbeSum => 12
  | .carriedCorrection => 13
  | .activationTime => 14
  | .closingTime => 15

/-- The bits of a course record's word that carry fields (R197, 11.3). -/
def courseWordMask : CourseWord → Word
  | .flags => 0x0000FF01
  | .result => 0x000000FF
  | .updateCount | .firstEntry | .entryCount | .remainingLaid | .probedFailed | .cancelledApplied
  | .deviationZSum | .maxXY | .maxZYaw | .appliedProbeSum | .carriedCorrection | .activationTime
  | .closingTime => 0xFFFFFFFF

/-- The addresses of the profile words (R197, 11.4). -/
def profileAddr : ProfileField → Nat
  | .toleranceXY => 0x0020
  | .toleranceZ => 0x0024
  | .toleranceYaw => 0x0028
  | .slewXY => 0x002C
  | .slewZ => 0x0030
  | .slewYaw => 0x0034
  | .windowXYZ => 0x0038
  | .windowYaw => 0x003C
  | .settleCount => 0x0040
  | .settleLimit => 0x0044
  | .reachCount => 0x0048
  | .lossExponent => 0x004C
  | .restartDelay => 0x0050
  | .unsteadyOn => 0x0054
  | .unsteadyOff => 0x0058
  | .openTime => 0x005C
  | .transitLimit => 0x0060
  | .workingPoll => 0x0064
  | .zmax => 0x0068
  | .probeClearance => 0x006C
  | .preferredFeeder => 0x0070
  | .earlySpread => 0x0074
  | .recoveryMode => 0x0078

/-- The default of each profile word (R18). -/
def profileDefault : ProfileField → Word
  | .toleranceXY => 10
  | .toleranceZ => 5
  | .toleranceYaw => 20
  | .slewXY => 20
  | .slewZ => 20
  | .slewYaw => 10
  | .windowXYZ => 30
  | .windowYaw => 50
  | .settleCount => 5
  | .settleLimit => 8000
  | .reachCount => 100
  | .lossExponent => 7
  | .restartDelay => 2000
  | .unsteadyOn => 6
  | .unsteadyOff => 2
  | .openTime => 120
  | .transitLimit => 20
  | .workingPoll => 10
  | .zmax => 30
  | .probeClearance => 200
  | .preferredFeeder => 0
  | .earlySpread => 0
  | .recoveryMode => 1

/-- The 23 profile words. -/
def profileFields : List ProfileField :=
  [.toleranceXY, .toleranceZ, .toleranceYaw, .slewXY, .slewZ, .slewYaw, .windowXYZ, .windowYaw, .settleCount,
   .settleLimit, .reachCount, .lossExponent, .restartDelay, .unsteadyOn, .unsteadyOff, .openTime, .transitLimit,
   .workingPoll, .zmax, .probeClearance, .preferredFeeder, .earlySpread, .recoveryMode]

/-! ### Entries (R3 to R5, 11.2) -/

/-- The ten states of an entry (R3). -/
inductive EntryState where
  | free | posted | issued | transit | head | placing | laid | probed | failed | cancelled
  deriving DecidableEq, Repr

/-- The code of an entry state (R3). -/
def entryCodeOf : EntryState → Byte
  | .free => 0x00
  | .posted => 0x01
  | .issued => 0x02
  | .transit => 0x03
  | .head => 0x04
  | .placing => 0x05
  | .laid => 0x08
  | .probed => 0x09
  | .failed => 0x0A
  | .cancelled => 0x0B

/-- The state a code names; the other codes are not states (R3). -/
def entryStateOf (c : Byte) : Option EntryState :=
  if c = 0x00 then some .free
  else if c = 0x01 then some .posted
  else if c = 0x02 then some .issued
  else if c = 0x03 then some .transit
  else if c = 0x04 then some .head
  else if c = 0x05 then some .placing
  else if c = 0x08 then some .laid
  else if c = 0x09 then some .probed
  else if c = 0x0A then some .failed
  else if c = 0x0B then some .cancelled
  else none

/-- ISSUED, TRANSIT, HEAD and PLACING are the in-flight states (R3). -/
def EntryState.inFlight : EntryState → Bool
  | .issued | .transit | .head | .placing => true
  | .free | .posted | .laid | .probed | .failed | .cancelled => false

/-- LAID, PROBED, FAILED and CANCELLED are the terminal states (R3). -/
def EntryState.terminal : EntryState → Bool
  | .laid | .probed | .failed | .cancelled => true
  | .free | .posted | .issued | .transit | .head | .placing => false

/-- The code in the state word of an entry. -/
def State.entryCode (s : State) (i : EntryIx) : Byte := (s.word (entryAddr i 0)).extractLsb' 0 8

/-- The state of an entry. -/
def State.entryState (s : State) (i : EntryIx) : Option EntryState := entryStateOf (s.entryCode i)

/-- Write the state word of an entry; its other bits read 0 (R3). -/
def State.setEntryState (s : State) (i : EntryIx) (e : EntryState) : State :=
  s.setWord (entryAddr i 0) ((entryCodeOf e).zeroExtend 32)

/-- One access that examines the state word and replaces it: a state other than the one required is left as it is
(R12). -/
def State.moveEntry (s : State) (i : EntryIx) (required next : EntryState) : State :=
  if s.entryState i = some required then s.setEntryState i next else s

/-- The word of an entry that holds kind, flags, slot and max attempts. -/
def State.kindWord (s : State) (i : EntryIx) : Word := s.word (entryAddr i 1)

/-- The kind code LAY (R4). -/
def kindLay : Nat := 1
/-- The kind code PROBE (R4). -/
def kindProbe : Nat := 2

/-- The kind code of an entry (R4). -/
def State.entryKind (s : State) (i : EntryIx) : Nat := field (s.kindWord i) 0 8
/-- The SINGLE flag (R4). -/
def State.entrySingle (s : State) (i : EntryIx) : Bool := (s.kindWord i).getLsbD 8
/-- The CUT flag (R4). -/
def State.entryCut (s : State) (i : EntryIx) : Bool := (s.kindWord i).getLsbD 9
/-- The HOLD flag (R4). -/
def State.entryHold (s : State) (i : EntryIx) : Bool := (s.kindWord i).getLsbD 10
/-- The APPLY flag (R4). -/
def State.entryApply (s : State) (i : EntryIx) : Bool := (s.kindWord i).getLsbD 11
/-- The course slot field (R4). -/
def State.entrySlot (s : State) (i : EntryIx) : Nat := field (s.kindWord i) 16 4
/-- The max attempts field (R4). -/
def State.entryMaxAttempts (s : State) (i : EntryIx) : Nat := field (s.kindWord i) 24 3
/-- The cut length field (R4). -/
def State.entryCutLength (s : State) (i : EntryIx) : Nat := field (s.word (entryAddr i 2)) 0 16
/-- The target: position signed, yaw unsigned (R4). -/
def State.entryTarget (s : State) (i : EntryIx) : Pose :=
  ⟨(s.word (entryAddr i 3)).toInt, (s.word (entryAddr i 4)).toInt, (s.word (entryAddr i 5)).toInt,
   ((s.word (entryAddr i 6)).toNat : Int)⟩
/-- The attempts used field (R5). -/
def State.entryAttempts (s : State) (i : EntryIx) : Nat := field (s.word (entryAddr i 7)) 0 3

/-- Effective max attempts: 1 when SINGLE is set, otherwise max attempts with 0 taken as 1 (R4). -/
def effectiveMax (single : Bool) (maxAttempts : Nat) : Nat :=
  if single then 1 else if maxAttempts = 0 then 1 else maxAttempts

/-- Result codes (R5). -/
inductive ResultCode where
  | none | done | invalid | settleTimeout | openTime | trackLost | gripFault | cancelled
  deriving DecidableEq, Repr

/-- The code of a result (R197). -/
def resultCodeOf : ResultCode → Nat
  | .none => 0
  | .done => 1
  | .invalid => 2
  | .settleTimeout => 3
  | .openTime => 4
  | .trackLost => 5
  | .gripFault => 6
  | .cancelled => 7

/-- Reasons of a failed attempt (R5, R59). -/
inductive Reason where
  | settleTimeout | openTime | trackLost | gripFault
  deriving DecidableEq, Repr

/-- The code of a reason in the last reason field (R197). -/
def reasonCodeOf : Reason → Nat
  | .settleTimeout => 1
  | .openTime => 2
  | .trackLost => 3
  | .gripFault => 4

/-- The result code of a final failure (R62). -/
def reasonResult : Reason → ResultCode
  | .settleTimeout => .settleTimeout
  | .openTime => .openTime
  | .trackLost => .trackLost
  | .gripFault => .gripFault

/-- Write attempts used and last reason (R59). -/
def State.setAttempt (s : State) (i : EntryIx) (used : Nat) (r : Reason) : State :=
  let w := s.word (entryAddr i 7)
  s.setWord (entryAddr i 7) (putField (putField w 0 3 used) 8 3 (reasonCodeOf r))

/-- Write the result code (R5). -/
def State.setResult (s : State) (i : EntryIx) (r : ResultCode) : State :=
  s.setWord (entryAddr i 7) (putField (s.word (entryAddr i 7)) 16 4 (resultCodeOf r))

/-- Make an entry terminal: result code, then completion time stamp, then the state word (R6). -/
def State.finishEntry (s : State) (i : EntryIx) (e : EntryState) (r : ResultCode) : State :=
  ((s.setResult i r).setWord (entryAddr i 13) s.time).setEntryState i e

/-- Clear the part-written fields of an entry (R7). -/
def State.clearPartFields (s : State) (i : EntryIx) : State :=
  ((((((s.setWord (entryAddr i 7) 0).setWord (entryAddr i 8) 0).setWord (entryAddr i 9) 0).setWord (entryAddr i 10)
    0).setWord (entryAddr i 11) 0).setWord (entryAddr i 12) 0).setWord (entryAddr i 13) 0

/-- At a control reset every entry in ISSUED, TRANSIT, HEAD or PLACING returns to POSTED (R24): the state byte of an
entry lies at the entry's own address. -/
def Memory.returnInFlight (m : Memory) : Memory :=
  m.map fun c =>
    if 0x0800 ≤ c.1 ∧ c.1 % 64 = 0 ∧ 2 ≤ c.2.toNat ∧ c.2.toNat ≤ 5 then (c.1, entryCodeOf .posted) else c

/-! ### Course records (R13, R14, 11.3) -/

/-- The states of a course record (R14). -/
inductive CourseState where
  | empty | opened | active | closed
  deriving DecidableEq, Repr

/-- The code of a course state (R14). -/
def courseCodeOf : CourseState → Byte
  | .empty => 0x00
  | .opened => 0x01
  | .active => 0x02
  | .closed => 0x03

/-- The state a code names (R14). -/
def courseStateOf (c : Byte) : Option CourseState :=
  if c = 0x00 then some .empty
  else if c = 0x01 then some .opened
  else if c = 0x02 then some .active
  else if c = 0x03 then some .closed
  else none

/-- The code in the state word of a course record. -/
def State.courseCode (s : State) (k : Slot) : Byte := (s.word (courseAddr k 1)).extractLsb' 0 8

/-- The state of a course record. -/
def State.courseState (s : State) (k : Slot) : Option CourseState := courseStateOf (s.courseCode k)

/-- Write the state word of a course record. -/
def State.setCourseState (s : State) (k : Slot) (c : CourseState) : State :=
  s.setWord (courseAddr k 1) ((courseCodeOf c).zeroExtend 32)

/-- First entry index of a course (R13). -/
def State.courseFirst (s : State) (k : Slot) : Nat := (s.word (courseAddr k 2)).toNat
/-- Entry count of a course (R13). -/
def State.courseCount (s : State) (k : Slot) : Nat := (s.word (courseAddr k 3)).toNat
/-- Strict-order flag of a course (R13). -/
def State.courseStrict (s : State) (k : Slot) : Bool := (s.word (courseAddr k 4)).getLsbD 0

/-- Correction modes (R13). -/
inductive CorrectionMode where
  | none | laid | probe
  deriving DecidableEq, Repr

/-- Correction mode of a course; codes other than LAID and PROBE are taken as NONE (R13). -/
def State.courseMode (s : State) (k : Slot) : CorrectionMode :=
  let c := field (s.word (courseAddr k 4)) 8 8
  if c = 1 then .laid else if c = 2 then .probe else .none

/-- An entry index lies in the range of a course: from first to first + count − 1 (R9). -/
def State.inCourse (s : State) (k : Slot) (i : EntryIx) : Bool :=
  decide (s.courseFirst k ≤ i.val ∧ i.val < s.courseFirst k + s.courseCount k)

/-- The entries of a course in ascending index order. -/
def State.courseEntries (s : State) (k : Slot) : List EntryIx :=
  (List.range' (s.courseFirst k) (min (s.courseCount k) 992)).filterMap fun n =>
    if h : n < 992 then some ⟨n, h⟩ else none

/-- One update of a course record: its update count has been raised twice (R22). -/
def State.bumpCourse (s : State) (k : Slot) : State :=
  s.setWord (courseAddr k 0) (s.word (courseAddr k 0) + 2)

/-- The counts, sums and maxima of a course record, and its Zc (R13). -/
structure CourseFigures where
  remaining : Nat
  laid : Nat
  probed : Nat
  failed : Nat
  cancelled : Nat
  devSum : Int
  maxX : Nat
  maxY : Nat
  maxZ : Nat
  maxYaw : Nat
  applied : Nat
  appliedSum : Int
  zc : Int
  deriving DecidableEq, Repr

/-- Figures that are all 0 (R29, R30). -/
def CourseFigures.zero : CourseFigures := ⟨0, 0, 0, 0, 0, 0, 0, 0, 0, 0, 0, 0, 0⟩

/-- Read the figures of a course record. -/
def State.courseFigures (s : State) (k : Slot) : CourseFigures where
  remaining := field (s.word (courseAddr k 6)) 0 16
  laid := field (s.word (courseAddr k 6)) 16 16
  probed := field (s.word (courseAddr k 7)) 0 16
  failed := field (s.word (courseAddr k 7)) 16 16
  cancelled := field (s.word (courseAddr k 8)) 0 16
  devSum := (s.word (courseAddr k 9)).toInt
  maxX := field (s.word (courseAddr k 10)) 0 16
  maxY := field (s.word (courseAddr k 10)) 16 16
  maxZ := field (s.word (courseAddr k 11)) 0 16
  maxYaw := field (s.word (courseAddr k 11)) 16 16
  applied := field (s.word (courseAddr k 8)) 16 16
  appliedSum := (s.word (courseAddr k 12)).toInt
  zc := (s.word (courseAddr k 13)).toInt

/-- Two 16-bit values in the halves of a word, the first in bits 15..0. -/
def packHalves (lo hi : Nat) : Word := BitVec.ofNat 32 (lo % 65536 + (hi % 65536) * 65536)

/-- A sum in a signed 32-bit field; outside the field's range the manual states no value, and open value `n` stands
there (log entry 9). -/
def State.narrowSum (s : State) (n : Nat) (x : Int) : Word :=
  if -2147483648 ≤ x ∧ x ≤ 2147483647 then BitVec.ofInt 32 x else Config.freeWord n s.free

/-- The deviation Z sum as its field takes it. -/
def State.narrowDevSum (s : State) (x : Int) : Word := s.narrowSum 1 x

/-- The applied-probe sum as its field takes it. -/
def State.narrowAppliedSum (s : State) (x : Int) : Word := s.narrowSum 3 x

/-- Write the figures of a course record. -/
def State.setCourseFigures (s : State) (k : Slot) (f : CourseFigures) : State :=
  (((((((s.setWord (courseAddr k 6) (packHalves f.remaining f.laid)).setWord (courseAddr k 7)
    (packHalves f.probed f.failed)).setWord (courseAddr k 8) (packHalves f.cancelled f.applied)).setWord (courseAddr k 9)
    (s.narrowDevSum f.devSum)).setWord (courseAddr k 10) (packHalves f.maxX f.maxY)).setWord (courseAddr k 11)
    (packHalves f.maxZ f.maxYaw)).setWord (courseAddr k 12) (s.narrowAppliedSum f.appliedSum)).setWord (courseAddr k 13)
    (BitVec.ofInt 32 f.zc)

/-! ### Stations (R85) -/

/-- The record of a position. -/
def StationLine.at (l : StationLine) : Position → Station
  | .feederA => l.feederA
  | .feederB => l.feederB
  | .spreader => l.spreader
  | .gripper => l.gripper

/-- Replace the record of a position. -/
def StationLine.put (l : StationLine) (p : Position) (x : Station) : StationLine :=
  match p with
  | .feederA => { l with feederA := x }
  | .feederB => { l with feederB := x }
  | .spreader => { l with spreader := x }
  | .gripper => { l with gripper := x }

/-- The number of a position (R83). -/
def positionNumber : Position → Nat
  | .feederA => 0
  | .feederB => 1
  | .spreader => 2
  | .gripper => 3

/-- The position of a feeder (R54). -/
def feederPosition : Feeder → Position
  | .a => .feederA
  | .b => .feederB

/-- The four positions in order. -/
def positions : List Position := [.feederA, .feederB, .spreader, .gripper]

/-- A position of a feeder. -/
def isFeederPosition : Position → Bool
  | .feederA | .feederB => true
  | .spreader | .gripper => false

/-- Replace a station record; a change of what the summary shows of it is one update (R86). -/
def State.setStation (s : State) (p : Position) (x : Station) : State := (s.withLine (s.line.put p x)).showStations

/-- A feeder is READY in the station table. -/
def State.feederReady (s : State) (f : Feeder) : Bool :=
  decide ((s.line.at (feederPosition f)).state = .ready)

/-! ### Issue list (R46) -/

/-- The record of an entry in the issue list. -/
def State.issueRecord (s : State) (i : EntryIx) : Option IssueRecord := s.issue.list.find? fun r => r.entry = i

/-- Take the record of an entry out of the list; the others keep their order (R46). -/
def State.removeRecord (s : State) (i : EntryIx) : State :=
  s.withIssue { s.issue with list := s.issue.list.filter fun r => r.entry ≠ i }

/-- Set the brick location in the record of an entry (R47). -/
def State.setLocation (s : State) (i : EntryIx) (l : Location) : State :=
  s.withIssue { s.issue with list := s.issue.list.map fun r => if r.entry = i then { r with location := l } else r }

end Sys2Proof.Machine
end

