-- ==== Sys2Proof/Machine/Flags.lean ====
section
/-! DEFINITION. The cause bits, the mask and the attention interrupt (R187 to R191), and the values of the STATE
register (R186). -/

namespace Sys2Proof.Machine

/-- The bit of a cause (R187). -/
def causeBit : Cause → Nat
  | .courseClosed => 0
  | .entryFailed => 1
  | .confirmWait => 2
  | .reach => 3
  | .trackLost => 4
  | .unsteady => 5
  | .stationFault => 6
  | .headStation => 7
  | .supplyStarved => 8
  | .binFull => 9
  | .trainFault => 10
  | .halted => 11
  | .manualGranted => 12
  | .bookWriteRefused => 13
  | .cmdRefused => 14
  | .calDone => 15
  | .calRejected => 16

/-- The cause register with only this cause's bit set. -/
def causeMask (c : Cause) : BitVec 17 := BitVec.ofNat 17 (2 ^ causeBit c)

/-- Raise a cause: its bit is set, and stays set if it was (R187). -/
def State.raise (s : State) (c : Cause) : State := s.withHost { s.host with cause := s.host.cause ||| causeMask c }

/-- A host write that the book monitor discards has no effect on the book and sets BOOK_WRITE_REFUSED (Conventions,
R187). -/
def State.discardWrite (s : State) : State := s.raise .bookWriteRefused

/-- A refused command changes no state and sets CMD_REFUSED (R169). -/
def State.refuseCommand (s : State) : State := s.raise .cmdRefused

/-- The attention interrupt stands while a cause bit is set whose mask bit is set (R190). -/
def attentionLevel (h : HostPort) : Bool := decide (h.cause &&& h.mask ≠ 0)

/-- Evaluate the attention interrupt (R190). -/
def State.evalAttention (s : State) : State := s.withHost { s.host with attention := attentionLevel s.host }

/-- The code of a machine state in STATE (R186). -/
def machineCode : MachineState → Word
  | .init => 0
  | .idle => 1
  | .run => 2
  | .drain => 3
  | .halt => 4

/-- A flag at a bit position of a register word. -/
def flagBit (b : Bool) (n : Nat) : Word := if b then BitVec.ofNat 32 (2 ^ n) else 0

/-- The STATE register (R186). -/
def State.stateRegister (s : State) : Word :=
  machineCode s.control.state ||| flagBit s.control.manualGrant 8 ||| flagBit s.cal.valid 9 ||| flagBit s.cal.busy 10
    ||| flagBit s.control.emergency 11 ||| flagBit s.line.complete 12

end Sys2Proof.Machine
end

