-- ==== Sys2Proof/Machine/Operands.lean ====
section
/-! DEFINITION. How operands are read and formed: byte lanes, clamped profile words, yaw differences, the frames of the
station line, the tracker link and the trim drive link, and the host's view of the book and of the register window. -/

namespace Sys2Proof.Machine

/-! ### Byte lanes (R1, R182) -/

/-- The bits of a word that lie in the bytes an access carries. -/
def laneMask (lanes : BitVec 4) : Word :=
  (if lanes.getLsbD 0 then 0x000000FF else 0) ||| (if lanes.getLsbD 1 then 0x0000FF00 else 0) |||
    (if lanes.getLsbD 2 then 0x00FF0000 else 0) ||| (if lanes.getLsbD 3 then 0xFF000000 else 0)

/-- All four bytes of a word. -/
def fullLanes : BitVec 4 := 0xF

/-! ### Ranges and yaw (Conventions) -/

/-- The nearest value within a range (Conventions: clamped). -/
def clampInt (lo hi x : Int) : Int := if x < lo then lo else if hi < x then hi else x

/-- A yaw difference, wrapped into −18000..+17999 by adding or subtracting 36000 (Conventions). -/
def wrapYaw (d : Int) : Int := (d + 18000) % 36000 - 18000

/-- A yaw stored as a pose, brought into 0..35999 (Conventions). -/
def poseYaw (d : Int) : Int := d % 36000

/-- The magnitude of a difference. -/
def magnitude (x : Int) : Int := if x < 0 then -x else x

/-! ### The profile (R18, R19) -/

/-- A profile word, read as a signed 32-bit integer and clamped to the range of its field (R18). -/
def State.profileInt (s : State) (f : ProfileField) (lo hi : Int) : Int := clampInt lo hi (s.word (profileAddr f)).toInt

/-- A profile word clamped to a range that does not go below 0. -/
def State.profileNat (s : State) (f : ProfileField) (lo hi : Nat) : Nat := (s.profileInt f lo hi).toNat

/-- Loss recovery codes: codes other than 1 and 2 are taken as HOLD_ONLY (R18). -/
def recoveryModeOf (v : Word) : RecoveryMode := if v = 1 then .holdThenFail else if v = 2 then .fail else .holdOnly

/-- Preferred feeder codes: codes other than 1 are taken as A (R18). -/
def preferredFeederOf (v : Word) : Feeder := if v = 1 then .b else .a

/-- The unsteady-off threshold, held below the on threshold latched with it (R18). -/
def unsteadyOffOf (on off : Nat) : Nat := if on ≤ off then on - 1 else off

/-- The profile as a latch reads it: every word once, clamped (R18, R19). -/
def State.readProfile (s : State) : Profile where
  toleranceXY := s.profileInt .toleranceXY 1 100
  toleranceZ := s.profileInt .toleranceZ 1 100
  toleranceYaw := s.profileInt .toleranceYaw 1 500
  slewXY := s.profileInt .slewXY 1 200
  slewZ := s.profileInt .slewZ 1 200
  slewYaw := s.profileInt .slewYaw 1 200
  windowXYZ := s.profileInt .windowXYZ 1 500
  windowYaw := s.profileInt .windowYaw 1 1000
  settleCount := s.profileNat .settleCount 1 63
  settleLimit := s.profileNat .settleLimit 100 60000
  reachCount := s.profileNat .reachCount 16 1024
  lossExponent := s.profileNat .lossExponent 3 14
  recoveryMode := recoveryModeOf (s.word (profileAddr .recoveryMode))
  restartDelay := s.profileNat .restartDelay 0 60000
  unsteadyOn := s.profileNat .unsteadyOn 2 16
  unsteadyOff := unsteadyOffOf (s.profileNat .unsteadyOn 2 16) (s.profileNat .unsteadyOff 0 15)
  openTime := s.profileNat .openTime 10 900
  transitLimit := s.profileNat .transitLimit 2 60
  workingPoll := s.profileNat .workingPoll 5 100
  zmax := s.profileInt .zmax 0 100
  probeClearance := s.profileInt .probeClearance 50 1000
  preferredFeeder := preferredFeederOf (s.word (profileAddr .preferredFeeder))
  earlySpread := decide (s.word (profileAddr .earlySpread) ≠ 0)

/-- A host write to a profile word: the word keeps what the host wrote (R18). -/
def State.writeProfile (s : State) (w : LatchWrite) : State := s.setWord (profileAddr w.field) w.value

/-- The book with each profile word as a latch reads it: the writes that it sees have been served, the others not yet
(R200). -/
def State.asLatched (s : State) (during : List LatchWrite) : State :=
  (during.filter fun w => w.seen).foldl State.writeProfile s

/-- The book once every write served during a latch stands in it, in the order of the host port (R1). -/
def State.afterWrites (s : State) (during : List LatchWrite) : State := during.foldl State.writeProfile s

/-- The profile that a latch takes while the host makes these writes (R19, R200). -/
def State.latchedProfile (s : State) (during : List LatchWrite) : Profile := (s.asLatched during).readProfile

/-- Latch the profile (R19, R200). -/
def State.latchProfile (s : State) (during : List LatchWrite) : State :=
  (s.afterWrites during).withSeq { s.seq with profile := s.latchedProfile during }

/-! ### Calibration words (R124, R192) -/

/-- The 32 words of the calibration image (R21). -/
def State.image (s : State) : Vector Word 32 := Vector.ofFn fun j : Fin 32 => s.word (imageAddr j.val)

/-- The sum of the 31 calibration words, modulo 2^32 (R192). -/
def calibrationSum (v : Vector Word 32) : Word := (v.toList.take 31).foldl (· + ·) 0

/-- A store or image is valid when its sum equals its checksum word and it is not blank (R192). -/
def calibrationGood (v : Vector Word 32) : Bool :=
  decide (calibrationSum v = v[31]) && !(v.toList.all fun w => decide (w = 0))

/-- The offset O as the trim controller takes it (R124). -/
def calibrationOffset (v : Vector Word 32) : Pose :=
  ⟨clampInt (-2000000) 2000000 v[0].toInt, clampInt (-2000000) 2000000 v[1].toInt,
   clampInt (-2000000) 2000000 v[2].toInt, wrapYaw v[3].toInt⟩

/-- The stage ranges as the trim controller takes them (R124). -/
def calibrationRange (v : Vector Word 32) : Pose :=
  ⟨clampInt 1 600 v[4].toInt, clampInt 1 600 v[5].toInt, clampInt 1 400 v[6].toInt, clampInt 1 300 v[7].toInt⟩

/-! ### Frames (R87, R88, R140, R198, R199) -/

/-- The byte sum of a frame modulo 256. -/
def byteSum (bs : List Byte) : Byte := bs.foldl (· + ·) 0

/-- A frame closed by the check byte that makes its byte sum 0 modulo 256. -/
def withCheck (bs : List Byte) : List Byte := bs ++ [0 - byteSum bs]

/-- Command codes (R198). -/
def commandCode : StationCommand → Byte
  | .query => 0x10
  | .feed _ => 0x21
  | .spread => 0x31
  | .take => 0x41
  | .release => 0x42
  | .probe => 0x43
  | .eject _ => 0x44

/-- Operand bytes of a command (R198). -/
def commandOperands : StationCommand → List Byte
  | .feed c => [BitVec.ofNat 8 (c % 256), BitVec.ofNat 8 (c / 256)]
  | .eject .bay => [0x01]
  | .eject .gripper => [0x02]
  | .query | .spread | .take | .release | .probe => []

/-- A command frame: lead byte, code, operand count, operands, check byte (R87, R198). -/
def commandFrame (p : Position) (c : StationCommand) : List Byte :=
  withCheck
    ([BitVec.ofNat 8 (0x50 + positionNumber p), commandCode c, BitVec.ofNat 8 (commandOperands c).length] ++
      commandOperands c)

/-- What a station reports to a QUERY (R91, R198). -/
inductive Reported where
  | idle | working | done | error
  deriving DecidableEq, Repr

/-- The data of a good QUERY reply (R91). -/
structure QueryData where
  reported : Reported
  lastOperation : Byte
  result : Half
  hold : Half
  latched : Half
  deriving DecidableEq, Repr

/-- A good reply (R88). -/
inductive Reply where
  | accepted | busy | error (code : Half) | status (d : QueryData)
  deriving DecidableEq, Repr

/-- How the bytes of a reply are judged (R87, R88, R98, R198). -/
inductive Judged where
  | incomplete | notGood | good (r : Reply)
  deriving DecidableEq, Repr

/-- The reported state of a state code; codes other than 0..3 do not fit (R198). -/
def reportedOf (c : Byte) : Option Reported :=
  if c = 0 then some .idle else if c = 1 then some .working else if c = 2 then some .done
  else if c = 3 then some .error else none

/-- The reply word and the data must fit the command (R88). -/
def fitReply (isQuery : Bool) (word : Half) (data : List Byte) : Judged :=
  if word.getLsbD 15 then
    if word &&& 0x7FFF ≠ 0 ∧ data = [] then .good (.error (word &&& 0x7FFF)) else .notGood
  else if isQuery then
    match data with
    | [st, op, r0, r1, h0, h1, e0, e1] =>
      if word = 0 then
        match reportedOf st with
        | some r => .good (.status ⟨r, op, r1 ++ r0, h1 ++ h0, e1 ++ e0⟩)
        | none => .notGood
      else .notGood
    | _ => .notGood
  else if data ≠ [] then .notGood
  else if word = 0 then .good .accepted
  else if word = 1 then .good .busy
  else .notGood

/-- Judge the bytes that have arrived for the transaction with station `p` (R87, R198): a data count above 8 fails at
the count byte; a frame is complete at 5 + n bytes; then its lead byte, its byte sum and its fit are judged. -/
def judgeReply (p : Position) (isQuery : Bool) (bytes : List Byte) : Judged :=
  match bytes with
  | lead :: w0 :: w1 :: n :: rest =>
    if 8 < n.toNat then .notGood
    else if rest.length < n.toNat + 1 then .incomplete
    else if lead ≠ BitVec.ofNat 8 (0x60 + positionNumber p) ∨ byteSum (bytes.take (5 + n.toNat)) ≠ 0 then .notGood
    else fitReply isQuery (w1 ++ w0) (rest.take n.toNat)
  | _ => .incomplete

/-- The sync byte of a tracker frame (R199). -/
def syncByte : Byte := 0xA5

/-- A signed 32-bit value, low byte first (R199). -/
def signed32Of (b0 b1 b2 b3 : Byte) : Int := (b3 ++ (b2 ++ (b1 ++ b0)) : BitVec 32).toInt

/-- What a complete tracker frame says (R106, R199). -/
inductive FrameContent where
  | malformed
  | nofix (sequence : Byte)
  | fix (sequence : Byte) (pose : Pose)
  deriving DecidableEq, Repr

/-- Judge 18 bytes as a tracker frame (R106, R199). -/
def judgeFrame (bytes : List Byte) : FrameContent :=
  match bytes with
  | [_, sq, st, x0, x1, x2, x3, y0, y1, y2, y3, z0, z1, z2, z3, w0, w1, _] =>
    let yaw := (w1 ++ w0 : BitVec 16).toNat
    if byteSum bytes ≠ 0 ∨ (st ≠ 0 ∧ st ≠ 1) ∨ 36000 ≤ yaw then .malformed
    else if st = 0 then .nofix sq
    else .fix sq ⟨signed32Of x0 x1 x2 x3, signed32Of y0 y1 y2 y3, signed32Of z0 z1 z2 z3, (yaw : Int)⟩
  | _ => .malformed

/-- A signed 16-bit value as two bytes, low byte first (R199). -/
def signed16Bytes (x : Int) : List Byte :=
  [(BitVec.ofInt 16 x).extractLsb' 0 8, (BitVec.ofInt 16 x).extractLsb' 8 8]

/-- A set-point frame (R140, R199). -/
def setPointFrame (number : Byte) (enable : Bool) (sp : Pose) : List Byte :=
  withCheck
    ([number, if enable then 0x01 else 0x00] ++ signed16Bytes sp.x ++ signed16Bytes sp.y ++ signed16Bytes sp.z ++
      signed16Bytes sp.yaw)

/-! ### The words of the status block (R20, R86, R145, R197) -/

/-- An index word: the index in bits 15..0 and a present bit in bit 16 (R197). -/
def indexWord : Option EntryIx → Word
  | none => 0
  | some i => BitVec.ofNat 32 (0x10000 + i.val)

/-- A content word (11.5). -/
def contentWord : Content → Word
  | .none => 0
  | .entry i => BitVec.ofNat 32 (0x10000 + i.val)
  | .void (some i) => BitVec.ofNat 32 (0x30000 + i.val)
  | .void none => 0x3FFFF

/-- Station kind codes (11.5). -/
def kindCode : StationKind → Nat
  | .absent => 0
  | .feeder => 1
  | .spreader => 2
  | .gripper => 3
  | .unknown => 4

/-- Station state codes (11.5). -/
def stationStateCode : StationState → Nat
  | .absent => 0
  | .ready => 1
  | .busy => 2
  | .held => 3
  | .faulted => 4
  | .unresponsive => 5

/-- Operation codes of the station summary (11.5). -/
def operationCode : Outstanding → Nat
  | .none => 0
  | .command c => (commandCode c).toNat
  | .foreign => 0xFF

/-- Station summary, word A (11.5). -/
def stationWordA (x : StationShown) : Word :=
  BitVec.ofNat 32 (kindCode x.kind + stationStateCode x.state * 256 + operationCode x.operation * 65536)

/-- Station summary, word B (11.5). -/
def stationWordB (x : StationShown) : Word := x.lastError.zeroExtend 32

/-- Tracking state codes (11.5). -/
def trackingCode : TrackingState → Nat
  | .lost => 0
  | .acquiring => 1
  | .tracking => 2
  | .unsteady => 3

/-- Class codes (11.5). -/
def classCode : Option SampleClass → Nat
  | none => 0
  | some .priming => 1
  | some .accepted => 2
  | some .corrected => 3
  | some .rejected => 4
  | some .unstable => 5

/-- Bay state codes (11.5). -/
def bayCode : BayState → Nat
  | .empty => 0
  | .arrived => 1
  | .spreading => 2
  | .spread => 3
  | .ejecting => 4

/-- Gripper state codes (11.5). -/
def gripperCode : GripperState → Nat
  | .empty => 0
  | .taking => 1
  | .holding => 2
  | .releasing => 3
  | .probing => 4
  | .ejecting => 5

/-- SUPPLY summary codes (11.5). -/
def supplyCode : Supply → Nat
  | .ready => 0
  | .held => 1
  | .starved => 2

/-- The words of the status block from offset 0x04 to offset 0x80 (R20, 11.5). -/
def StatusFields.words (f : StatusFields) : List Word :=
  [ BitVec.ofNat 32 f.courses.pointer.val,
    f.courses.lastLaid.zeroExtend 32,
    f.courses.lastSum,
    BitVec.ofNat 32 (f.train.occupancy + f.train.voids * 256 + supplyCode f.supply * 65536),
    indexWord f.reach,
    BitVec.ofNat 32 (f.head.binCount + trackingCode f.tracking.state * 256),
    f.tracking.priming, f.tracking.accepted, f.tracking.corrected, f.tracking.rejected, f.tracking.unstable,
    f.tracking.malformed, f.tracking.nofix, f.tracking.gaps,
    BitVec.ofInt 32 f.tracking.lastPose.x, BitVec.ofInt 32 f.tracking.lastPose.y,
    BitVec.ofInt 32 f.tracking.lastPose.z, BitVec.ofInt 32 f.tracking.lastPose.yaw,
    BitVec.ofNat 32 (classCode f.tracking.lastClass),
    stationWordA f.stations.feederA, stationWordB f.stations.feederA,
    stationWordA f.stations.feederB, stationWordB f.stations.feederB,
    stationWordA f.stations.spreader, stationWordB f.stations.spreader,
    stationWordA f.stations.gripper, stationWordB f.stations.gripper,
    BitVec.ofNat 32 (bayCode f.head.bay + gripperCode f.head.gripper * 256),
    contentWord f.head.bayContent, contentWord f.head.gripperContent,
    f.head.lastTransit, indexWord f.head.lastVoidRelease ]

/-! ### The host's reads (R1, R2, R182) -/

/-- The address lies in the status block (R2). -/
def inStatusBlock (a : Nat) : Bool := decide (0x0500 ≤ a ∧ a < 0x0600)

/-- A host read of a whole word of the book: the status block shows its count and its fields, every other area its
memory; spare words and the no-decode range read 0 (R2). -/
def State.hostReadWord (s : State) (a : Nat) : Word :=
  if inStatusBlock a then
    (if a = 0x0500 then s.status.count else (s.status.fields.words[(a - 0x0504) / 4]?).getD 0)
  else s.word a

/-- A host read of the book, at the address of its word, with the bytes it asks for: the addressed bytes of the word as it
stands, in their places, and 0 in the others (R1). -/
def State.hostRead (s : State) (a : Nat) (lanes : BitVec 4) : Word := s.hostReadWord a &&& laneMask lanes

/-- A host read of a register, whole; CAUSE as it stands before the read clears it (R182 to R189). -/
def State.readRegister (s : State) : WindowRegister → Word
  | .ident => 0x04160003
  | .control => flagBit s.control.manualRequest 8
  | .state => s.stateRegister
  | .cause => s.host.cause.zeroExtend 32
  | .mask => s.host.mask.zeroExtend 32
  | .maskSet => 0
  | .maskClear => 0
  | .time => s.time

/-- A host read of a register with the bytes it asks for: the addressed bytes of the register as it stands, in their
places, and 0 in the others (R182); of CAUSE, as they stand before the read clears them (R188). -/
def State.readRegisterBytes (s : State) (r : WindowRegister) (lanes : BitVec 4) : Word :=
  s.readRegister r &&& laneMask lanes

end Sys2Proof.Machine
end

