-- ==== Sys2Proof/WellFormed.lean ====
section
/-! DEFINITION. When a command of the table is one its row describes: the addresses that are spare, the lanes that are
partial, the codes that no other row takes, the lengths that a link's frames have. -/

namespace Sys2Proof

/-- The offset of a book access is that of an aligned word (R1). -/
def aligned (offset : BitVec 16) : Bool := decide (offset.toNat % 4 = 0)

/-- The spare words of the header (R197, 11.4), the no-decode range (R2), and the two spare words of each entry (R197,
11.2). The status block's spare words fall under the row of the status block. -/
def isSpare (a : Nat) : Bool :=
  decide (a = 0x000C) || decide (0x007C ≤ a ∧ a < 0x0100) || decide (0x0680 ≤ a ∧ a < 0x0800) ||
    decide (0x0800 ≤ a ∧ 56 ≤ a % 64)

/-- The access carries at least one byte and not all four (R1, R182). -/
def partialLanes (lanes : BitVec 4) : Bool := decide (lanes ≠ 0 ∧ lanes ≠ 0xF)

/-- The registers that take a whole write (chapter 10.1). -/
def WindowRegister.takesWrite : WindowRegister → Bool
  | .control | .maskSet | .maskClear => true
  | .ident | .state | .cause | .mask | .time => false

/-- The codes of an entry's state word that rows of their own take: FREE, POSTED, CANCELLED and CONFIRM (R3). -/
def entryRowCode (code : Byte) : Bool := decide (code = 0x00 ∨ code = 0x01 ∨ code = 0x0B ∨ code = 0x0C)

/-- The codes of a course record's state word that rows of their own take: EMPTY, OPEN and CLOSE_REQUEST (R14). -/
def courseRowCode (code : Byte) : Bool := decide (code = 0x00 ∨ code = 0x01 ∨ code = 0x04)

/-- The writes served during a latch are in the order in which the host port serves them: none to a word is seen by the
latch behind one to the same word that is not, since the latch reads each word once (R19, R200). -/
def latchOrdered : List LatchWrite → Bool
  | [] => true
  | w :: ws => (w.seen || ws.all fun x => !(decide (x.field = w.field) && x.seen)) && latchOrdered ws

/-- The longest reply: 5 bytes and 8 bytes of data (R198). -/
def replyMax : Nat := 13

/-- The command is one that its row describes. -/
def Instr.wellFormed : Instr → Bool
  | .powerOn inputs _ _ => latchOrdered inputs.during
  | .hostPortReset inputs => latchOrdered inputs.during
  | .run => true
  | .stop => true
  | .abort => true
  | .reset inputs => latchOrdered inputs.during
  | .commitCal => true
  | .refusedCommandCode code => decide (6 ≤ code.toNat)
  | .manualRequestSet => true
  | .manualRequestClear => true
  | .causeRead lanes => decide (lanes ≠ 0)
  | .maskSet _ => true
  | .maskClear _ => true
  | .ignoredRegisterWrite reg lanes _ => partialLanes lanes || (decide (lanes = 0xF) && !reg.takesWrite)
  | .partialBookWrite offset lanes _ => aligned offset && partialLanes lanes
  | .spareWordWrite offset _ => aligned offset && isSpare offset.toNat
  | .statusBlockWrite offset _ => aligned offset && decide (0x0500 ≤ offset.toNat ∧ offset.toNat < 0x0600)
  | .layoutVersionWrite _ => true
  | .entryPostWrite _ => true
  | .entryFreeWrite _ => true
  | .entryCancelWrite _ => true
  | .confirm _ => true
  | .entryFieldWrite _ _ _ => true
  | .courseOpenWrite _ => true
  | .courseEmptyWrite _ => true
  | .closeRequest _ => true
  | .courseFieldWrite _ _ _ => true
  | .boomWordWrite _ => true
  | .binEmptiedWrite _ => true
  | .jogWordWrite _ _ => true
  | .profileWordWrite _ _ => true
  | .calImageWrite _ _ => true
  | .emergencyAssert => true
  | .emergencyClear => true
  | .rootSensor => true
  | .baySensor => true
  | .trackerFrame bytes => decide (bytes.length = 18)
  | .trackerByteGap bytes => decide (bytes.length < 18)
  | .commandReply bytes => decide (5 ≤ bytes.length ∧ bytes.length ≤ replyMax)
  | .queryReply bytes => decide (5 ≤ bytes.length ∧ bytes.length ≤ replyMax)
  | .replyDeadline => true
  | .stationByteGap => true
  | .pollDue _ => true
  | .lineGrant => true
  | .holdTimerExpiry _ => true
  | .feedTimerExpiry => true
  | .jam => true
  | .lossTimerExpiry => true
  | .settleLimitExpiry => true
  | .openTimeExpiry _ => true
  | .restartDelayExpiry => true
  | .setpointFrameEnd => true
  | .commitEnd => true
  | .calLoad => true
  | .initEnd => true
  | .courseActivation inputs => latchOrdered inputs.during
  | .entryTake _ => true
  | .refeed => true
  | .headRequest _ => true
  | .probeTakeUp => true
  | .manualGrant => true
  | .drainEnd => true
  | .replyNotGood bytes => decide (4 ≤ bytes.length ∧ bytes.length ≤ replyMax)
  | .stateWriteDiscarded (.entry _) code => !entryRowCode code
  | .stateWriteDiscarded (.course _) code => !courseRowCode code

end Sys2Proof
end

