-- ==== Sys2Proof/Decode.lean ====
section
/-! DEFINITION. From an access of the host to the command it is: the areas and words of the book (R2, R197), and the
registers of the register window by their offsets (R182, R185). The opcode table gives its rows no bits, so no table
word spells a command. -/

namespace Sys2Proof

open Sys2Proof.Machine

/-- The command that a word of the table's bits spells: the table gives no row any bits. -/
def decodeTableWord (_nbits _w : Nat) : Option Instr := none

/-- The words of an entry other than the state word and the spare words. -/
def entryWords : List EntryWord :=
  [.kindFlags, .cutLength, .targetX, .targetY, .targetZ, .targetYaw, .attempts, .deviationXY, .deviationZYaw,
   .correctionSamples, .probeMeasuredZ, .probeDeviation, .completionTime]

/-- The words of a course record other than the state word. -/
def courseWords : List CourseWord :=
  [.updateCount, .firstEntry, .entryCount, .flags, .result, .remainingLaid, .probedFailed, .cancelledApplied,
   .deviationZSum, .maxXY, .maxZYaw, .appliedProbeSum, .carriedCorrection, .activationTime, .closingTime]

/-- A write to the state word of an entry is judged on the code it carries; its other bits are ignored (R3). -/
def entryStateWrite (i : EntryIx) (code : Byte) : Instr :=
  if code = 0x00 then .entryFreeWrite i
  else if code = 0x01 then .entryPostWrite i
  else if code = 0x0B then .entryCancelWrite i
  else if code = 0x0C then .confirm i
  else .stateWriteDiscarded (.entry i) code

/-- A write to the state word of a course record (R14). -/
def courseStateWrite (k : Slot) (code : Byte) : Instr :=
  if code = 0x00 then .courseEmptyWrite k
  else if code = 0x01 then .courseOpenWrite k
  else if code = 0x04 then .closeRequest k
  else .stateWriteDiscarded (.course k) code

/-- A whole write to word `w` of an entry (R197, 11.2). -/
def entryWrite (i : EntryIx) (w : Nat) (offset : BitVec 16) (value : Word) : Instr :=
  if w = 0 then entryStateWrite i (value.extractLsb' 0 8)
  else
    match entryWords.find? fun x => entryWordNumber x = w with
    | some x => .entryFieldWrite i x value
    | none => .spareWordWrite offset value

/-- A whole write to word `w` of a course record (R197, 11.3). -/
def courseWrite (k : Slot) (w : Nat) (offset : BitVec 16) (value : Word) : Instr :=
  if w = 1 then courseStateWrite k (value.extractLsb' 0 8)
  else
    match courseWords.find? fun x => courseWordNumber x = w with
    | some x => .courseFieldWrite k x value
    | none => .spareWordWrite offset value

/-- A whole write to a word of the header (R197, 11.4). -/
def headerWrite (a : Nat) (offset : BitVec 16) (value : Word) : Instr :=
  if a = layoutVersionAddr then .layoutVersionWrite value
  else if a = boomWordAddr then .boomWordWrite value
  else if a = binEmptiedAddr then .binEmptiedWrite value
  else
    match [Axis.x, .y, .z, .yaw].find? fun axis => jogAddr axis = a with
    | some axis => .jogWordWrite axis value
    | none =>
      match profileFields.find? fun f => profileAddr f = a with
      | some f => .profileWordWrite f value
      | none => .spareWordWrite offset value

/-- A whole write to the word at an aligned offset of the book (R2). -/
def wholeBookWrite (offset : BitVec 16) (value : Word) : Instr :=
  let a := offset.toNat
  if a < 0x0100 then headerWrite a offset value
  else if h : a < 0x0500 then courseWrite ⟨(a - 0x0100) / 64, by omega⟩ ((a - 0x0100) % 64 / 4) offset value
  else if a < 0x0600 then .statusBlockWrite offset value
  else if h : a < 0x0680 then .calImageWrite ⟨(a - 0x0600) / 4, by omega⟩ value
  else if a < 0x0800 then .spareWordWrite offset value
  else entryWrite ⟨(a - 0x0800) / 64, by have := offset.isLt; omega⟩ ((a - 0x0800) % 64 / 4) offset value

/-- A host write to the book, at the offset of its word, with the bytes it carries (R1). -/
def bookWrite (offset : BitVec 16) (lanes : BitVec 4) (value : Word) : Instr :=
  if lanes = 0xF then wholeBookWrite offset value else .partialBookWrite offset lanes value

/-- The command that the command field of CONTROL carries; NONE is not a command (R169, R185). The inputs are what a RESET
meets. -/
def controlCommand (x : InitInputs) (code : BitVec 4) : Option Instr :=
  if code = 0 then none
  else if code = 1 then some .run
  else if code = 2 then some .stop
  else if code = 3 then some .abort
  else if code = 4 then some (.reset x)
  else if code = 5 then some .commitCal
  else some (.refusedCommandCode code)

/-- A whole write to CONTROL is two events in this order: the manual-request level, then the command (R169, R185). -/
def controlWrite (x : InitInputs) (value : Word) : List Instr :=
  (if value.getLsbD 8 then .manualRequestSet else .manualRequestClear) ::
    (controlCommand x (value.extractLsb' 0 4)).toList

/-- The register at an offset of the register window, 32 bytes long: each is the aligned word of four bytes (R182, 10.1). -/
def registerAt (offset : BitVec 5) : WindowRegister :=
  match offset.toNat / 4 with
  | 0 => .ident
  | 1 => .control
  | 2 => .state
  | 3 => .cause
  | 4 => .mask
  | 5 => .maskSet
  | 6 => .maskClear
  | _ => .time

/-- A host write to the register window, at the offset of its word, with the bytes it carries (R182). -/
def registerWrite (x : InitInputs) (offset : BitVec 5) (lanes : BitVec 4) (value : Word) : List Instr :=
  if lanes = 0xF then
    match registerAt offset with
    | .control => controlWrite x value
    | .maskSet => [.maskSet value]
    | .maskClear => [.maskClear value]
    | .ident | .state | .cause | .mask | .time => [.ignoredRegisterWrite (registerAt offset) lanes value]
  else [.ignoredRegisterWrite (registerAt offset) lanes value]

/-- A host read of the register window changes the part only at CAUSE (R182, R188). -/
def registerRead (offset : BitVec 5) (lanes : BitVec 4) : List Instr :=
  if registerAt offset = .cause then [.causeRead lanes] else []

/-- What a host read of the register window returns: the bytes asked for of the register at the offset (R182). -/
def registerReadData (s : State) (offset : BitVec 5) (lanes : BitVec 4) : Word :=
  s.readRegisterBytes (registerAt offset) lanes

end Sys2Proof
end

