-- ==== Sys2Proof/Machine/CourseOps.lean ====
section
/-! DEFINITION. The operations of the course sequencer: the carried correction, counting an entry in and out, closing,
cancelling, and what activation reads (chapter 2). -/

namespace Sys2Proof.Machine

/-- Zc from a sum and a count: 0 for a count of 0, else the quotient truncated toward zero and clamped to ±Zmax
(R40). -/
def computeZc (sum : Int) (count : Nat) (zmax : Int) : Int :=
  if count = 0 then 0 else clampInt (-zmax) zmax (sum.tdiv (count : Int))

/-- The magnitude of a deviation as a maximum holds it: 32768 is taken as 32767 (R30). -/
def deviationMagnitude (x : Int) : Nat := min 32767 x.natAbs

/-- Count one terminal entry in: its state's count, its deviations when LAID, its probe deviation when PROBED with APPLY
(R30, R33). -/
def State.countIn (s : State) (i : EntryIx) (e : EntryState) (f : CourseFigures) : CourseFigures :=
  match e with
  | .laid =>
    let xy := s.word (entryAddr i 8)
    let zw := s.word (entryAddr i 9)
    { f with
      laid := f.laid + 1
      devSum := f.devSum + fieldSigned zw 0
      maxX := max f.maxX (deviationMagnitude (fieldSigned xy 0))
      maxY := max f.maxY (deviationMagnitude (fieldSigned xy 16))
      maxZ := max f.maxZ (deviationMagnitude (fieldSigned zw 0))
      maxYaw := max f.maxYaw (deviationMagnitude (fieldSigned zw 16)) }
  | .probed =>
    if s.entryApply i then
      { f with
        probed := f.probed + 1
        applied := f.applied + 1
        appliedSum := f.appliedSum + fieldSigned (s.word (entryAddr i 12)) 0 }
    else { f with probed := f.probed + 1 }
  | .failed => { f with failed := f.failed + 1 }
  | .cancelled => { f with cancelled := f.cancelled + 1 }
  | .free | .posted | .issued | .transit | .head | .placing => f

/-- The applied-probe count after it falls by 1; at 0 the manual states no value (R34, log entry 9). -/
def State.fallApplied (s : State) (n : Nat) : Nat := if n = 0 then (Config.freeWord 2 s.free).toNat % 65536 else n - 1

/-- Take one terminal entry out of the counts; the maxima are not lowered (R34). -/
def State.countOut (s : State) (i : EntryIx) (e : EntryState) (f : CourseFigures) : CourseFigures :=
  match e with
  | .laid => { f with laid := f.laid - 1, devSum := f.devSum - fieldSigned (s.word (entryAddr i 9)) 0 }
  | .probed =>
    if s.entryApply i then
      { f with
        probed := f.probed - 1
        applied := s.fallApplied f.applied
        appliedSum := f.appliedSum - fieldSigned (s.word (entryAddr i 12)) 0 }
    else { f with probed := f.probed - 1 }
  | .failed => { f with failed := f.failed - 1 }
  | .cancelled => { f with cancelled := f.cancelled - 1 }
  | .free | .posted | .issued | .transit | .head | .placing => f

/-- Zc from the applied probes, the sum as its field takes it (R42, log entry 9). -/
def State.probeZc (s : State) (f : CourseFigures) : Int :=
  computeZc (s.narrowAppliedSum f.appliedSum).toInt f.applied s.seq.profile.zmax

/-- In mode PROBE a PROBED entry with APPLY counted in or out recomputes Zc (R42). -/
def State.recomputeZc (s : State) (k : Slot) (i : EntryIx) (e : EntryState) (f : CourseFigures) : CourseFigures :=
  if e = .probed ∧ s.entryApply i = true ∧ s.courseMode k = .probe then
    { f with zc := s.probeZc f }
  else f

/-- Close the ACTIVE course of slot `k` (R38): closing time stamp and CLOSED in one update of the record, no active
course and no mark, the last-closed summary and the pointer in one update of the status block, COURSE_CLOSED. -/
def State.closeCourse (s : State) (k : Slot) : State :=
  let f := s.courseFigures k
  let s1 := ((s.setWord (courseAddr k 15) s.time).setCourseState k .closed).bumpCourse k
  (s1.withSeq
    { s1.seq with
      active := none
      closeMark := false
      lastLaid := BitVec.ofNat 16 f.laid
      lastSum := BitVec.ofInt 32 f.devSum
      pointer := s1.seq.pointer + 1 }).showCourses.raise .courseClosed

/-- Count an entry of the active course that has become terminal, in one update of its record, and close the course when
remaining reaches 0 (R33, R38). -/
def State.countTerminal (s : State) (i : EntryIx) (e : EntryState) : State :=
  match s.seq.active with
  | none => s
  | some k =>
    if s.inCourse k i then
      let f0 := s.courseFigures k
      let f := s.recomputeZc k i e (s.countIn i e { f0 with remaining := f0.remaining - 1 })
      let s1 := (s.setCourseFigures k f).bumpCourse k
      if f.remaining = 0 then s1.closeCourse k else s1
    else s

/-- Take an entry of the active course back out of its counts after an accepted FREE write to it in terminal state `e`
(R34). -/
def State.uncountTerminal (s : State) (i : EntryIx) (e : EntryState) : State :=
  match s.seq.active with
  | none => s
  | some k =>
    if s.inCourse k i then
      let f0 := s.courseFigures k
      let f := s.recomputeZc k i e (s.countOut i e { f0 with remaining := f0.remaining + 1 })
      (s.setCourseFigures k f).bumpCourse k
    else s

/-- Cancel an entry: result CANCELLED, completion time stamp, state CANCELLED, and its count (R8, R35). -/
def State.cancelEntry (s : State) (i : EntryIx) : State :=
  (s.finishEntry i .cancelled .cancelled).countTerminal i .cancelled

/-- While the close-request mark is set, an entry of the active range that becomes FREE or POSTED is cancelled at once
(R36). -/
def State.cancelIfClosing (s : State) (i : EntryIx) : State :=
  match s.seq.active with
  | none => s
  | some k => if s.seq.closeMark && s.inCourse k i then s.cancelEntry i else s

/-- The part returns an entry to POSTED (R6, R36). -/
def State.returnToPosted (s : State) (i : EntryIx) : State := (s.setEntryState i .posted).cancelIfClosing i

/-- One cancel of a close request: an entry found FREE or POSTED is cancelled (R35). -/
def State.cancelOpenEntry (s : State) (i : EntryIx) : State :=
  if s.entryState i = some .free ∨ s.entryState i = some .posted then s.cancelEntry i else s

/-- A close request: the mark is set, and the entries of the range that read FREE or POSTED are cancelled in ascending
index order (R35). -/
def State.requestClose (s : State) (k : Slot) : State :=
  (s.courseEntries k).foldl State.cancelOpenEntry (s.withSeq { s.seq with closeMark := true })

/-- Validation lets an entry of the range pass unless it is in flight or terminal for another slot (R28). -/
def State.entryFitsCourse (s : State) (k : Slot) (i : EntryIx) : Bool :=
  match s.entryState i with
  | some e => !e.inFlight && (!e.terminal || decide (s.entrySlot i = k.val))
  | none => true

/-- The range of a course is valid (R28). -/
def State.rangeValid (s : State) (k : Slot) : Bool :=
  decide (s.courseCount k ≠ 0 ∧ s.courseFirst k + s.courseCount k ≤ 992) &&
    (s.courseEntries k).all (s.entryFitsCourse k)

/-- One entry of the recount (R30). -/
def State.recountEntry (s : State) (k : Slot) (f : CourseFigures) (i : EntryIx) : CourseFigures :=
  match s.entryState i with
  | some .free | some .posted => { f with remaining := f.remaining + 1 }
  | some e => if e.terminal && decide (s.entrySlot i = k.val) then s.countIn i e f else f
  | none => f

/-- The statistics of a course recomputed from the book (R30). -/
def State.recount (s : State) (k : Slot) : CourseFigures :=
  (s.courseEntries k).foldl (s.recountEntry k) CourseFigures.zero

/-- An entry state write served while activation runs, after activation has read the entry: the book monitor judges it
against a record that is not yet ACTIVE (R8, R9, R11). -/
def State.lateBookWrite (s : State) (w : LateWrite) : State :=
  match w with
  | .cancel i =>
    match s.entryState i with
    | some .free | some .posted => s.finishEntry i .cancelled .cancelled
    | some .cancelled => s
    | _ => s.discardWrite
  | .free i =>
    match s.entryState i with
    | some .free => s
    | some .posted | some .laid | some .probed | some .failed | some .cancelled => s.setEntryState i .free
    | _ => s.discardWrite

/-- What such a write does to the counts when activation completes (R30). -/
def State.lateCount (s : State) (k : Slot) (w : LateWrite) (f : CourseFigures) : CourseFigures :=
  match w with
  | .cancel i =>
    if s.inCourse k i && (decide (s.entryState i = some .free) || decide (s.entryState i = some .posted)) then
      { f with remaining := f.remaining - 1, cancelled := f.cancelled + 1 }
    else f
  | .free i =>
    match s.entryState i with
    | some e =>
      if s.inCourse k i && e.terminal then s.countOut i e { f with remaining := f.remaining + 1 } else f
    | none => f

/-- All late writes, in the order in which they are served. -/
def State.lateWrites (s : State) (k : Slot) : List LateWrite → CourseFigures → State × CourseFigures
  | [], f => (s, f)
  | w :: ws, f => State.lateWrites (s.lateBookWrite w) k ws (s.lateCount k w f)

/-- Zc as activation fixes it (R31, R41, R42). -/
def State.activationZc (s : State) (k : Slot) (f : CourseFigures) : Int :=
  match s.courseMode k with
  | .none => 0
  | .laid => computeZc s.seq.lastSum.toInt s.seq.lastLaid.toNat s.seq.profile.zmax
  | .probe => s.probeZc f

/-- Course result codes (R197). -/
def courseValid : Word := 1
/-- Course result codes (R197). -/
def courseInvalidRange : Word := 2

/-- The course closes at once as INVALID_RANGE without reading ACTIVE (R29). -/
def State.closeInvalid (s : State) (k : Slot) : State :=
  let s1 := (((((s.setWord (courseAddr k 5) courseInvalidRange).setCourseFigures k .zero).setWord (courseAddr k 14)
    s.time).setWord (courseAddr k 15) s.time).setCourseState k .closed).bumpCourse k
  (s1.withSeq { s1.seq with lastLaid := 0, lastSum := 0, pointer := s1.seq.pointer + 1 }).showCourses.raise .courseClosed

/-- A valid course becomes ACTIVE in one update of its record, and closes at once when nothing remains (R30 to R32). -/
def State.openActive (s : State) (k : Slot) (f : CourseFigures) : State :=
  let g := { f with zc := s.activationZc k f }
  let s1 := (((((s.setWord (courseAddr k 5) courseValid).setCourseFigures k g).setWord (courseAddr k 14)
    s.time).setWord (courseAddr k 15) 0).setCourseState k .active).bumpCourse k
  let s2 := s1.withSeq { s1.seq with active := some k, closeMark := false }
  if g.remaining = 0 then s2.closeCourse k else s2

/-- Activation of the record of slot `k` after the profile has been latched (R28 to R32); `late` are the entry state
writes served while it runs, the only writes to entries and to the record that are taken inside the step (log entry 42). -/
def State.activate (s : State) (k : Slot) (late : List LateWrite) : State :=
  if s.rangeValid k then
    let (s1, f) := s.lateWrites k late (s.recount k)
    s1.openActive k f
  else (s.lateWrites k late .zero).1.closeInvalid k

/-- The Zc of the active course (R25). -/
def State.activeZc (s : State) : Int :=
  match s.seq.active with
  | none => 0
  | some k => (s.courseFigures k).zc

end Sys2Proof.Machine
end

