-- ==== Sys2Proof/Machine/TrimOps.lean ====
section
/-! DEFINITION. The operations of the trim controller: frames on the trim drive link, the attempt record, calibration
hand-over, and the work on one usable sample up to its decision (chapter 7). -/

namespace Sys2Proof.Machine

/-! ### Set-point frames (R140, R141) -/

/-- Begin a set-point frame with the set-point and the enable that stand now (R140). -/
def Trim.beginFrame (t : Trim) : Trim :=
  { t with
    sending := true
    outputPending := false
    lastFrame := setPointFrame t.nextFrame t.driveEnable t.setPoint
    nextFrame := t.nextFrame + 1 }

/-- A frame is wanted: sent at once when the link is idle, else the output-pending mark is set (R141). -/
def Trim.wantFrame (t : Trim) : Trim := if t.sending then { t with outputPending := true } else t.beginFrame

/-- Give S a new value; a change wants a frame (R141). -/
def Trim.moveSetPoint (t : Trim) (sp : Pose) : Trim :=
  if sp = t.setPoint then t else ({ t with setPoint := sp } : Trim).wantFrame

/-! ### Set-point arithmetic (R127 to R130) -/

/-- A component held within ±R (R130). -/
def clampRange (r x : Int) : Int := clampInt (-r) r x

/-- Every component held within ±R of its axis (R124, R130). -/
def clampPose (r p : Pose) : Pose := ⟨clampRange r.x p.x, clampRange r.y p.y, clampRange r.z p.z, clampRange r.yaw p.yaw⟩

/-- One slew step toward the demand (R130). -/
def slewStep (limit demand current : Int) : Int :=
  if magnitude (demand - current) ≤ limit then demand
  else if current < demand then current + limit else current - limit

/-- S moved toward the demand, first by the slew limits and then by the clamp (R130). -/
def slewPose (p : Profile) (r demand current : Pose) : Pose :=
  clampPose r
    ⟨slewStep p.slewXY demand.x current.x, slewStep p.slewXY demand.y current.y, slewStep p.slewZ demand.z current.z,
     slewStep p.slewYaw demand.yaw current.yaw⟩

/-- The gripper's neutral pose G = H + O (R127). -/
def neutralPose (h o : Pose) : Pose := ⟨h.x + o.x, h.y + o.y, h.z + o.z, poseYaw (h.yaw + o.yaw)⟩

/-- The effective target T′ (R128). -/
def effectiveTarget (p : Profile) (a : Attempt) (g : Pose) : Pose :=
  match a.kind with
  | .lay => ⟨a.target.x, a.target.y, a.target.z + a.zc, a.target.yaw⟩
  | .probe => ⟨a.target.x, a.target.y, a.target.z + p.probeClearance, g.yaw⟩

/-- The error E = T′ − G, yaw wrapped (R129). -/
def poseError (t g : Pose) : Pose := ⟨t.x - g.x, t.y - g.y, t.z - g.z, wrapYaw (t.yaw - g.yaw)⟩

/-- A difference axis by axis, plain on every axis (R131, R133: the residual and the deviation, S − E). -/
def poseSub (a b : Pose) : Pose := ⟨a.x - b.x, a.y - b.y, a.z - b.z, a.yaw - b.yaw⟩

/-- The residual lies within tolerance; on a PROBE yaw is left out (R131). -/
def withinTolerance (p : Profile) (k : Kind) (d : Pose) : Bool :=
  decide (magnitude d.x ≤ p.toleranceXY ∧ magnitude d.y ≤ p.toleranceXY ∧ magnitude d.z ≤ p.toleranceZ ∧
    (k = .probe ∨ magnitude d.yaw ≤ p.toleranceYaw))

/-- A sample is saturated when on some axis E exceeds the range plus the tolerance (R135). -/
def isSaturated (p : Profile) (r e : Pose) : Bool :=
  decide (r.x + p.toleranceXY < magnitude e.x ∨ r.y + p.toleranceXY < magnitude e.y ∨
    r.z + p.toleranceZ < magnitude e.z ∨ r.yaw + p.toleranceYaw < magnitude e.yaw)

/-- The jog words, each a signed 32-bit value (R17, R129). -/
def State.jogPose (s : State) : Pose :=
  ⟨(s.word (jogAddr .x)).toInt, (s.word (jogAddr .y)).toInt, (s.word (jogAddr .z)).toInt, (s.word (jogAddr .yaw)).toInt⟩

/-- The error at a sample, with an attempt record present (R129). -/
def State.sampleError (s : State) (h : Pose) : Option Pose :=
  s.trim.attempt.map fun a =>
    poseError (effectiveTarget s.seq.profile a (neutralPose h s.trim.offset)) (neutralPose h s.trim.offset)

/-- The demand A (R129). -/
def State.demand (s : State) (h : Pose) : Pose :=
  if s.control.manualGrant then clampPose s.trim.range s.jogPose else (s.sampleError h).getD .zero

/-- S is frozen while tracking is LOST or the boom is MOVING (R138), and stays 0 under the emergency line (R139). -/
def State.setPointHeld (s : State) : Bool :=
  decide (s.tracker.state = .lost) || s.control.boomMoving || s.control.emergency

/-- The set-point after a usable sample (R130, R138, R139). -/
def State.nextSetPoint (s : State) (h : Pose) : Pose :=
  if s.setPointHeld then s.trim.setPoint
  else slewPose s.seq.profile s.trim.range (s.demand h) s.trim.setPoint

/-! ### The attempt record (R125) -/

/-- The head sequencer hands over an attempt (R125). -/
def Trim.beginAttempt (t : Trim) (r : IssueRecord) (zc : Int) : Trim :=
  { t with
    attempt := some ⟨r.entry, r.kind, r.hold, r.target, zc, false, false⟩
    settleCount := 0
    tally := 0
    settleSample := none
    settleTimer := some 0
    saturated := 0
    reach := none }

/-- The head sequencer ends the attempt record; the restart-delay timer stops with it (R125, R161), and a reach request is
cleared in the status block (R135). -/
def State.endAttempt (s : State) : State :=
  ((s.withTrim
    { s.trim with
      attempt := none
      settleTimer := none
      settleCount := 0
      tally := 0
      saturated := 0
      reach := none
      settleSample := none }).withHead { s.head with restartTimer := none }).showReach

/-- The settle count returns to 0 without a sample (R131). -/
def State.zeroSettle (s : State) : State := s.withTrim { s.trim with settleCount := 0 }

/-- The settle timer is paused while a reach request stands or the boom is MOVING (R132). -/
def State.settlePaused (s : State) : Bool := s.trim.reach.isSome || s.control.boomMoving

/-! ### Calibration hand-over (R124) -/

/-- Take O and the ranges; S is clamped at once (R124). -/
def State.takeCalibration (s : State) (o r : Pose) : State :=
  s.withTrim (({ s.trim with offset := o, range := r } : Trim).moveSetPoint (clampPose r s.trim.setPoint))

/-! ### The work on one usable sample (R126) -/

/-- What holds the settle count at 0 (R131). -/
def State.settleBlocked (s : State) : Bool :=
  decide (s.tracker.state ≠ .tracking) || s.control.boomMoving || s.control.manualGrant || s.control.emergency

/-- The settle count after a usable sample: whether it is raised at it, at 63 it holds (R131, R201). -/
def State.countSettle (s : State) (raised : Bool) : Nat := if raised then min 63 (s.trim.settleCount + 1) else 0

/-- The saturation test of a sample and the reach request (R135). -/
def State.testSaturation (s : State) (a : Attempt) (e : Pose) : State :=
  if isSaturated s.seq.profile s.trim.range e then
    let n := min 1024 (s.trim.saturated + 1)
    let s1 := s.withTrim { s.trim with saturated := n }
    if s.trim.saturated < s.seq.profile.reachCount ∧ s.seq.profile.reachCount ≤ n then
      (s1.withTrim { s1.trim with reach := some a.entry }).showReach.raise .reach
    else s1
  else (s.withTrim { s.trim with saturated := 0, reach := none }).showReach

/-- The release decision, and what the head sequencer does with it (R133, R153). -/
def State.decideRelease (s : State) (a : Attempt) (d : Pose) : State :=
  (s.withTrim { s.trim with attempt := some { a with decided := true }, settleTimer := none }).putHead
    { s.head with
      gripper :=
        { s.head.gripper with state := .releasing, openTimer := none, deviation := d, tally := s.trim.tally } }

/-- The probe decision, and what the head sequencer does with it (R136, R155). -/
def State.decideProbe (s : State) (a : Attempt) (gz sz : Int) : State :=
  (s.withTrim
    { s.trim with
      attempt := some { a with decided := true }
      settleTimer := none
      settleSample := some (gz, sz) }).putHead
    { s.head with gripper := { s.head.gripper with state := .probing, tally := s.trim.tally } }

/-- CONFIRM_WAIT is raised once per attempt (R134). -/
def State.waitConfirm (s : State) (a : Attempt) : State :=
  if a.confirmWait then s
  else (s.withTrim { s.trim with attempt := some { a with confirmWait := true } }).raise .confirmWait

/-- The decision at a usable sample of an attempt in phase SETTLING (R133, R134, R136, R201): the settle count is N or
more and was raised at this sample. A raise already needs TRACKING, STILL and no manual control (R131). -/
def State.takeDecision (s : State) (a : Attempt) (raised : Bool) (g e : Pose) : State :=
  if raised && !a.decided && decide (s.seq.profile.settleCount ≤ s.trim.settleCount) then
    match a.kind with
    | .lay =>
      if a.hold && !s.head.gripper.confirm then s.waitConfirm a
      else s.decideRelease a (poseSub s.trim.setPoint e)
    | .probe => s.decideProbe a g.z s.trim.setPoint.z
  else s

/-- The settle count, the tally, the saturation test and the decision of one usable sample under an attempt record, after
S has moved (R131 to R136). -/
def State.workAttempt (s : State) (a : Attempt) (g e : Pose) : State :=
  let raised := !s.settleBlocked && withinTolerance s.seq.profile a.kind (poseSub s.trim.setPoint e)
  let tally := if a.decided then s.trim.tally else min 65535 (s.trim.tally + 1)
  let s1 := s.withTrim { s.trim with settleCount := s.countSettle raised, tally := tally }
  (s1.testSaturation a e).takeDecision a raised g e

/-- The work on one usable sample H (R126). -/
def State.usableSample (s : State) (h : Pose) : State :=
  let s1 := s.withTrim (s.trim.moveSetPoint (s.nextSetPoint h))
  match s.trim.attempt with
  | none => s1
  | some a =>
    let g := neutralPose h s.trim.offset
    s1.workAttempt a g (poseError (effectiveTarget s.seq.profile a g) g)

end Sys2Proof.Machine
end

