-- ==== Sys2Proof/Machine/IssueOps.lean ====
section
/-! DEFINITION. Voiding, displacement and attempt failure: what the issue unit does to entries that leave its list, and
what train control and the head sequencer do to the bricks those entries leave behind (R59 to R65, R72, R163). -/

namespace Sys2Proof.Machine

/-! ### Requests at the arbiter -/

/-- A head command stands at the arbiter, placed and not granted (R146). -/
def State.headPending (s : State) (c : StationCommand) : Bool := s.line.headRequests.contains c

/-- A head command has been granted: its transaction is on the line, its operation is outstanding, or it is deferred after a
BUSY reply, until it is placed with the arbiter again (R146). -/
def State.headGranted (s : State) (c : StationCommand) : Bool :=
  decide ((s.line.transaction.map fun t => t.command) = some c) || decide (s.line.spreader.operation = .command c) ||
    decide (s.line.gripper.operation = .command c) || decide (s.line.spreader.deferred = some c) ||
    decide (s.line.gripper.deferred = some c)

/-- Withdraw a head command that has not been granted (R95, R163). -/
def State.withdrawHead (s : State) (c : StationCommand) : State :=
  s.withLine { s.line with headRequests := s.line.headRequests.filter fun d => d ≠ c }

/-- Drop a FEED held back at a feeder after a BUSY reply (R90). -/
def State.dropDeferredFeed (s : State) (f : Feeder) : State :=
  let x := s.line.at (feederPosition f)
  match x.deferred with
  | some (.feed _) => s.setStation (feederPosition f) { x with deferred := none }
  | _ => s

/-- Clear the feed-pending record; a request that waits at the arbiter or at the feeder goes with it (R55, R69). -/
def State.clearFeed (s : State) : State :=
  match s.issue.feed with
  | none => s
  | some f => (s.withIssue { s.issue with feed := none }).dropDeferredFeed f.feeder

/-- A feed ends without a brick: the record clears and its entry's brick location becomes NONE (R55, R56, R63). -/
def State.endFeed (s : State) : State :=
  match s.issue.feed with
  | none => s
  | some f =>
    match f.entry with
    | none => s.clearFeed
    | some i => s.clearFeed.setLocation i .none

/-! ### Voiding bricks at the head (R163) -/

/-- A content that is VOID. -/
def Content.isVoid : Content → Bool
  | .void _ => true
  | .none | .entry _ => false

/-- A content that is an entry. -/
def Content.isEntry : Content → Bool
  | .entry _ => true
  | .none | .void _ => false

/-- The content made VOID, keeping the index it last belonged to (R143). -/
def voided : Content → Content
  | .none => .none
  | .entry i => .void (some i)
  | .void f => .void f

/-- The bay with its content voided (R163): a bay SPREADING whose SPREAD has not been granted is ARRIVED. -/
def Bay.afterVoid (b : Bay) (spreadGranted : Bool) : Bay :=
  { b with
    state := if b.state = .spreading ∧ spreadGranted = false then .arrived else b.state
    content := voided b.content
    openTimer := none }

/-- The gripper TAKING a brick that is voided in the bay (R163): EMPTY when its TAKE has not been granted. -/
def Gripper.afterBayVoid (g : Gripper) (takeGranted : Bool) : Gripper :=
  if g.state = .taking then
    (if takeGranted then { g with content := voided g.content, openTimer := none } else .cleared)
  else g

/-- The issue unit voids the bay content (R163): a SPREAD and a TAKE that have not been granted are withdrawn. -/
def State.voidBay (s : State) : State :=
  let s1 := s.putHead
    { s.head with
      bay := s.head.bay.afterVoid (s.headGranted .spread)
      gripper := s.head.gripper.afterBayVoid (s.headGranted .take) }
  let s2 := if s.head.bay.state = .spreading then s1.withdrawHead .spread else s1
  if s.head.gripper.state = .taking then s2.withdrawHead .take else s2

/-- The gripper with its content voided (R163): the confirm mark is cleared; one whose RELEASE has not been granted is
HOLDING; one without a brick, or whose PROBE has not been granted, is EMPTY. -/
def Gripper.afterVoid (g : Gripper) (releaseGranted probeGranted : Bool) : Gripper :=
  let v := { g with content := voided g.content, openTimer := none, confirm := false }
  match g.state with
  | .holding => if g.brick then v else .cleared
  | .releasing => if releaseGranted then v else { v with state := .holding }
  | .probing => if probeGranted then v else .cleared
  | .empty | .taking | .ejecting => v

/-- The issue unit voids the gripper content (R163): the attempt record ends, and a RELEASE or PROBE that has not been
granted, be it placed with the arbiter or only wanted, is withdrawn. -/
def State.voidGripper (s : State) : State :=
  let s1 := s.endAttempt
  let s2 := s1.putHead
    { s1.head with gripper := s.head.gripper.afterVoid (s.headGranted .release) (s.headGranted .probe) }
  match s.head.gripper.state with
  | .releasing => s2.withdrawHead .release
  | .probing => s2.withdrawHead .probe
  | .empty | .taking | .holding | .ejecting => s2

/-- The head place that holds an entry's brick is voided (R158, R163). -/
def State.voidAtHead (s : State) (i : EntryIx) : State :=
  if s.head.gripper.content = .entry i ∧ s.head.gripper.state ≠ .taking then s.voidGripper
  else if s.head.bay.content = .entry i then s.voidBay
  else s

/-! ### Void carriers (R72) -/

/-- A carrier made void, with the entry its brick belonged to (R72, R143). -/
def Carrier.voided (c : Carrier) : Carrier :=
  match c.content with
  | some i => { c with content := none, former := some i }
  | none => c

/-- Train control makes the carrier of an entry void; it keeps its place and its times (R72). -/
def State.voidCarrier (s : State) (i : EntryIx) : State :=
  s.withTrain
    { s.train with
      queue := s.train.queue.map fun c => if c.content = some i then c.voided else c }

/-- At entry to HALT every carrier becomes void and the front running time is set to 0 (R72, R74), so that no comparison of
it with the transit limit stands (R75); the two figures are shown in one update for all of them (R68). -/
def State.voidTrain (s : State) : State :=
  (s.withTrain
    { s.train with
      queue := s.train.queue.map fun c => { c.voided with running := 0 }
      limitReached := false }).showTrain

/-! ### Records leaving the list with their brick voided (R61, R65) -/

/-- The feed-pending record made VOID, keeping the entry its brick belonged to (R61, R143). -/
def FeedPending.voided (f : FeedPending) : FeedPending :=
  match f.entry with
  | some i => { f with entry := none, former := some i }
  | none => f

/-- A pending feed of a voided record: withdrawn in phase REQUESTED, else void-pending (R61). -/
def State.voidFeed (s : State) : State :=
  match s.issue.feed with
  | none => s
  | some f =>
    match f.phase with
    | .requested => s.clearFeed
    | .sent | .accepted _ => s.withIssue { s.issue with feed := some f.voided }

/-- The brick of a record is voided where it stands (R61). -/
def State.voidBrick (s : State) (r : IssueRecord) : State :=
  match r.location with
  | .none => s
  | .feed => s.voidFeed
  | .train => s.voidCarrier r.entry
  | .bay | .gripper => s.voidAtHead r.entry

/-- One record returned with its void mark set: POSTED, out of the list, its brick voided (R61, R65). -/
def State.displace (s : State) (r : IssueRecord) : State :=
  ((s.removeRecord r.entry).returnToPosted r.entry).voidBrick r

/-- The records behind an entry's record in the list, nearest first (R61). -/
def recordsBehind (i : EntryIx) (l : List IssueRecord) : List IssueRecord :=
  (l.dropWhile fun r => r.entry ≠ i).drop 1

/-- The strict-order flag of the active course (R49). -/
def State.activeStrict (s : State) : Bool :=
  match s.seq.active with
  | none => false
  | some k => s.courseStrict k

/-- A displacement: every record behind the failed one leaves the list, nearest first, and the carriers it has made void are
shown in one update (R61, R68). -/
def State.displaceAll (s : State) (l : List IssueRecord) : State := (l.foldl State.displace s).showTrain

/-- A retry: the failed entry returns to POSTED, and in a strict-order course every record behind it is displaced
(R60, R61). -/
def State.retry (s : State) (i : EntryIx) : State :=
  let s1 := (s.removeRecord i).returnToPosted i
  if s.activeStrict then s1.displaceAll (recordsBehind i s.issue.list) else s1

/-- A final failure (R62). -/
def State.failFinally (s : State) (i : EntryIx) (r : Reason) : State :=
  (((s.removeRecord i).finishEntry i .failed (reasonResult r)).countTerminal i .failed).raise .entryFailed

/-- The head sequencer reports an attempt failure (R59): attempts used and last reason are written, and the attempt is
retried while attempts used is below the effective max, else the entry fails finally. -/
def State.attemptFailure (s : State) (i : EntryIx) (r : Reason) : State :=
  match s.issueRecord i with
  | none => s
  | some rec =>
    let used := rec.attemptsUsed + 1
    let s1 := s.setAttempt i used r
    if used < rec.maxAttempts then s1.retry i else s1.failFinally i r

/-- Fail the attempt of an entry at the head: its place is voided, then the failure is reported (R158). -/
def State.failAttempt (s : State) (i : EntryIx) (r : Reason) : State := (s.voidAtHead i).attemptFailure i r

/-! ### HALT (R65, R72, R79, R173) -/

/-- The issue unit empties its list at entry to HALT, oldest record first (R65). -/
def State.emptyList (s : State) : State := s.issue.list.foldl State.displace s

/-- At entry to HALT every place at the head is voided (R163, R173). -/
def State.voidPlaces (s : State) : State :=
  let s1 := if s.head.gripper.content.isEntry && decide (s.head.gripper.state ≠ .taking) then s.voidGripper else s
  if s1.head.bay.content.isEntry || (s1.head.gripper.content.isEntry && decide (s1.head.gripper.state = .taking)) then
    s1.voidBay
  else s1

/-- Entry into HALT (R173): HALTED is raised, the list is emptied and its bricks voided, a feed still pending is withdrawn
or void-pending, every place at the head is voided, and every carrier becomes void. -/
def State.enterHalt (s : State) : State :=
  (((s.withControl { s.control with state := .halt, haltHeld := false }).raise
    .halted).emptyList.voidFeed.voidPlaces).voidTrain

/-- A HALT request of train control or of the station line controller (R79, R103): held in INIT, no effect in HALT. -/
def State.requestHalt (s : State) : State :=
  match s.control.state with
  | .init => s.withControl { s.control with haltHeld := true }
  | .halt => s
  | .idle | .run | .drain => s.enterHalt

/-- A train fault: TRAIN_FAULT and one HALT request (R79). -/
def State.trainFault (s : State) : State := (s.raise .trainFault).requestHalt

end Sys2Proof.Machine
end

