-- ==== Sys2Proof/Machine/HeadOps.lean ====
section
/-! DEFINITION. The operations of the head sequencer: loss recovery, the DONE rules, failed operations, and what each
side wants placed (chapter 8). -/

namespace Sys2Proof.Machine

/-! ### Loss recovery (R160, R161) -/

/-- The entry whose attempt the gripper is HOLDING. -/
def Head.heldEntry (h : Head) : Option EntryIx :=
  match h.gripper.state, h.gripper.content with
  | .holding, .entry i => some i
  | _, _ => none

/-- Loss recovery by the latched mode, for an attempt the gripper is HOLDING (R160); a restart delay of 0 expires as it
starts (R161). -/
def State.recoverLoss (s : State) : State :=
  match s.head.heldEntry with
  | none => s
  | some i =>
    match s.seq.profile.recoveryMode with
    | .holdOnly => s
    | .fail => s.failAttempt i .trackLost
    | .holdThenFail =>
      if s.seq.profile.restartDelay = 0 then s.failAttempt i .trackLost
      else s.withHead { s.head with restartTimer := some 0 }

/-- Loss recovery begins at the start of an attempt while tracking is LOST (R151, R152). -/
def State.recoverIfLost (s : State) : State := if s.tracker.state = .lost then s.recoverLoss else s

/-- Entry into LOST at the expiry of the loss timer (R118), handed to the trim controller and the head sequencer (R121,
R131, R160). -/
def State.enterLost (s : State) : State :=
  ((s.withTracker { s.tracker with state := .lost, history := [], window := [], lossTimer := none }).showTracking.raise
    .trackLost).zeroSettle.recoverLoss

/-- The loss delay, 2^k ms (R117). -/
def Profile.lossDelay (p : Profile) : Nat := 2 ^ p.lossExponent

/-- A latch applies the loss exponent at once: a timer already at or beyond the new delay expires at the latch (R119). -/
def State.expireLossIfDue (s : State) : State :=
  match s.tracker.lossTimer with
  | some t => if s.seq.profile.lossDelay ≤ t then s.enterLost else s
  | none => s

/-! ### DONE rules (R149, R151, R154, R156, R164, R165) -/

/-- SPREAD reported DONE (R149). -/
def State.spreadDone (s : State) : State :=
  let b := s.head.bay
  match b.content with
  | .entry _ => s.putHead { s.head with bay := { b with state := .spread, openTimer := some 0 } }
  | _ => s.putHead { s.head with bay := { b with state := .spread, openTimer := none } }

/-- The last transit time (R145). -/
def State.stampTransit (s : State) (root : Option Word) : State :=
  match root with
  | none => s
  | some t => s.withHead { s.head with lastTransit := s.time - t }

/-- The brick passes from the bay to the gripper (R151). -/
def State.moveToGripper (s : State) (c : Content) : State :=
  s.withHead
    { s.head with
      gripper := { Gripper.cleared with state := .holding, content := c, brick := true, openTimer := s.head.bay.openTimer }
      bay := .cleared }

/-- Write the applied correction of an entry (R151). -/
def State.setApplied (s : State) (i : EntryIx) (zc : Int) : State :=
  s.setWord (entryAddr i 10) (putField (s.word (entryAddr i 10)) 0 16 (signed16 zc))

/-- The trim controller is handed the attempt of an entry in the list (R125). -/
def State.handOverAttempt (s : State) (i : EntryIx) (zc : Int) : State :=
  match s.issueRecord i with
  | none => s
  | some r => (s.withTrim (s.trim.beginAttempt r zc)).showReach

/-- TAKE reported DONE (R151). -/
def State.takeDone (s : State) : State :=
  let root := s.head.bay.rootTime
  match s.head.gripper.content with
  | .entry i =>
    ((((((s.moveToGripper (.entry i)).setApplied i s.activeZc).moveEntry i .head .placing).setLocation i
      .gripper).handOverAttempt i s.activeZc).stampTransit root).showHead.recoverIfLost
  | c => ((s.moveToGripper c).stampTransit root).showHead

/-- Write the deviations of a LAID entry (R154). -/
def State.setDeviation (s : State) (i : EntryIx) (d : Pose) : State :=
  (s.setWord (entryAddr i 8) (packHalves (signed16 d.x) (signed16 d.y))).setWord (entryAddr i 9)
    (packHalves (signed16 d.z) (signed16 d.yaw))

/-- Write the settle samples field of an entry (R5). -/
def State.setSamples (s : State) (i : EntryIx) (n : Nat) : State :=
  s.setWord (entryAddr i 10) (putField (s.word (entryAddr i 10)) 16 16 n)

/-- The gripper becomes EMPTY with content NONE, and the attempt record ends (R154, R156). -/
def State.clearGripper (s : State) : State :=
  let s1 := s.endAttempt
  s1.putHead { s1.head with gripper := .cleared }

/-- The probe fields of an entry, which do not concern kind LAY, are 0 (R5, R154). -/
def State.clearProbeFields (s : State) (i : EntryIx) : State :=
  (s.setWord (entryAddr i 11) 0).setWord (entryAddr i 12) 0

/-- The deviations of an entry, which do not concern kind PROBE, are 0 (R5, R156). -/
def State.clearDeviation (s : State) (i : EntryIx) : State :=
  (s.setWord (entryAddr i 8) 0).setWord (entryAddr i 9) 0

/-- RELEASE reported DONE (R154, R164). -/
def State.releaseDone (s : State) : State :=
  let g := s.head.gripper
  match g.content with
  | .entry i =>
    ((((((s.setDeviation i g.deviation).setSamples i g.tally).clearProbeFields i).finishEntry i .laid .done).removeRecord
      i).countTerminal i .laid).clearGripper
  | .void f => s.putHead { s.head with gripper := .cleared, lastVoidRelease := f }
  | .none => s.putHead { s.head with gripper := .cleared }

/-- Measured top: G_z + S_z − p (R136). -/
def measuredTop (sample : Int × Int) (stroke : Nat) : Int := sample.1 + sample.2 - (stroke : Int)

/-- Write the probe results: measured Z narrowed to ±2,000,000, the deviation held at ±32767 (R136, R156). -/
def State.setProbe (s : State) (i : EntryIx) (top target : Int) : State :=
  (s.setWord (entryAddr i 11) (BitVec.ofInt 32 (clampInt (-2000000) 2000000 top))).setWord (entryAddr i 12)
    (BitVec.ofNat 32 (signed16 (clampInt (-32767) 32767 (top - target))))

/-- PROBE reported DONE with a stroke (R156, R164); a stroke reported after the end of the record has no result (R136). -/
def State.probeDone (s : State) (stroke : Nat) : State :=
  let g := s.head.gripper
  match g.content, s.trim.attempt, s.trim.settleSample with
  | .entry i, some a, some sample =>
    (((((((s.setProbe i (measuredTop sample stroke) a.target.z).setSamples i g.tally).clearDeviation i).setApplied i
      0).finishEntry i .probed .done).removeRecord i).countTerminal i .probed).clearGripper
  | _, _, _ => s.clearGripper

/-- An eject is counted into the reject bin (R165, R166). -/
def State.countEject (s : State) : State :=
  let n := s.head.binCount + 1
  let s1 := s.withHead { s.head with binCount := n }
  if n = binMax then s1.raise .binFull else s1

/-- EJECT reported DONE (R165). -/
def State.ejectDone (s : State) (place : HeadPlace) : State :=
  let s1 := s.countEject
  match place with
  | .bay => s1.putHead { s1.head with bay := .cleared }
  | .gripper => s1.putHead { s1.head with gripper := .cleared }

/-- A head operation is completed, with its result value (R146). -/
def State.operationDone (s : State) (c : StationCommand) (result : Nat) : State :=
  match c with
  | .spread => s.spreadDone
  | .take => s.takeDone
  | .release => s.releaseDone
  | .probe => s.probeDone result
  | .eject p => s.ejectDone p
  | .query | .feed _ => s

/-! ### Failed head operations (R162) -/

/-- The attempt of the entry a content names fails with GRIP_FAULT; a void brick has none (R162). -/
def State.failContent (s : State) (c : Content) : State :=
  match c with
  | .entry i => s.attemptFailure i .gripFault
  | _ => s

/-- A failed head operation sets its place and fails the attempt it served (R162). -/
def State.operationFailed (s : State) (c : StationCommand) : State :=
  let b := s.head.bay
  let g := s.head.gripper
  match c with
  | .spread =>
    (s.putHead { s.head with bay := { b with state := .spread, content := voided b.content, openTimer := none } }).failContent
      b.content
  | .take =>
    (s.putHead
      { s.head with
        bay := { b with state := .spread, content := voided b.content, openTimer := none }
        gripper := .cleared }).failContent g.content
  | .release =>
    let s1 := s.endAttempt
    (s1.putHead
      { s1.head with
        gripper := { g with state := .holding, content := voided g.content, openTimer := none, confirm := false } }).failContent
      g.content
  | .probe => s.clearGripper.failContent g.content
  | .eject .bay => s.putHead { s.head with bay := { b with state := b.ejectFrom } }
  | .eject .gripper => s.putHead { s.head with gripper := { g with state := .holding } }
  | .query | .feed _ => s

/-- A head station fault (R103): the failed operation first, then HEAD_STATION, then one HALT request. -/
def State.headStationFault (s : State) (failed : Option StationCommand) : State :=
  let s1 := match failed with
    | some c => s.operationFailed c
    | none => s
  (s1.raise .headStation).requestHalt

/-! ### What each side wants (R146, R148, R150, R153, R155, R165) -/

/-- The command served by the spreader side or the gripper side (R146). -/
def StationCommand.onSide (c : StationCommand) (p : Position) : Bool :=
  match c, p with
  | .spread, .spreader => true
  | .take, .gripper | .release, .gripper | .probe, .gripper | .eject _, .gripper => true
  | _, _ => false

/-- A side is free: nothing of it is pending at the arbiter or on the line, and its station has no deferred request and no
operation outstanding (R146). -/
def State.sideFree (s : State) (p : Position) : Bool :=
  !(s.line.headRequests.any fun c => c.onSide p) &&
    !(match s.line.transaction with
      | some t => t.command.onSide p
      | none => false) &&
    decide ((s.line.at p).deferred = none) && decide ((s.line.at p).operation = .none)

/-- Place a head command with the arbiter, behind those placed before it (R95). -/
def State.placeHead (s : State) (c : StationCommand) : State :=
  s.withLine { s.line with headRequests := s.line.headRequests ++ [c] }

/-- SPREAD is wanted (R148). -/
def State.wantsSpread (s : State) : Bool :=
  match s.head.bay.state, s.head.bay.content with
  | .arrived, .entry _ => s.seq.profile.earlySpread || decide (s.head.gripper.state = .empty)
  | _, _ => false

/-- The spreader side places SPREAD when it is free and wants it (R146, R148). -/
def State.spreaderRequest (s : State) : State :=
  if s.sideFree .spreader && s.wantsSpread then
    (s.putHead { s.head with bay := { s.head.bay with state := .spreading } }).placeHead .spread
  else s

/-- The gripper's next record: the oldest whose brick location is not GRIPPER (R150). -/
def State.nextRecord (s : State) : Option IssueRecord := s.issue.list.find? fun r => r.location ≠ .gripper

/-- TAKE is wanted (R150). -/
def State.wantsTake (s : State) : Bool :=
  match s.head.gripper.state, s.head.bay.state, s.head.bay.content with
  | .empty, .spread, .entry i =>
    decide (s.nextRecord.map (fun r => r.entry) = some i) && !s.control.manualGrant
  | _, _, _ => false

/-- EJECT GRIP is wanted (R165). -/
def State.wantsEjectGrip (s : State) : Bool :=
  decide (s.head.gripper.state = .holding) && s.head.gripper.content.isVoid && s.head.gripper.brick

/-- EJECT BAY is wanted (R165). -/
def State.wantsEjectBay (s : State) : Bool :=
  (decide (s.head.bay.state = .arrived) || decide (s.head.bay.state = .spread)) && s.head.bay.content.isVoid

/-- The command the gripper side places when it is free: its own content first, EJECT BAY when none of the others is
wanted, an eject only below 12 in the bin (R146, R165, R166). -/
def State.gripperWants (s : State) : Option StationCommand :=
  let g := s.head.gripper
  if g.state = .releasing ∧ g.content.isEntry = true then some .release
  else if g.state = .probing ∧ g.content.isEntry = true then some .probe
  else if s.wantsTake then some .take
  else if s.wantsEjectGrip then (if s.head.binCount < binMax then some (.eject .gripper) else none)
  else if s.wantsEjectBay then (if s.head.binCount < binMax then some (.eject .bay) else none)
  else none

/-- The gripper side places what it wants when it is free; placing TAKE makes the gripper TAKING with the bay's content
(R146, R150). -/
def State.gripperRequest (s : State) : State :=
  if s.sideFree .gripper then
    match s.gripperWants with
    | none => s
    | some .take =>
      (s.putHead
        { s.head with
          gripper := { Gripper.cleared with state := .taking, content := s.head.bay.content } }).placeHead .take
    | some c => s.placeHead c
  else s

/-- The gripper takes a probe up when its next record is a PROBE in ISSUED and the gripper is EMPTY; the applied
correction field of the entry, which does not concern kind PROBE, is 0 (R5, R152). -/
def State.takeUpProbe (s : State) : State :=
  match s.nextRecord with
  | none => s
  | some r =>
    if r.kind = .probe ∧ s.head.gripper.state = .empty ∧ s.entryState r.entry = some .issued then
      (((((s.putHead
        { s.head with
          gripper := { Gripper.cleared with state := .holding, content := .entry r.entry } }).setApplied r.entry
          0).moveEntry r.entry .issued .placing).setLocation r.entry .gripper).handOverAttempt r.entry 0).recoverIfLost
    else s

end Sys2Proof.Machine
end

