-- ==== Sys2Proof/Machine/LineOps.lean ====
section
/-! DEFINITION. The operations of the station line controller: station sense, the arbiter, transactions and their
failures, replies to commands and to QUERY, holds and polls (chapter 5). -/

namespace Sys2Proof.Machine

/-! ### Station sense (R83, R84) -/

/-- The sensed kind is the kind the position requires (R83). -/
def kindFits (p : Position) (k : StationKind) : Bool :=
  match p, k with
  | .feederA, .feeder | .feederB, .feeder | .spreader, .spreader | .gripper, .gripper => true
  | _, _ => false

/-- The record of a position after station sense (R84, R85). -/
def sensedStation (p : Position) (k : StationKind) (now : Word) : Station :=
  if kindFits p k then { Station.unsensed with kind := k, state := .ready, nextPoll := some now }
  else { Station.unsensed with kind := k }

/-- Stations complete (R83). -/
def stationsComplete (l : IdentityLines) : Bool :=
  (decide (l.feederA = .feeder) || decide (l.feederA = .absent)) &&
    (decide (l.feederB = .feeder) || decide (l.feederB = .absent)) &&
    (decide (l.feederA = .feeder) || decide (l.feederB = .feeder)) &&
    decide (l.spreader = .spreader) && decide (l.gripper = .gripper)

/-- The station line controller after station sense: no transaction and no request (R84, R104). -/
def sensedLine (l : IdentityLines) (now : Word) (last : List Byte) : StationLine :=
  ⟨sensedStation .feederA l.feederA now, sensedStation .feederB l.feederB now, sensedStation .spreader l.spreader now,
   sensedStation .gripper l.gripper now, none, [], last, stationsComplete l⟩

/-! ### Due times (R96) -/

/-- A due time has been reached; times are compared modulo 2^32 (log entry 17). -/
def dueReached (now due : Word) : Bool := decide ((now - due).toNat < 2147483648)

/-- How long ago a due time was reached. -/
def lateness (now due : Word) : Nat := (now - due).toNat

/-- The next poll due of a station at the end of a transaction with it (R96); `answered` is an ACCEPTED or BUSY reply to
a command (R90). A poll that is pending keeps its due time. -/
def pollAfter (x : Station) (working : Nat) (now : Word) (answered : Bool) : Station :=
  if x.state = .absent ∨ x.pollPending = true then x
  else
    let base := if answered = true ∨ x.state = .busy ∨ x.deferred.isSome = true then working else idlePollMs
    let due := now + BitVec.ofNat 32 base
    match x.nextPoll with
    | some d => if answered && dueReached due d then x else { x with nextPoll := some due }
    | none => { x with nextPoll := some due }

/-- Set a station's next poll due at the end of a transaction (R96), as the station stands when its reply has been handled
(log entry 43). -/
def State.schedulePoll (s : State) (p : Position) (answered : Bool) : State :=
  s.setStation p (pollAfter (s.line.at p) s.seq.profile.workingPoll s.time answered)

/-! ### State changes of a station (R55, R86) -/

/-- A feeder that is not READY withdraws a FEED request still in phase REQUESTED for it (R55, R86). -/
def State.withdrawIfNotReady (s : State) (p : Position) : State :=
  match s.issue.feed with
  | none => s
  | some f =>
    if feederPosition f.feeder = p ∧ f.phase = .requested ∧ (s.line.at p).state ≠ .ready then s.endFeed else s

/-- Replace a station record and tell the issue unit of a feeder that has left READY (R86). -/
def State.changeStation (s : State) (p : Position) (x : Station) : State := (s.setStation p x).withdrawIfNotReady p

/-! ### The arbiter (R95, R97) -/

/-- Commands other than QUERY are granted in IDLE, RUN and DRAIN (R97). -/
def State.commandsGranted (s : State) : Bool :=
  decide (s.control.state = .idle ∨ s.control.state = .run ∨ s.control.state = .drain)

/-- The station a head command is sent to (R89). -/
def headTarget : StationCommand → Position
  | .spread => .spreader
  | .query | .feed _ | .take | .release | .probe | .eject _ => .gripper

/-- The first placed head command whose station is READY (R95). -/
def State.grantableHead (s : State) : Option StationCommand :=
  s.line.headRequests.find? fun c => (s.line.at (headTarget c)).state = .ready

/-- A FEED held back at a feeder (R90). -/
def Station.defersFeed (x : Station) : Bool :=
  match x.deferred with
  | some (.feed _) => true
  | _ => false

/-- The FEED request, when it stands at the arbiter and its feeder is READY (R55, R95). -/
def State.grantableFeed (s : State) : Option FeedPending :=
  match s.issue.feed with
  | none => none
  | some f =>
    if f.phase = .requested ∧ s.feederReady f.feeder = true ∧
        (s.line.at (feederPosition f.feeder)).defersFeed = false then some f
    else none

/-- Of two pending polls the one with the earlier due time, the lower position when they are equal (R95). -/
def State.earlierPoll (s : State) (best : Option (Position × Nat)) (p : Position) : Option (Position × Nat) :=
  let x := s.line.at p
  match x.pollPending, x.nextPoll with
  | true, some d =>
    match best with
    | none => some (p, lateness s.time d)
    | some (q, l) => if l < lateness s.time d then some (p, lateness s.time d) else some (q, l)
  | _, _ => best

/-- The pending QUERY poll that is granted first (R95). -/
def State.grantablePoll (s : State) : Option Position :=
  if s.control.state = .init ∧ s.control.sensed = false then none
  else (positions.foldl s.earlierPoll none).map fun x => x.1

/-- Put a command frame on the line; its reply deadline runs from now (R87, R98). -/
def State.sendFrame (s : State) (p : Position) (c : StationCommand) : State :=
  s.withLine { s.line with transaction := some ⟨p, c, s.time⟩, lastFrame := commandFrame p c }

/-- The bay at the grant of its EJECT (R165): EJECTING, with the state that a failure returns it to (R162). An EJECT that
is granted again after a BUSY reply finds the bay EJECTING, and the state before its first grant stands (log entry 39). -/
def Bay.markEjecting (b : Bay) : Bay :=
  if b.state = .ejecting then b else { b with state := .ejecting, ejectFrom := b.state }

/-- At the grant of its EJECT the place becomes EJECTING (R165). -/
def State.markEjecting (s : State) (c : StationCommand) : State :=
  match c with
  | .eject .bay => s.putHead { s.head with bay := s.head.bay.markEjecting }
  | .eject .gripper => s.putHead { s.head with gripper := { s.head.gripper with state := .ejecting } }
  | _ => s

/-- Grant a head command (R95, R165). -/
def State.grantHead (s : State) (c : StationCommand) : State :=
  ((s.withdrawHead c).markEjecting c).sendFrame (headTarget c) c

/-- Grant the FEED request: phase SENT (R55). -/
def State.grantFeed (s : State) (f : FeedPending) : State :=
  (s.withIssue { s.issue with feed := some { f with phase := .sent } }).sendFrame (feederPosition f.feeder)
    (.feed f.cutLength)

/-- Grant a QUERY poll: the station's next poll due is cleared (R95). -/
def State.grantPoll (s : State) (p : Position) : State :=
  (s.setStation p { s.line.at p with nextPoll := none, pollPending := false }).sendFrame p .query

/-- The free line is granted to the first request in the arbiter's order (R95, R97). -/
def State.grantLine (s : State) : State :=
  if s.line.transaction.isSome then s
  else
    match s.commandsGranted, s.grantableHead, s.grantableFeed with
    | true, some c, _ => s.grantHead c
    | true, none, some f => s.grantFeed f
    | _, _, _ =>
      match s.grantablePoll with
      | some p => s.grantPoll p
      | none => s

/-! ### Failed transactions (R98 to R100) -/

/-- The line becomes free (R95). -/
def State.freeLine (s : State) : State := s.withLine { s.line with transaction := none }

/-- A first failure sets the retry mark and resends the frame at once, keeping the line (R99). -/
def State.resend (s : State) (t : Transaction) : State :=
  (s.setStation t.position { s.line.at t.position with retry := true }).sendFrame t.position t.command

/-- NO_REPLY (R88). -/
def errorNoReply : Half := 0x8002
/-- FEED_TIMEOUT (R88). -/
def errorFeedTimeout : Half := 0x8001
/-- OPERATION_LOST (R88). -/
def errorOperationLost : Half := 0x8003
/-- RANGE (R88). -/
def errorRange : Half := 0x8004

/-- The station becomes UNRESPONSIVE (R100). -/
def unresponsiveStation (x : Station) : Station :=
  { x with state := .unresponsive, operation := .none, lastError := errorNoReply, retry := false, hold := none }

/-- The head operation that an outstanding operation is. -/
def headOperation : Outstanding → Option StationCommand
  | .command (.feed _) => none
  | .command c => some c
  | .none | .foreign => none

/-- A FEED that ends without a brick while it is SENT clears the feed-pending record (R55, R63). -/
def State.endSentFeed (s : State) (p : Position) : State :=
  match s.issue.feed with
  | none => s
  | some f => if feederPosition f.feeder = p ∧ f.phase = .sent then s.endFeed else s

/-- A second failure ends the transaction without a reply (R100): a failed command or, at a poll, the operation
outstanding is handed on, STATION_FAULT is raised on a change into UNRESPONSIVE, and a head station faults. -/
def State.secondFailure (s : State) (t : Transaction) : State :=
  let x := s.line.at t.position
  let s0 := s.freeLine.endSentFeed t.position
  let s1 := (s0.changeStation t.position (unresponsiveStation (s0.line.at t.position))).schedulePoll t.position false
  let failed := if t.command = .query then headOperation x.operation else headOperation (.command t.command)
  if x.state = .unresponsive then
    match failed with
    | some c => s1.operationFailed c
    | none => s1
  else if isFeederPosition t.position then s1.raise .stationFault
  else (s1.raise .stationFault).headStationFault failed

/-- A failed transaction: the first is resent, the second ends it (R99, R100). -/
def State.failTransaction (s : State) (t : Transaction) : State :=
  if (s.line.at t.position).retry then s.secondFailure t else s.resend t

/-! ### Replies to commands (R90) -/

/-- ACCEPTED: the feed-pending record enters phase ACCEPTED (R55, R63). -/
def State.acceptFeed (s : State) (p : Position) : State :=
  match s.issue.feed with
  | none => s
  | some f =>
    if feederPosition f.feeder = p ∧ f.phase = .sent then
      s.withIssue { s.issue with feed := some { f with phase := .accepted s.time } }
    else s

/-- A good reply ACCEPTED to a command (R90). -/
def State.commandAccepted (s : State) (p : Position) (c : StationCommand) : State :=
  ((s.acceptFeed p).changeStation p { s.line.at p with operation := .command c, state := .busy, retry := false }).schedulePoll
    p true

/-- BUSY to a FEED (R55, R63): an entry's record returns to REQUESTED and the command is held back at the feeder, a
void-pending record clears, and a record that has already ended holds nothing back. -/
def State.busyFeed (s : State) (p : Position) (c : StationCommand) : State :=
  match s.issue.feed with
  | none => s
  | some f =>
    if feederPosition f.feeder = p ∧ f.phase = .sent then
      match f.entry with
      | none => s.withIssue { s.issue with feed := none }
      | some _ =>
        (s.withIssue { s.issue with feed := some { f with phase := .requested } }).setStation p
          { s.line.at p with deferred := some c }
    else s

/-- A good reply BUSY to a command (R90). -/
def State.commandBusy (s : State) (p : Position) (c : StationCommand) : State :=
  let s1 := s.setStation p { s.line.at p with retry := false }
  let s2 := match c with
    | .feed _ => s1.busyFeed p c
    | _ => s1.setStation p { s1.line.at p with deferred := some c }
  (s2.withdrawIfNotReady p).schedulePoll p true

/-- An error word in reply to a command (R90, R102, R103). -/
def State.commandError (s : State) (p : Position) (c : StationCommand) (code : Half) : State :=
  let x := s.line.at p
  let s1 := ((s.endSentFeed p).changeStation p
    { (s.endSentFeed p).line.at p with
      state := .faulted, operation := .none, lastError := code, retry := false, hold := none }).schedulePoll p false
  if isFeederPosition p then s1
  else if x.state = .faulted then s1.operationFailed c
  else s1.headStationFault (some c)

/-! ### Replies to QUERY (R91 to R94) -/

/-- How the operation outstanding is settled against the reported state: what is outstanding afterwards, whether the
deferred request is dropped, what completed, and whether an operation failed, with the command its requester is told of
and the error word. -/
structure Settlement where
  operation : Outstanding
  dropDeferred : Bool
  completed : Option StationCommand
  failed : Option (Option StationCommand × Half)
  deriving DecidableEq, Repr

/-- The error word of a reported ERROR: the latched one, or OPERATION_LOST when that is 0 (R91). -/
def errorWordOf (d : QueryData) : Half := if d.latched = 0 then errorOperationLost else d.latched

/-- An operation reported DONE; a PROBE with a result above 600 fails with RANGE (R89). -/
def settleDone (c : StationCommand) (drop : Bool) (d : QueryData) : Settlement :=
  if c = .probe ∧ 600 < d.result.toNat then ⟨.none, drop, none, some (some c, errorRange)⟩
  else ⟨.none, drop, some c, none⟩

/-- The deferred head request that a reported operation is adopted for (R92). -/
def adoptedRequest (deferred : Option StationCommand) (lastOperation : Byte) : Option StationCommand :=
  match deferred with
  | some (.feed _) => none
  | some c => if commandCode c = lastOperation then some c else none
  | none => none

/-- Settle the operation outstanding (R91, R92). -/
def settleOperation (op : Outstanding) (deferred : Option StationCommand) (d : QueryData) : Settlement :=
  match op with
  | .command c =>
    match d.reported with
    | .working => ⟨.command c, false, none, none⟩
    | .done =>
      if commandCode c = d.lastOperation then settleDone c false d
      else ⟨.none, false, none, some (some c, errorOperationLost)⟩
    | .error => ⟨.none, false, none, some (some c, errorWordOf d)⟩
    | .idle => ⟨.none, false, none, some (some c, errorOperationLost)⟩
  | .foreign =>
    match d.reported with
    | .working => ⟨.foreign, false, none, none⟩
    | .done => ⟨.none, false, none, none⟩
    | .error => ⟨.none, false, none, some (none, errorWordOf d)⟩
    | .idle => ⟨.none, false, none, some (none, errorOperationLost)⟩
  | .none =>
    match d.reported with
    | .idle => ⟨.none, false, none, none⟩
    | .working =>
      match adoptedRequest deferred d.lastOperation with
      | some c => ⟨.command c, true, none, none⟩
      | none => ⟨.foreign, false, none, none⟩
    | .done =>
      match adoptedRequest deferred d.lastOperation with
      | some c => settleDone c true d
      | none => ⟨.none, false, none, none⟩
    | .error =>
      match adoptedRequest deferred d.lastOperation with
      | some c => ⟨.none, true, none, some (some c, errorWordOf d)⟩
      | none => ⟨.none, false, none, some (none, errorWordOf d)⟩

/-- Hold seconds: larger values are taken as 600, and a spreader's or gripper's as 0 (R91). -/
def holdSeconds (p : Position) (d : QueryData) : Nat := if isFeederPosition p then min 600 d.hold.toNat else 0

/-- The station record after a good QUERY reply (R91's five steps, R94). -/
def settledStation (p : Position) (x : Station) (d : QueryData) (r : Settlement) : Station :=
  let y :=
    { x with
      operation := r.operation
      retry := false
      hold := none
      deferred := if r.dropDeferred then none else x.deferred }
  match r.failed with
  | some (_, e) => { y with state := .faulted, lastError := e }
  | none =>
    if r.operation ≠ .none then { y with state := .busy }
    else if d.reported = .idle ∧ d.latched ≠ 0 then { y with state := .faulted, lastError := d.latched }
    else if 0 < holdSeconds p d then { y with state := .held, hold := some (holdSeconds p d * 1000) }
    else { y with state := .ready }

/-- A RELEASE or PROBE of a content that has become VOID is not placed again: its place is set as R163 sets it for a
request not granted (log entry 13). An EJECT placed again leaves its place EJECTING (log entry 39). -/
def State.replaceHead (s : State) (c : StationCommand) : State :=
  if c = .release ∧ s.head.gripper.content.isVoid = true then
    s.putHead { s.head with gripper := { s.head.gripper with state := .holding } }
  else if c = .probe ∧ s.head.gripper.content.isVoid = true then s.putHead { s.head with gripper := .cleared }
  else s.placeHead c

/-- After a poll's reply has been handled, the deferred request is placed with the arbiter again if the station is READY
(R90). -/
def State.replaceDeferred (s : State) (p : Position) : State :=
  let x := s.line.at p
  match x.deferred with
  | none => s
  | some c =>
    if x.state = .ready then
      let s1 := s.setStation p { x with deferred := none }
      match c with
      | .feed _ => s1
      | _ => s1.replaceHead c
    else s

/-- What a settled operation means to the head sequencer, and the head station fault of a change into FAULTED (R91,
R103). A FEED's end is told to no block (R89). -/
def State.reportSettled (s : State) (p : Position) (r : Settlement) (result : Nat) (fault : Bool) : State :=
  if isFeederPosition p then s
  else
    let s1 := match r.completed with
      | some c => s.operationDone c result
      | none => s
    let failed := match r.failed with
      | some (some c, _) => some c
      | _ => none
    if fault then s1.headStationFault failed
    else
      match failed with
      | some c => s1.operationFailed c
      | none => s1

/-- A good QUERY reply with a value (R91). The next poll due is set when the reply has been handled whole, so a deferred
request that has been placed again counts no more as held: DEDUCED (log entry 43). -/
def State.queryStatus (s : State) (p : Position) (d : QueryData) : State :=
  let x := s.line.at p
  let r := settleOperation x.operation x.deferred d
  let y := settledStation p x d r
  let s1 := s.changeStation p y
  let s2 := s1.reportSettled p r d.result.toNat (decide (y.state = .faulted ∧ x.state ≠ .faulted))
  (s2.replaceDeferred p).schedulePoll p false

/-- A QUERY answered with an error word (R88, R102): the station is FAULTED with that code, and an operation outstanding
has failed (log entry 12). -/
def State.queryError (s : State) (p : Position) (code : Half) : State :=
  let x := s.line.at p
  let s1 := s.changeStation p
    { x with state := .faulted, operation := .none, lastError := code, retry := false, hold := none }
  let s2 :=
    if isFeederPosition p then s1
    else if x.state = .faulted then
      match headOperation x.operation with
      | some c => s1.operationFailed c
      | none => s1
    else s1.headStationFault (headOperation x.operation)
  s2.schedulePoll p false

/-! ### Taking a reply (R87, R98) -/

/-- A good reply to the transaction on the line: the line becomes free and the reply is handled (R90, R91). -/
def State.goodReply (s : State) (t : Transaction) (r : Reply) : State :=
  let s1 := s.freeLine
  match r with
  | .accepted => s1.commandAccepted t.position t.command
  | .busy => s1.commandBusy t.position t.command
  | .error code =>
    if t.command = .query then s1.queryError t.position code else s1.commandError t.position t.command code
  | .status d => s1.queryStatus t.position d

/-- The time since the last byte of the command frame on the line. -/
def State.elapsed (s : State) (t : Transaction) : Nat := (s.time - t.sentAt).toNat

/-- The bytes of a reply arrive (R87, R98): with no transaction awaiting a reply, or after its deadline, they are
discarded; otherwise they are judged. A frame that ends exactly at the deadline is good. -/
def State.receiveReply (s : State) (bytes : List Byte) : State :=
  match s.line.transaction with
  | none => s
  | some t =>
    if replyDeadlineMs < s.elapsed t then s
    else
      match judgeReply t.position (decide (t.command = .query)) bytes with
      | .incomplete => s
      | .notGood => s.failTransaction t
      | .good r => s.goodReply t r

end Sys2Proof.Machine
end

