-- ==== Sys2Proof/Machine/TrackerOps.lean ====
section
/-! DEFINITION. The operations of the tracking unit: the receiver, the judgement of frames, the vote, the class window,
the tracking states and what is handed on (chapter 6). -/

namespace Sys2Proof.Machine

/-! ### The vote (R110, R111) -/

/-- Two samples agree when every axis is within its window, yaw wrapped (R110). -/
def agree (p : Profile) (a b : Pose) : Bool :=
  decide (magnitude (a.x - b.x) ≤ p.windowXYZ ∧ magnitude (a.y - b.y) ≤ p.windowXYZ ∧
    magnitude (a.z - b.z) ≤ p.windowXYZ ∧ magnitude (wrapYaw (a.yaw - b.yaw)) ≤ p.windowYaw)

/-- The class of a new sample against the history, oldest first (R111). -/
def voteClass (p : Profile) (history : List Sample) (c : Sample) : SampleClass :=
  match history with
  | [older, newer] =>
    if agree p c.pose newer.pose then .accepted
    else if agree p c.pose older.pose then .corrected
    else if agree p older.pose newer.pose then .rejected
    else .unstable
  | _ => .priming

/-- The history after the vote: the newest sample is always retained, and of P and Q the one kept is P when the class is
CORRECTED and Q otherwise (R111). -/
def voteHistory (history : List Sample) (cls : SampleClass) (c : Sample) : List Sample :=
  match history with
  | [older, newer] => if cls = .corrected then [older, c] else [newer, c]
  | h => h ++ [c]

/-- ACCEPTED and CORRECTED samples are usable (R112). -/
def SampleClass.usable : SampleClass → Bool
  | .accepted | .corrected => true
  | .priming | .rejected | .unstable => false

/-! ### The class window (R113) -/

/-- The window holds at most 16 classes (R113). -/
def windowMax : Nat := 16

/-- Append a class; when the window holds 16 the oldest is removed; PRIMING leaves it unchanged (R113). -/
def appendWindow (w : List SampleClass) (c : SampleClass) : List SampleClass :=
  if c = .priming then w else (w ++ [c]).drop (w.length + 1 - windowMax)

/-- The bad count: REJECTED and UNSTABLE classes in the window (R113). -/
def badCount (w : List SampleClass) : Nat := (w.filter fun c => decide (c = .rejected ∨ c = .unstable)).length

/-! ### Tracking states (R114 to R116) -/

/-- The tracking state after a sample of class `c`, with `bad` bad classes in the window that includes it (R115,
R116). -/
def nextTracking (p : Profile) (st : TrackingState) (c : SampleClass) (bad : Nat) : TrackingState :=
  if c = .priming then st
  else
    match st with
    | .lost => .lost
    | .acquiring =>
      if c.usable then (if p.unsteadyOn ≤ bad then .unsteady else .tracking) else .acquiring
    | .tracking => if p.unsteadyOn ≤ bad then .unsteady else .tracking
    | .unsteady => if bad ≤ p.unsteadyOff then .tracking else .unsteady

/-- Raise the counter of a class (R120). -/
def Tracker.countClass (t : Tracker) (c : SampleClass) : Tracker :=
  match c with
  | .priming => { t with priming := t.priming + 1 }
  | .accepted => { t with accepted := t.accepted + 1 }
  | .corrected => { t with corrected := t.corrected + 1 }
  | .rejected => { t with rejected := t.rejected + 1 }
  | .unstable => { t with unstable := t.unstable + 1 }

/-- A FIX frame in LOST makes the state ACQUIRING and starts the loss timer (R114); the head sequencer stops the
restart-delay timer (R161). -/
def State.leaveLost (s : State) : State :=
  if s.tracker.state = .lost then
    (s.withTracker { s.tracker with state := .acquiring, lossTimer := some 0 }).withHead
      { s.head with restartTimer := none }
  else s

/-- The tracking unit's own work on a sample: vote, history, window, counters, last sample, loss timer and tracking state
(R111 to R117, R120). -/
def Tracker.takeSample (t : Tracker) (p : Profile) (smp : Sample) : Tracker :=
  let c := voteClass p t.history smp
  let w := appendWindow t.window c
  { t.countClass c with
    history := voteHistory t.history c smp
    window := w
    lossTimer := if c.usable then some 0 else t.lossTimer
    state := nextTracking p t.state c (badCount w)
    lastPose := smp.pose
    lastClass := some c }

/-- A sample H: the tracking unit's own work first, shown in one update for its frame (R120), then what it hands on (R109,
R112, R121, R131). -/
def State.takeSample (s : State) (h : Pose) : State :=
  let s1 := s.leaveLost
  let smp : Sample := ⟨h, s.time⟩
  let c := voteClass s1.seq.profile s1.tracker.history smp
  let t := s1.tracker.takeSample s1.seq.profile smp
  let s2 := (s1.withTracker t).showTracking
  let s3 := if t.state = .unsteady ∧ s1.tracker.state ≠ .unsteady then s2.raise .unsteady else s2
  let s4 := if s1.tracker.state = .tracking ∧ t.state ≠ .tracking then s3.zeroSettle else s3
  if c = .unstable then s4.zeroSettle
  else if c.usable then s4.usableSample h
  else s4

/-! ### Frames and the receiver (R105 to R108) -/

/-- The sequence record and the gap counter (R107). -/
def Tracker.noteSequence (t : Tracker) (q : Byte) : Tracker :=
  match t.sequence with
  | none => { t with sequence := some q }
  | some r => { t with sequence := some q, gaps := if q = r + 1 then t.gaps else t.gaps + 1 }

/-- The 18 bytes of a tracker frame (chapter 6.1). -/
def frameLength : Nat := 18

/-- A complete frame is judged (R106): malformed frames are counted, and the receiver hunts again in the bytes behind the
false sync byte; NOFIX and FIX frames are used. Each is one update of the status block (R120). -/
def State.takeFrame (s : State) (bytes : List Byte) : State :=
  match judgeFrame bytes with
  | .malformed =>
    (s.withTracker
      { s.tracker with
        malformed := s.tracker.malformed + 1
        collected := (bytes.drop 1).dropWhile fun b => b ≠ syncByte }).showTracking
  | .nofix q =>
    let t := s.tracker.noteSequence q
    (s.withTracker { t with nofix := t.nofix + 1, collected := [] }).showTracking
  | .fix q h => (s.withTracker { s.tracker.noteSequence q with collected := [] }).takeSample h

/-- One byte at the receiver: hunting for the sync byte, or collecting up to 18 bytes (R105). -/
def State.takeByte (s : State) (b : Byte) : State :=
  match s.tracker.collected with
  | [] => if b = syncByte then s.withTracker { s.tracker with collected := [b] } else s
  | c =>
    if (c ++ [b]).length = frameLength then s.takeFrame (c ++ [b])
    else s.withTracker { s.tracker with collected := c ++ [b] }

/-- Bytes arrive on the tracker link; the receiver takes them from the profile latch of INIT on (R105, R122). -/
def State.takeBytes (s : State) (bytes : List Byte) : State :=
  if s.tracker.receiving then bytes.foldl State.takeByte s else s

/-- A gap of more than 1 ms: the frame being collected is malformed, and the receiver hunts again (R105). -/
def State.byteGap (s : State) : State :=
  match s.tracker.collected with
  | [] => s
  | _ => (s.withTracker { s.tracker with malformed := s.tracker.malformed + 1, collected := [] }).showTracking

end Sys2Proof.Machine
end

