-- ==== Sys2Proof/Machine/Settle.lean ====
section
/-! DEFINITION. What the part re-evaluates at every event: the issue unit's choice of the next entry and its starved
condition, the train drive, the attention interrupt, and the SUPPLY summary in the status block. `finish` closes the meaning of
every command. -/

namespace Sys2Proof.Machine

/-! ### Choosing the next entry (R48 to R50, R54, R58) -/

/-- The conditions of R48 for a take in the active course of slot `k`. -/
def State.mayTake (s : State) : Bool :=
  decide (s.control.state = .run) && !s.seq.closeMark && decide (s.issue.list.length < issueListMax)

/-- An entry has a record in the issue list. -/
def State.inIssueList (s : State) (i : EntryIx) : Bool := s.issue.list.any fun r => r.entry = i

/-- The entry is neither terminal nor in the issue list (R49). -/
def State.notBegun (s : State) (i : EntryIx) : Bool :=
  !s.inIssueList i &&
    (match s.entryState i with
      | some e => !e.terminal
      | none => true)

/-- The candidate for the next take: the lowest-index entry of the range that reads POSTED, and in a strict-order course
only if it is the lowest one not begun (R49). -/
def State.candidate (s : State) (k : Slot) : Option EntryIx :=
  match (s.courseEntries k).find? fun i => s.entryState i = some .posted with
  | none => none
  | some i =>
    if s.courseStrict k then
      (if (s.courseEntries k).find? s.notBegun = some i then some i else none)
    else some i

/-- A LAY record that waits for its feed to be ordered again (R57). -/
def IssueRecord.needsFeed (r : IssueRecord) : Bool := decide (r.kind = .lay ∧ r.location = .none)

/-- What a LAY take needs besides a READY feeder (R50). -/
def State.layRoom (s : State) : Bool :=
  decide (s.issue.feed = none) && !(s.issue.list.any IssueRecord.needsFeed) &&
    decide (s.train.queue.length < trainMax) && decide (s.head.binCount < binMax)

/-- At least one of positions 0 and 1 is READY (R50). -/
def State.feederAvailable (s : State) : Bool := s.feederReady .a || s.feederReady .b

/-- The other feeder. -/
def otherFeeder : Feeder → Feeder
  | .a => .b
  | .b => .a

/-- The latched preferred feeder if it is READY, else the other if that is READY (R54). -/
def State.chooseFeeder (s : State) : Option Feeder :=
  let f := s.seq.profile.preferredFeeder
  if s.feederReady f then some f else if s.feederReady (otherFeeder f) then some (otherFeeder f) else none

/-- A LAY candidate meets every condition but the READY feeder (R58). -/
def State.layWanted (s : State) : Bool :=
  match s.seq.active with
  | none => false
  | some k =>
    s.mayTake && s.layRoom &&
      (match s.candidate k with
        | none => false
        | some i => decide (s.entryKind i = kindLay))

/-- A refeed is to be ordered (R57, R58). -/
def State.refeedWanted (s : State) : Bool := decide (s.issue.feed = none) && s.issue.list.any IssueRecord.needsFeed

/-- The starved condition: a LAY feed to order and no feeder READY (R58). -/
def State.starvedNow (s : State) : Bool := !s.feederAvailable && (s.refeedWanted || s.layWanted)

/-- Each entry into the starved condition raises SUPPLY_STARVED (R58). The condition is judged as the command leaves it: a
starved feed that goes away while another LAY feed to order stands at once is no end of it and no new entry, and raises
nothing again. DEDUCED (log entry 41). -/
def State.evalStarved (s : State) : State :=
  let n := s.starvedNow
  let s1 := s.withIssue { s.issue with starved := n }
  if n && !s.issue.starved then s1.raise .supplyStarved else s1

/-! ### The train drive (R73) -/

/-- The three conditions of RUNNING (R73). -/
def State.driveWanted (s : State) : Bool :=
  !s.train.queue.isEmpty && decide (s.head.bay.state = .empty) &&
    decide (s.control.state = .run ∨ s.control.state = .drain)

/-- Set the drive output (R73). -/
def State.evalDrive (s : State) : State := s.withTrain { s.train with drive := s.driveWanted }

/-! ### The status block (R20, R22) -/

/-- The status block brought up to its owners' state in one update. Each owner has shown its own changes as it made them,
so what is left at the end of a command is the SUPPLY summary, which train control writes in one update whenever its
value has changed (R80). -/
def State.showStatus (s : State) : State := s.updateStatus s.statusNow

/-- The status block rewritten inside one update, whatever it showed (R24). -/
def State.rewriteStatus (s : State) : State := s.withStatus ⟨s.status.count + 2, s.statusNow⟩

/-! ### The end of every command -/

/-- Starved condition, drive and interrupt re-evaluated. -/
def State.evaluate (s : State) : State := s.evalStarved.evalDrive.evalAttention

/-- The free values of this command have been used. -/
def State.spendFree (old s : State) : State := s.withFree (old.free + 1)

/-- Close a command taken in state `old` that has brought the part to `s`. -/
def finish (old s : State) : State := State.spendFree old s.evaluate.showStatus

/-- The outcome of a command taken in state `old` that has brought the part to `s`: every command completes. -/
def answer (old s : State) : Host.Outcome State Fault Refusal := .next (finish old s)

end Sys2Proof.Machine
end

