-- ==== Sys2Proof/Machine/BookWrites.lean ====
section
/-! DEFINITION. Host writes to the book as the book monitor judges them (chapter 1, R197), but for the boom word. -/

namespace Sys2Proof.Machine

/-! ### Writes that are discarded wherever the record stands (R1, R2, R15, R20) -/

/-- A book write that does not carry all four bytes is discarded (R1). -/
def execPartialBookWrite (_offset : BitVec 16) (_lanes : BitVec 4) (_value : Word) (s : State) :
    Host.Outcome State Fault Refusal :=
  answer s s.discardWrite

/-- A write to a spare word or to the no-decode range is discarded (R2). -/
def execSpareWordWrite (_offset : BitVec 16) (_value : Word) (s : State) : Host.Outcome State Fault Refusal :=
  answer s s.discardWrite

/-- A write to the status block is discarded (R20). -/
def execStatusBlockWrite (_offset : BitVec 16) (_value : Word) (s : State) : Host.Outcome State Fault Refusal :=
  answer s s.discardWrite

/-- A write to the layout version word is discarded (R15). -/
def execLayoutVersionWrite (_value : Word) (s : State) : Host.Outcome State Fault Refusal := answer s s.discardWrite

/-! ### State words of entries (R7 to R11) -/

/-- The entry stands in FREE, POSTED or a terminal state: its words other than the state word may be written (R11). -/
def State.entryWritable (s : State) (i : EntryIx) : Bool :=
  match s.entryState i with
  | some e => !e.inFlight
  | none => false

/-- A host POSTED write (R7, R11, R36). -/
def State.postEntry (s : State) (i : EntryIx) : State :=
  match s.entryState i with
  | some .free => ((s.clearPartFields i).setEntryState i .posted).cancelIfClosing i
  | some .posted => s
  | _ => s.discardWrite

/-- ENTRY_POST_WRITE (R7). -/
def execEntryPostWrite (i : EntryIx) (s : State) : Host.Outcome State Fault Refusal := answer s (s.postEntry i)

/-- A terminal entry is held by the ACTIVE course that its slot field names and in whose range it lies (R9). -/
def State.heldByActive (s : State) (i : EntryIx) : Bool :=
  if h : s.entrySlot i < 16 then
    decide (s.courseState ⟨s.entrySlot i, h⟩ = some .active) && s.inCourse ⟨s.entrySlot i, h⟩ i
  else false

/-- An accepted FREE write to a terminal entry: the active course takes it back out of its counts (R9, R34, R36). -/
def State.freeTerminal (s : State) (i : EntryIx) (e : EntryState) : State :=
  ((s.setEntryState i .free).uncountTerminal i e).cancelIfClosing i

/-- A host FREE write (R8, R9, R11, R36). -/
def State.freeEntry (s : State) (i : EntryIx) : State :=
  match s.entryState i with
  | some .free => s
  | some .posted => (s.setEntryState i .free).cancelIfClosing i
  | some e => if e.terminal && !s.heldByActive i then s.freeTerminal i e else s.discardWrite
  | none => s.discardWrite

/-- ENTRY_FREE_WRITE (R8, R9). -/
def execEntryFreeWrite (i : EntryIx) (s : State) : Host.Outcome State Fault Refusal := answer s (s.freeEntry i)

/-- A host CANCELLED write (R8, R11). -/
def State.cancelWrite (s : State) (i : EntryIx) : State :=
  match s.entryState i with
  | some .free | some .posted => s.cancelEntry i
  | some .cancelled => s
  | _ => s.discardWrite

/-- ENTRY_CANCEL_WRITE (R8). -/
def execEntryCancelWrite (i : EntryIx) (s : State) : Host.Outcome State Fault Refusal := answer s (s.cancelWrite i)

/-- A CONFIRM write is accepted: PLACING, kind LAY, HOLD set (R10). -/
def State.confirmAccepted (s : State) (i : EntryIx) : Bool :=
  decide (s.entryState i = some .placing) && decide (s.entryKind i = kindLay) && s.entryHold i

/-- The confirm mark is set while the gripper content is still that entry (R10, R157). -/
def State.confirmEntry (s : State) (i : EntryIx) : State :=
  if s.confirmAccepted i then
    (if s.head.gripper.content = .entry i then
      s.withHead { s.head with gripper := { s.head.gripper with confirm := true } }
    else s)
  else s.discardWrite

/-- CONFIRM (R10). -/
def execConfirm (i : EntryIx) (s : State) : Host.Outcome State Fault Refusal := answer s (s.confirmEntry i)

/-- A host write to a word of an entry other than its state word and its spare words: the word's fields take the written
values, unless the entry is in flight (R11, R197). -/
def execEntryFieldWrite (i : EntryIx) (w : EntryWord) (value : Word) (s : State) : Host.Outcome State Fault Refusal :=
  answer s
    (if s.entryWritable i then s.setWord (entryAddr i (entryWordNumber w)) (value &&& entryWordMask w)
    else s.discardWrite)

/-! ### State words of course records (R14, R35) -/

/-- COURSE_OPEN_WRITE (R14). -/
def execCourseOpenWrite (k : Slot) (s : State) : Host.Outcome State Fault Refusal :=
  answer s
    (match s.courseState k with
      | some .empty => s.setCourseState k .opened
      | some .opened => s
      | _ => s.discardWrite)

/-- COURSE_EMPTY_WRITE (R14). -/
def execCourseEmptyWrite (k : Slot) (s : State) : Host.Outcome State Fault Refusal :=
  answer s
    (match s.courseState k with
      | some .opened | some .closed => s.setCourseState k .empty
      | some .empty => s
      | _ => s.discardWrite)

/-- CLOSE_REQUEST (R14, R35, R37). -/
def execCloseRequest (k : Slot) (s : State) : Host.Outcome State Fault Refusal :=
  answer s
    (if s.courseState k = some .active then (if s.seq.closeMark then s else s.requestClose k) else s.discardWrite)

/-- The course record is in EMPTY, OPEN or CLOSED: its words may be written, but for the update count (R14). -/
def State.courseWritable (s : State) (k : Slot) (w : CourseWord) : Bool :=
  decide (s.courseState k ≠ some .active) && decide (w ≠ .updateCount)

/-- COURSE_FIELD_WRITE (R14, R197). -/
def execCourseFieldWrite (k : Slot) (w : CourseWord) (value : Word) (s : State) : Host.Outcome State Fault Refusal :=
  answer s
    (if s.courseWritable k w then s.setWord (courseAddr k (courseWordNumber w)) (value &&& courseWordMask w)
    else s.discardWrite)

/-- A code that the state word's record already holds, in a state in which holding it makes the write accepted (R11,
R14). -/
def State.holdsCode (s : State) (target : StateWordOf) (code : Byte) : Bool :=
  match target with
  | .entry i => s.entryWritable i && decide (s.entryCode i = code)
  | .course k => decide (s.courseState k ≠ some .active) && decide (s.courseCode k = code)

/-- A write of a code that no other row takes: accepted without effect where the record already holds it, else discarded
(R3, R11, R14). -/
def execStateWriteDiscarded (target : StateWordOf) (code : Byte) (s : State) : Host.Outcome State Fault Refusal :=
  answer s (if s.holdsCode target code then s else s.discardWrite)

/-! ### The header and the calibration image (R16 to R18, R21) -/

/-- An eject is in progress (R16). -/
def Head.ejecting (h : Head) : Bool := decide (h.bay.state = .ejecting) || decide (h.gripper.state = .ejecting)

/-- BIN_EMPTIED_WRITE: the word stores no value (R16). -/
def execBinEmptiedWrite (_value : Word) (s : State) : Host.Outcome State Fault Refusal :=
  answer s (if s.head.ejecting then s.discardWrite else s.putHead { s.head with binCount := 0 })

/-- JOG_WORD_WRITE (R17). -/
def execJogWordWrite (axis : Axis) (value : Word) (s : State) : Host.Outcome State Fault Refusal :=
  answer s (s.setWord (jogAddr axis) value)

/-- PROFILE_WORD_WRITE: kept as written, used from the next latch on (R18, R200). -/
def execProfileWordWrite (field : ProfileField) (value : Word) (s : State) : Host.Outcome State Fault Refusal :=
  answer s (s.setWord (profileAddr field) value)

/-- CAL_IMAGE_WRITE (R21). -/
def execCalImageWrite (j : Fin 32) (value : Word) (s : State) : Host.Outcome State Fault Refusal :=
  answer s (if s.cal.busy then s.discardWrite else s.setWord (imageAddr j.val) value)

end Sys2Proof.Machine
end

