-- ==== Sys2Proof/Machine/CalibrationEvents.lean ====
section
/-! DEFINITION. The calibration store: commit, its end, and the load of INIT (R21, R192 to R196). -/

namespace Sys2Proof.Machine

/-- A COMMIT_CAL is accepted in IDLE and in HALT while no commit is busy (R194). -/
def State.commitAccepted (s : State) : Bool :=
  decide (s.control.state = .idle ∨ s.control.state = .halt) && !s.cal.busy

/-- A commit whose image does not match its checksum, or is blank, is rejected: it has ended, and nothing else has changed
(R194). -/
def State.rejectCommit (s : State) : State := (s.withCal { s.cal with busy := false }).raise .calRejected

/-- A commit whose image passes its test ends: the store holds the image, and its values are handed to the trim controller
(R195). -/
def State.completeCommit (s : State) : State :=
  ((s.withCal { s.cal with store := s.image, valid := true, busy := false }).takeCalibration
    (calibrationOffset s.image) (calibrationRange s.image)).raise .calDone

/-- COMMIT_CAL (R194): an accepted commit is busy, and its image is tested as it stands. A bad image is rejected within
the step, or, where the test outlasts the step, at the end of the commit (R196, log entry 40). -/
def execCommitCal (s : State) : Host.Outcome State Fault Refusal :=
  answer s
    (if s.commitAccepted then
      (if calibrationGood s.image || Config.testOutlasts s.free then s.withCal { s.cal with busy := true, acceptedAt := s.time }
      else s.rejectCommit)
    else s.refuseCommand)

/-- COMMIT_END: R194 or R195 applies, by the test of the image, which no host write has changed since the acceptance
(R195, R196). -/
def execCommitEnd (s : State) : Host.Outcome State Fault Refusal :=
  answer s (if s.cal.busy then (if calibrationGood s.image then s.completeCommit else s.rejectCommit) else s)

/-- The store is copied into the image, word by word (R21, R193). -/
def State.copyImage (s : State) (v : Vector Word 32) : State :=
  (List.finRange 32).foldl (fun t j => t.setWord (imageAddr j.val) v[j]) s

/-- The offset and ranges of a store that is not valid (R124). -/
def invalidOffset : Pose := .zero
/-- The offset and ranges of a store that is not valid (R124). -/
def invalidRange : Pose := ⟨1, 1, 1, 1⟩

/-- The values a load hands to the trim controller (R193). -/
def State.handOver (s : State) (v : Vector Word 32) : State :=
  if calibrationGood v then s.takeCalibration (calibrationOffset v) (calibrationRange v)
  else s.takeCalibration invalidOffset invalidRange

/-- The load waits for a busy commit, and is made once in an INIT (R175, R193). -/
def State.loadDue (s : State) : Bool := decide (s.control.state = .init) && !s.cal.busy && !s.control.loaded

/-- CAL_LOAD (R193). -/
def execCalLoad (s : State) : Host.Outcome State Fault Refusal :=
  answer s
    (if s.loadDue then
      (((s.copyImage s.cal.store).withCal { s.cal with valid := calibrationGood s.cal.store }).handOver
        s.cal.store).withControl { s.control with loaded := true }
    else s)

end Sys2Proof.Machine
end

