-- ==== Sys2Proof/Machine/ResetOps.lean ====
section
/-! DEFINITION. Control reset and power-on: every block takes its reset state, and the part of INIT that is done at once
(station sense, the profile latch, the rewriting of the book) is carried out (R23, R24, R175 to R177). The calibration
load and the end of INIT are events of their own (CAL_LOAD, INIT_END). -/

namespace Sys2Proof.Machine

/-- Cause, mask and interrupt are cleared; what an earlier CAUSE read returned stays with the host (R191). -/
def HostPort.reset (h : HostPort) : HostPort := { h with cause := 0, mask := 0, attention := false }

/-- The ACTIVE course record returns to OPEN in one update of its record (R24, R44). -/
def State.reopenActive (s : State) : State :=
  match s.seq.active with
  | none => s
  | some k => (s.setCourseState k .opened).bumpCourse k

/-- The book's changes at a control reset (R24). -/
def State.resetBook (s : State) : State :=
  ((s.withBook { s.book with cells := s.book.cells.returnInFlight }).reopenActive).setWord layoutVersionAddr 1

/-- The course sequencer after a control reset: the pointer and the last-closed summary are kept, and the profile is
latched (R19, R44). -/
def State.resetSeq (s : State) (during : List LatchWrite) : State :=
  (s.withSeq { s.seq with active := none, closeMark := false }).latchProfile during

/-- The tracking unit after a control reset: the counters and the last sample are kept, and the receiver takes frames from
the profile latch on (R122). -/
def Tracker.reset (t : Tracker) : Tracker :=
  { t with
    receiving := true
    collected := []
    sequence := none
    history := []
    window := []
    lossTimer := none
    state := .lost }

/-- The trim controller after a control reset (R123, R142): S is 0, the drive enable follows the emergency line, the offset
and the ranges are kept until the load, and frame number 0 is sent at once. -/
def Trim.reset (t : Trim) (emergency : Bool) : Trim :=
  ({ t with
    setPoint := .zero
    attempt := none
    settleCount := 0
    tally := 0
    settleTimer := none
    saturated := 0
    reach := none
    settleSample := none
    driveEnable := !emergency
    nextFrame := 0 } : Trim).beginFrame

/-- The head sequencer after a control reset: the bin count and the last transit time are kept (R24, R167). -/
def Head.reset (h : Head) : Head :=
  { h with bay := .cleared, gripper := .cleared, restartTimer := none, lastVoidRelease := none }

/-- Machine control at the start of INIT, with station sense and the profile latch carried out (R175, R176): the emergency
line is taken as it stands and the boom hold from the boom word. -/
def Control.reset (c : Control) (boomMoving : Bool) : Control :=
  { state := .init
    manualRequest := false
    manualGrant := false
    boomMoving := boomMoving
    emergency := c.emergency
    haltHeld := false
    sensed := true
    latched := true
    loaded := false }

/-- The boom hold that the boom word declares (R15, R181). -/
def State.boomWordMoving (s : State) : Bool := decide (s.word boomWordAddr ≠ 0)

/-- Every block but the book and the course sequencer takes its reset state (R66, R81, R104, R122, R123, R167, R176,
R191). -/
def State.resetBlocks (s : State) (l : IdentityLines) : State :=
  { s with
    host := s.host.reset
    issue := ⟨[], none, false⟩
    train := ⟨[], false, false⟩
    line := sensedLine l s.time s.line.lastFrame
    tracker := s.tracker.reset
    trim := s.trim.reset s.control.emergency
    head := s.head.reset
    control := s.control.reset s.boomWordMoving }

/-- A control reset (R176), with the status block rewritten inside one update of it (R24). -/
def State.controlReset (s : State) (inputs : InitInputs) : State :=
  ((s.resetBook.resetSeq inputs.during).resetBlocks inputs.lines).rewriteStatus

/-- One word of the calibration store when power is lost during a commit (R195): the checksum word is the complement of
the image's, and of the 31 words those already written hold the image's. -/
def storeWordAtLoss (store image : Vector Word 32) (done : BitVec 31) (j : Fin 32) : Word :=
  if j.val = 31 then ~~~image[31] else if done.getLsbD j.val then image[j] else store[j]

/-- The calibration store when power is lost (R195); with no commit busy, or one that its test rejects (R194), it is
unchanged. -/
def State.storeAtLoss (s : State) (w : StoreWrite) : Vector Word 32 :=
  if s.cal.busy && calibrationGood s.image then
    match w with
    | .notBegun => s.cal.store
    | .writing done => Vector.ofFn (storeWordAtLoss s.cal.store s.image done)
    | .finished => s.image
  else s.cal.store

/-- The part at the instant of power-on: everything but the calibration store is in its power-on state (R23, R177), the
emergency line is as it stands, and the queue of commands is not the part's. -/
def State.powerUp (s : State) (emergency : Bool) (w : StoreWrite) : State :=
  { State.reset with
    cal := { State.reset.cal with store := s.storeAtLoss w }
    control := { State.reset.control with emergency := emergency }
    free := s.free
    pending := s.pending }

/-- Close a command taken in state `old` that has brought the part to `s` by a reset: the status block has had its one
update (R24). -/
def finishReset (old s : State) : State := State.spendFree old s.evaluate

/-- The outcome of a reset taken in state `old` that has brought the part to `s`. -/
def answerReset (old s : State) : Host.Outcome State Fault Refusal := .next (finishReset old s)

end Sys2Proof.Machine
end

