-- ==== Sys2Proof/Machine/Control.lean ====
section
/-! DEFINITION. Machine control: resets, the commands of CONTROL, manual control, DRAIN's end, the emergency line and the
boom word (chapter 9). -/

namespace Sys2Proof.Machine

/-! ### Shared conditions and moves -/

/-- Move to a machine state whose entry has no other effect of machine control's own (R168). -/
def State.enterState (s : State) (m : MachineState) : State := s.withControl { s.control with state := m }

/-- The four conditions of RUN (R171). -/
def State.runConditions (s : State) : Bool :=
  s.cal.valid && s.line.complete && !s.control.emergency && !s.cal.busy

/-- The two conditions that end DRAIN (R172). -/
def State.drained (s : State) : Bool :=
  s.issue.list.isEmpty && !s.head.bay.content.isVoid && !s.head.gripper.content.isVoid

/-- DRAIN ends in IDLE when both conditions hold (R172). -/
def State.endDrain (s : State) : State := if s.drained then s.enterState .idle else s

/-- The gripper holds the manual grant back (R178): RELEASING, PROBING, or TAKING with a TAKE that is no longer only
pending at the arbiter. -/
def State.gripperHoldsGrant (s : State) : Bool :=
  match s.head.gripper.state with
  | .releasing | .probing => true
  | .taking => !s.headPending .take
  | .empty | .holding | .ejecting => false

/-- The conditions of the manual grant (R178). -/
def State.mayGrant (s : State) : Bool :=
  s.control.manualRequest && !s.control.manualGrant && decide (s.control.state ≠ .init) && !s.gripperHoldsGrant

/-- The head sequencer withdraws a TAKE that is still only pending, and the gripper returns to EMPTY (R150, R178). -/
def State.withdrawTake (s : State) : State :=
  if s.head.gripper.state = .taking ∧ s.headPending .take = true then
    (s.putHead { s.head with gripper := .cleared }).withdrawHead .take
  else s

/-- Every part of INIT has completed (R175). -/
def State.initComplete (s : State) : Bool := s.control.sensed && s.control.latched && s.control.loaded

/-! ### Resets (R176, R177) -/

/-- POWER_ON (R177, R175). -/
def execPowerOn (inputs : InitInputs) (emergency : Bool) (written : StoreWrite) (s : State) :
    Host.Outcome State Fault Refusal :=
  answerReset s ((s.powerUp emergency written).controlReset inputs)

/-- HOST_PORT_RESET: a control reset in any machine state (R176). -/
def execHostPortReset (inputs : InitInputs) (s : State) : Host.Outcome State Fault Refusal :=
  answerReset s (s.controlReset inputs)

/-! ### Commands (R169 to R173) -/

/-- RUN (R170, R171). -/
def execRun (s : State) : Host.Outcome State Fault Refusal :=
  answer s (if s.control.state = .idle ∧ s.runConditions = true then s.enterState .run else s.refuseCommand)

/-- STOP (R170, R172, R174). -/
def execStop (s : State) : Host.Outcome State Fault Refusal :=
  answer s
    (match s.control.state with
      | .init => s.refuseCommand
      | .idle | .drain => s
      | .run => (s.enterState .drain).endDrain
      | .halt => if s.control.emergency then s.refuseCommand else s.enterState .idle)

/-- ABORT (R170, R173). -/
def execAbort (s : State) : Host.Outcome State Fault Refusal :=
  answer s
    (match s.control.state with
      | .init => s.refuseCommand
      | .halt => s
      | .idle | .run | .drain => s.enterHalt)

/-- RESET (R170, R176). -/
def execReset (inputs : InitInputs) (s : State) : Host.Outcome State Fault Refusal :=
  if s.control.state = .init then answer s s.refuseCommand else answerReset s (s.controlReset inputs)

/-- A command code that is not a command (R169, R185). -/
def execRefusedCommandCode (_code : BitVec 4) (s : State) : Host.Outcome State Fault Refusal := answer s s.refuseCommand

/-! ### Manual control (R178, R180) -/

/-- A CONTROL write sets the manual request (R178, R180). -/
def execManualRequestSet (s : State) : Host.Outcome State Fault Refusal :=
  answer s (s.withControl { s.control with manualRequest := true })

/-- A CONTROL write clears the manual request, and the grant with it (R180). -/
def execManualRequestClear (s : State) : Host.Outcome State Fault Refusal :=
  answer s (s.withControl { s.control with manualRequest := false, manualGrant := false })

/-- The manual grant (R178). -/
def execManualGrant (s : State) : Host.Outcome State Fault Refusal :=
  answer s
    (if s.mayGrant then
      ((s.withControl { s.control with manualGrant := true }).withdrawTake.zeroSettle).raise .manualGranted
    else s)

/-! ### DRAIN and INIT end (R172, R175) -/

/-- The end of DRAIN (R172). -/
def execDrainEnd (s : State) : Host.Outcome State Fault Refusal :=
  answer s (if s.control.state = .drain then s.endDrain else s)

/-- The end of INIT (R175). -/
def execInitEnd (s : State) : Host.Outcome State Fault Refusal :=
  answer s
    (if s.control.state = .init ∧ s.initComplete = true then
      (if s.control.haltHeld || s.control.emergency then s.enterHalt else s.enterState .idle)
    else s)

/-! ### The emergency line (R139, R174) -/

/-- S becomes 0 and the drive enable OFF, a frame carrying both is wanted, and the settle count becomes 0 (R139). -/
def Trim.stopDrive (t : Trim) : Trim :=
  { ({ t with setPoint := .zero, driveEnable := false } : Trim).wantFrame with settleCount := 0 }

/-- The emergency line is asserted; an assertion of a line that is asserted is no event (R139, R174). -/
def execEmergencyAssert (s : State) : Host.Outcome State Fault Refusal :=
  answer s
    (if s.control.emergency then s
    else
      ((s.withControl { s.control with emergency := true }).withTrim s.trim.stopDrive).requestHalt)

/-- The emergency line clears (R139, R174). -/
def execEmergencyClear (s : State) : Host.Outcome State Fault Refusal :=
  answer s
    (if s.control.emergency then
      (s.withControl { s.control with emergency := false }).withTrim
        ({ s.trim with driveEnable := true } : Trim).wantFrame
    else s)

/-! ### The boom word (R15, R181) -/

/-- Machine control takes the boom hold; a change to MOVING returns the settle count to 0 (R131, R181). -/
def State.holdBoom (s : State) (moving : Bool) : State :=
  if moving && !s.control.boomMoving then (s.withControl { s.control with boomMoving := true }).zeroSettle
  else s.withControl { s.control with boomMoving := moving }

/-- A host write to the boom word (R15, R181). -/
def execBoomWordWrite (value : Word) (s : State) : Host.Outcome State Fault Refusal :=
  answer s ((s.setWord boomWordAddr value).holdBoom (decide (value ≠ 0)))

end Sys2Proof.Machine
end

