-- ==== Sys2Proof/Machine/RegisterWindow.lean ====
section
/-! DEFINITION. Accesses to the register window other than CONTROL writes (chapter 10.1, R182, R187 to R190). -/

namespace Sys2Proof.Machine

/-- The cause bits that a CAUSE read of these bytes returns (R188). -/
def State.causesRead (s : State) (lanes : BitVec 4) : BitVec 17 := s.host.cause &&& (laneMask lanes).setWidth 17

/-- A read of CAUSE returns the set bits of the bytes read and clears exactly those it returned (R188). -/
def execCauseRead (lanes : BitVec 4) (s : State) : Host.Outcome State Fault Refusal :=
  answer s
    (s.withHost
      { s.host with
        readData := (s.causesRead lanes).zeroExtend 32
        cause := s.host.cause &&& ~~~(s.causesRead lanes) })

/-- A write to MASK_SET (R189). -/
def execMaskSet (value : Word) (s : State) : Host.Outcome State Fault Refusal :=
  answer s (s.withHost { s.host with mask := s.host.mask ||| value.setWidth 17 })

/-- A write to MASK_CLEAR (R189). -/
def execMaskClear (value : Word) (s : State) : Host.Outcome State Fault Refusal :=
  answer s (s.withHost { s.host with mask := s.host.mask &&& ~~~(value.setWidth 17) })

/-- A partial write to a register, or a write to a register that takes none, is ignored and sets no cause (R182). -/
def execIgnoredRegisterWrite (_reg : WindowRegister) (_lanes : BitVec 4) (_value : Word) (s : State) :
    Host.Outcome State Fault Refusal :=
  answer s s

end Sys2Proof.Machine
end

