-- ==== Sys2Proof/Machine/SampleEvents.lean ====
section
/-! DEFINITION. The events of the tracker link, of the trim drive link and of the timers of tracking, settling and the
head, and the requests of the head sequencer (chapters 6 to 8). -/

namespace Sys2Proof.Machine

/-! ### The tracker link (R105, R106, R118) -/

/-- TRACKER_FRAME: the bytes of a frame arrive (R105, R106). -/
def execTrackerFrame (bytes : List Byte) (s : State) : Host.Outcome State Fault Refusal := answer s (s.takeBytes bytes)

/-- TRACKER_BYTE_GAP: bytes arrive and a gap of more than 1 ms follows them (R105). -/
def execTrackerByteGap (bytes : List Byte) (s : State) : Host.Outcome State Fault Refusal :=
  answer s (s.takeBytes bytes).byteGap

/-- The loss delay has passed with no usable sample (R117, R118). -/
def State.lossDue (s : State) : Bool :=
  match s.tracker.lossTimer with
  | some t => decide (s.seq.profile.lossDelay ≤ t)
  | none => false

/-- LOSS_TIMER_EXPIRY (R118). -/
def execLossTimerExpiry (s : State) : Host.Outcome State Fault Refusal := answer s (if s.lossDue then s.enterLost else s)

/-! ### The trim drive link (R141) -/

/-- SETPOINT_FRAME_END: a pending mark starts a new frame with the values that now stand (R141). -/
def execSetpointFrameEnd (s : State) : Host.Outcome State Fault Refusal :=
  answer s
    (if s.trim.sending then
      s.withTrim
        (if s.trim.outputPending then s.trim.beginFrame else { s.trim with sending := false })
    else s)

/-! ### The timers of an attempt (R132, R159 to R161) -/

/-- The attempt whose settle timer, running and not paused, has reached the settle limit (R132). -/
def State.settleDue (s : State) : Option EntryIx :=
  match s.trim.attempt, s.trim.settleTimer with
  | some a, some t =>
    if !a.decided && !s.settlePaused && decide (s.seq.profile.settleLimit ≤ t) then some a.entry else none
  | _, _ => none

/-- SETTLE_LIMIT_EXPIRY: the timer stops and the attempt in HOLDING fails with SETTLE_TIMEOUT (R132, R160). -/
def execSettleLimitExpiry (s : State) : Host.Outcome State Fault Refusal :=
  answer s
    (match s.settleDue with
      | some i => (s.withTrim { s.trim with settleTimer := none }).failAttempt i .settleTimeout
      | none => s)

/-- The entry brick at a place whose open-time timer has reached the open time (R159). -/
def State.openTimeDue (s : State) (place : HeadPlace) : Option EntryIx :=
  match place with
  | .bay =>
    match s.head.bay.state, s.head.bay.content, s.head.bay.openTimer with
    | .spread, .entry i, some t => if s.seq.profile.openTime * 1000 ≤ t then some i else none
    | _, _, _ => none
  | .gripper =>
    match s.head.gripper.state, s.head.gripper.content, s.head.gripper.openTimer with
    | .holding, .entry i, some t => if s.seq.profile.openTime * 1000 ≤ t then some i else none
    | _, _, _ => none

/-- OPEN_TIME_EXPIRY (R159). -/
def execOpenTimeExpiry (place : HeadPlace) (s : State) : Host.Outcome State Fault Refusal :=
  answer s
    (match s.openTimeDue place with
      | some i => s.failAttempt i .openTime
      | none => s)

/-- The attempt held while the restart-delay timer has reached the restart delay (R161). -/
def State.restartDue (s : State) : Option EntryIx :=
  match s.head.restartTimer with
  | some t => if s.seq.profile.restartDelay ≤ t then s.head.heldEntry else none
  | none => none

/-- RESTART_DELAY_EXPIRY (R161). -/
def execRestartDelayExpiry (s : State) : Host.Outcome State Fault Refusal :=
  answer s
    (match s.restartDue with
      | some i => s.failAttempt i .trackLost
      | none => s)

/-! ### Requests of the head sequencer (R95, R146, R152) -/

/-- HEAD_REQUEST: a free side places what it wants; of two requests placed together the gripper's is served first (R95,
R146). -/
def execHeadRequest (sides : HeadSides) (s : State) : Host.Outcome State Fault Refusal :=
  answer s
    (match sides with
      | .spreaderSide => s.spreaderRequest
      | .gripperSide => s.gripperRequest
      | .both => s.gripperRequest.spreaderRequest)

/-- PROBE_TAKE_UP (R152). -/
def execProbeTakeUp (s : State) : Host.Outcome State Fault Refusal := answer s s.takeUpProbe

end Sys2Proof.Machine
end

