-- ==== Sys2Proof/Machine/StationEvents.lean ====
section
/-! DEFINITION. The events of the station line: replies, deadlines, gaps, polls, grants and the feeders' timers (chapter
5, R56). -/

namespace Sys2Proof.Machine

/-- COMMAND_REPLY: a reply to a command other than QUERY (R90). -/
def execCommandReply (bytes : List Byte) (s : State) : Host.Outcome State Fault Refusal := answer s (s.receiveReply bytes)

/-- QUERY_REPLY: a reply to QUERY (R91). -/
def execQueryReply (bytes : List Byte) (s : State) : Host.Outcome State Fault Refusal := answer s (s.receiveReply bytes)

/-- REPLY_NOT_GOOD: a reply that is not good fails the transaction at the byte that reveals it (R98). -/
def execReplyNotGood (bytes : List Byte) (s : State) : Host.Outcome State Fault Refusal := answer s (s.receiveReply bytes)

/-- REPLY_DEADLINE: no complete reply 10 ms after the command frame (R98). -/
def execReplyDeadline (s : State) : Host.Outcome State Fault Refusal :=
  answer s
    (match s.line.transaction with
      | some t => if replyDeadlineMs ≤ s.elapsed t then s.failTransaction t else s
      | none => s)

/-- STATION_BYTE_GAP: more than 1 ms between two bytes of a reply (R98). -/
def execStationByteGap (s : State) : Host.Outcome State Fault Refusal :=
  answer s
    (match s.line.transaction with
      | some t => s.failTransaction t
      | none => s)

/-- A poll falls due at a present station (R96). -/
def State.pollReached (s : State) (p : Position) : Bool :=
  match (s.line.at p).nextPoll with
  | some d =>
    dueReached s.time d && decide ((s.line.at p).state ≠ .absent) && !(s.line.at p).pollPending && s.control.sensed
  | none => false

/-- POLL_DUE (R96). -/
def execPollDue (p : Position) (s : State) : Host.Outcome State Fault Refusal :=
  answer s (if s.pollReached p then s.setStation p { s.line.at p with pollPending := true } else s)

/-- LINE_GRANT (R95, R97). -/
def execLineGrant (s : State) : Host.Outcome State Fault Refusal := answer s s.grantLine

/-- HOLD_TIMER_EXPIRY: a HELD feeder becomes READY without a transaction (R94). -/
def execHoldTimerExpiry (f : Feeder) (s : State) : Host.Outcome State Fault Refusal :=
  let x := s.line.at (feederPosition f)
  answer s
    (if x.state = .held ∧ x.hold = some 0 then
      s.changeStation (feederPosition f) { x with state := .ready, hold := none }
    else s)

/-- The feeder whose feed timer has run 8 s since the ACCEPTED reply (R56). -/
def State.feedTimerDue (s : State) : Option Feeder :=
  match s.issue.feed with
  | none => none
  | some f =>
    match f.phase with
    | .accepted t => if feedTimerMs ≤ (s.time - t).toNat then some f.feeder else none
    | .requested | .sent => none

/-- The feeder is made FAULTED with FEED_TIMEOUT, whatever its state (R102). -/
def timedOutFeeder (x : Station) : Station :=
  { x with state := .faulted, operation := .none, lastError := errorFeedTimeout, hold := none }

/-- FEED_TIMER_EXPIRY (R56, R63, R102). -/
def execFeedTimerExpiry (s : State) : Host.Outcome State Fault Refusal :=
  answer s
    (match s.feedTimerDue with
      | some f =>
        s.endFeed.setStation (feederPosition f) (timedOutFeeder (s.endFeed.line.at (feederPosition f)))
      | none => s)

end Sys2Proof.Machine
end

