-- ==== Sys2Proof/Machine/Supply.lean ====
section
/-! DEFINITION. Activation, takes and refeeds, and the events of the train: the two sensors and the jam (chapters 2 to
4). -/

namespace Sys2Proof.Machine

/-! ### Activation (R19, R27 to R32, R119) -/

/-- The conditions of activation (R27). -/
def State.mayActivate (s : State) : Bool :=
  decide (s.control.state = .run) && s.seq.active.isNone && decide (s.courseState s.seq.pointer = some .opened)

/-- COURSE_ACTIVATION: the profile is latched, a loss timer already beyond the new delay expires, and the record at the
pointer is activated (R19, R27, R119); the inputs are the host writes served meanwhile (R30, R200). -/
def execCourseActivation (inputs : ActivationInputs) (s : State) : Host.Outcome State Fault Refusal :=
  answer s
    (if s.mayActivate then (s.latchProfile inputs.during).expireLossIfDue.activate s.seq.pointer inputs.late else s)

/-! ### Takes (R48 to R54) -/

/-- The record that a take latches from an entry of the kind named (R46, R51). -/
def State.latchRecord (s : State) (i : EntryIx) (k : Kind) : IssueRecord where
  entry := i
  slot := s.entrySlot i
  kind := k
  single := s.entrySingle i
  cut := s.entryCut i
  hold := s.entryHold i
  apply := s.entryApply i
  target := s.entryTarget i
  cutLength := if s.entryCut i then s.entryCutLength i else 0
  maxAttempts := effectiveMax (s.entrySingle i) (s.entryMaxAttempts i)
  attemptsUsed := s.entryAttempts i
  voidMark := false
  location := .none

/-- The kind a kind code names (R4). -/
def kindOf (c : Nat) : Option Kind := if c = kindLay then some .lay else if c = kindProbe then some .probe else none

/-- The checks of R52 on the fields a take latches, in the active course of slot `k`. -/
def State.takeValid (s : State) (k : Slot) (i : EntryIx) : Bool :=
  (kindOf (s.entryKind i)).isSome && decide ((s.entryTarget i).yaw < 36000) &&
    (!s.entryCut i || decide (400 ≤ s.entryCutLength i ∧ s.entryCutLength i ≤ 2900)) &&
    decide (s.entrySlot i = k.val) &&
    decide (s.entryAttempts i < effectiveMax (s.entrySingle i) (s.entryMaxAttempts i))

/-- An invalid entry is failed at its take (R52). -/
def State.failAtTake (s : State) (i : EntryIx) : State :=
  ((s.finishEntry i .failed .invalid).countTerminal i .failed).raise .entryFailed

/-- Append a record to the tail of the issue list (R46). -/
def State.appendRecord (s : State) (r : IssueRecord) : State :=
  s.withIssue { s.issue with list := s.issue.list ++ [r] }

/-- Order a feed for an entry (R53, R54). -/
def State.orderFeed (s : State) (i : EntryIx) (cutLength : Nat) : State :=
  match s.chooseFeeder with
  | none => s
  | some f => (s.withIssue { s.issue with feed := some ⟨some i, none, f, cutLength, .requested⟩ }).setLocation i .feed

/-- What follows ISSUED: the checks of R52, and for a valid LAY entry its feed (R53). -/
def State.issueEntry (s : State) (k : Slot) (i : EntryIx) : State :=
  match s.takeValid k i, kindOf (s.entryKind i) with
  | true, some .lay => ((s.setEntryState i .issued).appendRecord (s.latchRecord i .lay)).orderFeed i
      (s.latchRecord i .lay).cutLength
  | true, some .probe => (s.setEntryState i .issued).appendRecord (s.latchRecord i .probe)
  | _, _ => s.failAtTake i

/-- What a LAY take needs (R50). -/
def State.layReady (s : State) : Bool := s.layRoom && s.feederAvailable

/-- A take of the candidate, whose kind was read as `kindSeen` (R50, R51): a LAY entry latched without its conditions,
after another kind was read, is withdrawn, which leaves it POSTED and out of the list. -/
def State.takeEntry (s : State) (k : Slot) (i : EntryIx) (kindSeen : Byte) : State :=
  if kindSeen.toNat = kindLay then (if s.layReady then s.issueEntry k i else s)
  else if s.entryKind i = kindLay ∧ s.layReady = false then s
  else s.issueEntry k i

/-- ENTRY_TAKE (R48 to R54). -/
def execEntryTake (kindSeen : Byte) (s : State) : Host.Outcome State Fault Refusal :=
  answer s
    (match s.seq.active with
      | none => s
      | some k =>
        match s.mayTake, s.candidate k with
        | true, some i => s.takeEntry k i kindSeen
        | _, _ => s)

/-- REFEED (R57). -/
def execRefeed (s : State) : Host.Outcome State Fault Refusal :=
  answer s
    (match s.issue.feed, s.issue.list.find? IssueRecord.needsFeed with
      | none, some r => s.orderFeed r.entry r.cutLength
      | _, _ => s)

/-! ### The root sensor (R69 to R71) -/

/-- Append a carrier at the tail (R69), in one update of the two figures (R68). -/
def State.appendCarrier (s : State) (content former : Option EntryIx) : State :=
  (s.withTrain { s.train with queue := s.train.queue ++ [⟨content, former, s.time, 0⟩] }).showTrain

/-- The brick belongs to the pending feed (R69). -/
def State.matchBrick (s : State) (f : FeedPending) : State :=
  match f.entry with
  | some i => (((s.appendCarrier (some i) none).moveEntry i .issued .transit).setLocation i .train).clearFeed
  | none => (s.appendCarrier none f.former).clearFeed

/-- ROOT_SENSOR (R69 to R71). -/
def execRootSensor (s : State) : Host.Outcome State Fault Refusal :=
  answer s
    (match s.issue.feed with
      | some f => if s.train.queue.length < trainMax then s.matchBrick f else s.trainFault
      | none => (if s.train.queue.length < trainMax then s.appendCarrier none none else s).trainFault)

/-! ### The bay sensor (R76 to R78, R147) -/

/-- A brick has arrived in the EMPTY bay (R143, R147). -/
def State.arriveBay (s : State) (c : Content) (root : Option Word) : State :=
  s.putHead { s.head with bay := { Bay.cleared with state := .arrived, content := c, rootTime := root } }

/-- The front carrier is popped into the bay (R76), in one update of the two figures (R68); the comparison of its running
time with the transit limit leaves with it (R74, R75). -/
def State.popFront (s : State) (c : Carrier) (rest : List Carrier) : State :=
  let s1 := (s.withTrain { s.train with queue := rest, limitReached := false }).showTrain
  match c.content with
  | some i => ((s1.arriveBay (.entry i) (some c.rootTime)).moveEntry i .transit .head).setLocation i .bay
  | none => s1.arriveBay (.void c.former) (some c.rootTime)

/-- BAY_SENSOR (R76 to R78). -/
def execBaySensor (s : State) : Host.Outcome State Fault Refusal :=
  answer s
    (if s.head.bay.state = .empty then
      (match s.train.queue with
        | c :: rest => s.popFront c rest
        | [] => (s.arriveBay (.void none) none).trainFault)
    else s.trainFault)

/-! ### The jam (R75) -/

/-- A jam is due: at the latest increase of the front carrier's running time, while the drive runs, it had reached the
transit limit latched then (R74, R75). -/
def State.jammed (s : State) : Bool := !s.train.queue.isEmpty && s.train.drive && s.train.limitReached

/-- JAM (R75). -/
def execJam (s : State) : Host.Outcome State Fault Refusal := answer s (if s.jammed then s.trainFault else s)

end Sys2Proof.Machine
end

