-- ==== Sys2Proof/Machine/Dispatch.lean ====
section
/-! DEFINITION. One arm per command of spec/opcode_table.json, in the table's order: a direct call of its meaning. -/

namespace Sys2Proof.Machine

def exec (i : Instr) (s : State) : Host.Outcome State Fault Refusal :=
  match i with
  | .powerOn p q r => Sys2Proof.Machine.execPowerOn p q r s
  | .hostPortReset p => Sys2Proof.Machine.execHostPortReset p s
  | .run => Sys2Proof.Machine.execRun s
  | .stop => Sys2Proof.Machine.execStop s
  | .abort => Sys2Proof.Machine.execAbort s
  | .reset p => Sys2Proof.Machine.execReset p s
  | .commitCal => Sys2Proof.Machine.execCommitCal s
  | .refusedCommandCode p => Sys2Proof.Machine.execRefusedCommandCode p s
  | .manualRequestSet => Sys2Proof.Machine.execManualRequestSet s
  | .manualRequestClear => Sys2Proof.Machine.execManualRequestClear s
  | .causeRead p => Sys2Proof.Machine.execCauseRead p s
  | .maskSet p => Sys2Proof.Machine.execMaskSet p s
  | .maskClear p => Sys2Proof.Machine.execMaskClear p s
  | .ignoredRegisterWrite p q r => Sys2Proof.Machine.execIgnoredRegisterWrite p q r s
  | .partialBookWrite p q r => Sys2Proof.Machine.execPartialBookWrite p q r s
  | .spareWordWrite p q => Sys2Proof.Machine.execSpareWordWrite p q s
  | .statusBlockWrite p q => Sys2Proof.Machine.execStatusBlockWrite p q s
  | .layoutVersionWrite p => Sys2Proof.Machine.execLayoutVersionWrite p s
  | .entryPostWrite p => Sys2Proof.Machine.execEntryPostWrite p s
  | .entryFreeWrite p => Sys2Proof.Machine.execEntryFreeWrite p s
  | .entryCancelWrite p => Sys2Proof.Machine.execEntryCancelWrite p s
  | .confirm p => Sys2Proof.Machine.execConfirm p s
  | .entryFieldWrite p q r => Sys2Proof.Machine.execEntryFieldWrite p q r s
  | .courseOpenWrite p => Sys2Proof.Machine.execCourseOpenWrite p s
  | .courseEmptyWrite p => Sys2Proof.Machine.execCourseEmptyWrite p s
  | .closeRequest p => Sys2Proof.Machine.execCloseRequest p s
  | .courseFieldWrite p q r => Sys2Proof.Machine.execCourseFieldWrite p q r s
  | .boomWordWrite p => Sys2Proof.Machine.execBoomWordWrite p s
  | .binEmptiedWrite p => Sys2Proof.Machine.execBinEmptiedWrite p s
  | .jogWordWrite p q => Sys2Proof.Machine.execJogWordWrite p q s
  | .profileWordWrite p q => Sys2Proof.Machine.execProfileWordWrite p q s
  | .calImageWrite p q => Sys2Proof.Machine.execCalImageWrite p q s
  | .emergencyAssert => Sys2Proof.Machine.execEmergencyAssert s
  | .emergencyClear => Sys2Proof.Machine.execEmergencyClear s
  | .rootSensor => Sys2Proof.Machine.execRootSensor s
  | .baySensor => Sys2Proof.Machine.execBaySensor s
  | .trackerFrame p => Sys2Proof.Machine.execTrackerFrame p s
  | .trackerByteGap p => Sys2Proof.Machine.execTrackerByteGap p s
  | .commandReply p => Sys2Proof.Machine.execCommandReply p s
  | .queryReply p => Sys2Proof.Machine.execQueryReply p s
  | .replyDeadline => Sys2Proof.Machine.execReplyDeadline s
  | .stationByteGap => Sys2Proof.Machine.execStationByteGap s
  | .pollDue p => Sys2Proof.Machine.execPollDue p s
  | .lineGrant => Sys2Proof.Machine.execLineGrant s
  | .holdTimerExpiry p => Sys2Proof.Machine.execHoldTimerExpiry p s
  | .feedTimerExpiry => Sys2Proof.Machine.execFeedTimerExpiry s
  | .jam => Sys2Proof.Machine.execJam s
  | .lossTimerExpiry => Sys2Proof.Machine.execLossTimerExpiry s
  | .settleLimitExpiry => Sys2Proof.Machine.execSettleLimitExpiry s
  | .openTimeExpiry p => Sys2Proof.Machine.execOpenTimeExpiry p s
  | .restartDelayExpiry => Sys2Proof.Machine.execRestartDelayExpiry s
  | .setpointFrameEnd => Sys2Proof.Machine.execSetpointFrameEnd s
  | .commitEnd => Sys2Proof.Machine.execCommitEnd s
  | .calLoad => Sys2Proof.Machine.execCalLoad s
  | .initEnd => Sys2Proof.Machine.execInitEnd s
  | .courseActivation p => Sys2Proof.Machine.execCourseActivation p s
  | .entryTake p => Sys2Proof.Machine.execEntryTake p s
  | .refeed => Sys2Proof.Machine.execRefeed s
  | .headRequest p => Sys2Proof.Machine.execHeadRequest p s
  | .probeTakeUp => Sys2Proof.Machine.execProbeTakeUp s
  | .manualGrant => Sys2Proof.Machine.execManualGrant s
  | .drainEnd => Sys2Proof.Machine.execDrainEnd s
  | .replyNotGood p => Sys2Proof.Machine.execReplyNotGood p s
  | .stateWriteDiscarded p q => Sys2Proof.Machine.execStateWriteDiscarded p q s

end Sys2Proof.Machine
end

