-- ==== Sys2Proof/Machine/Time.lean ====
section
/-! DEFINITION. One millisecond: the time base and every timer that runs (R74, R94, R117, R132, R149, R161, R184). A timer
that has reached its limit acts at its own event, not here (log entry 1). -/

namespace Sys2Proof.Machine

/-- A timer that runs counts one millisecond more; `none` is stopped. -/
def tickUp (t : Option Nat) : Option Nat := t.map (· + 1)

/-- The settle timer does not count while it is paused (R132). -/
def State.tickSettle (s : State) : Option Nat := if s.settlePaused then s.trim.settleTimer else tickUp s.trim.settleTimer

/-- A hold timer counts down to 0 (R94). -/
def Station.tick (x : Station) : Station := { x with hold := x.hold.map (· - 1) }

/-- The largest front running time (R67). -/
def runningMax : Nat := 60000

/-- Only the front carrier is timed, and only while the drive runs (R74); at each increase its running time is compared
with the latched transit limit, in seconds (R75). -/
def Train.tick (t : Train) (limit : Nat) : Train :=
  match t.queue, t.drive with
  | c :: rest, true =>
    let n := min runningMax (c.running + 1)
    { t with queue := { c with running := n } :: rest, limitReached := decide (limit * 1000 ≤ n) }
  | _, _ => { t with limitReached := false }

/-- The head's timers count (R149, R159, R161). -/
def Head.tick (h : Head) : Head :=
  { h with
    bay := { h.bay with openTimer := tickUp h.bay.openTimer }
    gripper := { h.gripper with openTimer := tickUp h.gripper.openTimer }
    restartTimer := tickUp h.restartTimer }

/-- One millisecond passes (R184). -/
def State.tick (s : State) : State :=
  { s with
    time := s.time + 1
    train := s.train.tick s.seq.profile.transitLimit
    line :=
      { s.line with
        feederA := s.line.feederA.tick
        feederB := s.line.feederB.tick
        spreader := s.line.spreader.tick
        gripper := s.line.gripper.tick }
    tracker := { s.tracker with lossTimer := tickUp s.tracker.lossTimer }
    trim := { s.trim with settleTimer := s.tickSettle }
    head := s.head.tick }

end Sys2Proof.Machine
end

