-- ==== Sys2Proof/Safety.lean ====
section
/-! DEFINITION. What claims about a run of the part are stated in: its causes, what a command leaves unchanged, the table
of refused commands, what an entry into HALT leaves, and the invariants. -/

namespace Sys2Proof

open Sys2Proof.Machine

/-! ### Causes (R187) -/

/-- The bit of a cause is set. -/
def hasCause (s : State) (c : Cause) : Bool := s.host.cause.getLsbD (causeBit c)

/-- The issue unit has entered its starved condition between two states (R58). -/
def starvedAnew (s t : State) : Bool := t.issue.starved && !s.issue.starved

/-- No cause bit differs but those named; SUPPLY_STARVED is set besides exactly when the issue unit has entered its starved
condition, which every event re-evaluates (R58). That a LAY feed to order which goes away as another stands at once is no new
entry into it is the model's reading (log entry 41). -/
def CausesKeptBut (cs : List Cause) (s t : State) : Prop :=
  (∀ c, c ∉ cs → c ≠ .supplyStarved → hasCause t c = hasCause s c) ∧
    (.supplyStarved ∉ cs → hasCause t .supplyStarved = (hasCause s .supplyStarved || starvedAnew s t))

/-! ### What a command leaves unchanged -/

/-- The pieces of the state of which a frame speaks. Left out are the outputs that every event re-evaluates (the interrupt,
the train drive, the starved condition and the status block: `Derived` says what they are) and the counter of free
values. -/
inductive Block where
  | bytes | seq | list | feed | queue | limit | line | tracker | trim | head | control | cal | time | mask | readData | waiting
  deriving DecidableEq, Repr

/-- A piece of the state is the same in two states; of the book, every byte reads the same. -/
def Block.kept (s t : State) : Block → Prop
  | .bytes => ∀ a, t.book.cells.read a = s.book.cells.read a
  | .seq => t.seq = s.seq
  | .list => t.issue.list = s.issue.list
  | .feed => t.issue.feed = s.issue.feed
  | .queue => t.train.queue = s.train.queue
  | .limit => t.train.limitReached = s.train.limitReached
  | .line => t.line = s.line
  | .tracker => t.tracker = s.tracker
  | .trim => t.trim = s.trim
  | .head => t.head = s.head
  | .control => t.control = s.control
  | .cal => t.cal = s.cal
  | .time => t.time = s.time
  | .mask => t.host.mask = s.host.mask
  | .readData => t.host.readData = s.host.readData
  | .waiting => t.pending = s.pending

/-- Every piece of the state but those named is the same. -/
def KeptBut (bs : List Block) (s t : State) : Prop := ∀ b, b ∉ bs → b.kept s t

/-- Every byte of the book but the `n` bytes from address `a` on reads the same. -/
def BytesKeptBut (a n : Nat) (s t : State) : Prop :=
  ∀ x, x < a ∨ a + n ≤ x → t.book.cells.read x = s.book.cells.read x

/-- The word at address `a` has been stored and no other byte has changed. -/
def StoresWord (a : Nat) (v : Word) (s t : State) : Prop := t.word a = v ∧ BytesKeptBut a 4 s t

/-- Every byte of the book outside the areas named (address, length) reads the same. -/
def BytesKeptOutside (areas : List (Nat × Nat)) (s t : State) : Prop :=
  ∀ x, (∀ r ∈ areas, x < r.1 ∨ r.1 + r.2 ≤ x) → t.book.cells.read x = s.book.cells.read x

/-- The command completes and changes nothing. -/
def NoEffect (c : Instr) (s : State) : Prop :=
  ∃ t, exec c s = .next t ∧ KeptBut [] s t ∧ CausesKeptBut [] s t

/-- The host write is discarded: it changes nothing but that BOOK_WRITE_REFUSED is set (Conventions). -/
def Discarded (c : Instr) (s : State) : Prop :=
  ∃ t, exec c s = .next t ∧ hasCause t .bookWriteRefused = true ∧ KeptBut [] s t ∧ CausesKeptBut [.bookWriteRefused] s t

/-- The book's memory is in its canonical form. -/
def BookWf (s : State) : Prop := s.book.cells.wf = true

/-! ### Refused commands (R170) -/

/-- The conditions of RUN (R171). -/
def RunAllowed (s : State) : Prop :=
  s.control.state = .idle ∧ s.cal.valid = true ∧ s.line.complete = true ∧ s.control.emergency = false ∧ s.cal.busy = false

/-- A COMMIT_CAL is accepted (R170, R194). -/
def CommitAllowed (s : State) : Prop := (s.control.state = .idle ∨ s.control.state = .halt) ∧ s.cal.busy = false

/-- The table of R170: the commands refused in a state. -/
def Refused (s : State) : Instr → Prop
  | .run => ¬RunAllowed s
  | .stop => s.control.state = .init ∨ (s.control.state = .halt ∧ s.control.emergency = true)
  | .abort => s.control.state = .init
  | .reset _ => s.control.state = .init
  | .commitCal => ¬CommitAllowed s
  | .refusedCommandCode _ => True
  | _ => False

/-- Neither place at the head holds VOID content and the issue list is empty (R172). -/
def Drained (s : State) : Prop :=
  s.issue.list = [] ∧ s.head.bay.content.isVoid = false ∧ s.head.gripper.content.isVoid = false

/-! ### Working states and HALT (R64, R65, R72, R173) -/

/-- RUN, DRAIN and IDLE: the states from which a HALT request takes the machine to HALT (R79, R173). -/
def MayHalt (s : State) : Prop :=
  s.control.state = .run ∨ s.control.state = .drain ∨ s.control.state = .idle

/-- Every carrier on the train is void (R72). -/
def CarriersVoid (s : State) : Prop := ∀ c ∈ s.train.queue, c.content = none

/-- A pending feed belongs to no entry and has been sent (R65). -/
def FeedVoid (s : State) : Prop := ∀ f, s.issue.feed = some f → f.entry = none ∧ f.phase ≠ .requested

/-- No place at the head holds an entry: what is there is void (R65, R163). -/
def PlacesVoid (s : State) : Prop := ∀ i, s.head.bay.content ≠ .entry i ∧ s.head.gripper.content ≠ .entry i

/-- What an entry into HALT leaves of the work in flight (R65, R72, R74, R163, R173). -/
def Halted (t : State) : Prop :=
  t.control.state = .halt ∧ hasCause t .halted = true ∧ t.issue.list = [] ∧ FeedVoid t ∧ CarriersVoid t ∧ PlacesVoid t ∧
    (∀ c ∈ t.train.queue, c.running = 0) ∧ t.train.drive = false

/-- The pieces of the state that an entry into HALT may change, besides the causes. -/
def haltBlocks : List Block := [.bytes, .seq, .list, .feed, .queue, .limit, .line, .trim, .head, .control]

/-- A head command has been granted: it is on the line, outstanding at a head station, or deferred there after a BUSY reply
(R146). -/
def Granted (s : State) (c : StationCommand) : Prop :=
  (∃ x, s.line.transaction = some x ∧ x.command = c) ∨ s.line.spreader.operation = .command c ∨
    s.line.gripper.operation = .command c ∨ s.line.spreader.deferred = some c ∨ s.line.gripper.deferred = some c

/-- The bay's entry brick has been voided, by the table of R163: the content keeps the index and the open time stops; a
SPREAD that has not been granted is withdrawn, and so is a TAKE, which leaves the gripper EMPTY. -/
def BayVoided (s t : State) : Prop :=
  t.head.bay.content = voided s.head.bay.content ∧ t.head.bay.openTimer = none ∧
    (s.head.bay.state ≠ .spreading → t.head.bay.state = s.head.bay.state) ∧
    (s.head.bay.state = .spreading → Granted s .spread → t.head.bay.state = .spreading) ∧
    (s.head.bay.state = .spreading → ¬Granted s .spread →
      t.head.bay.state = .arrived ∧ .spread ∉ t.line.headRequests) ∧
    (s.head.gripper.state = .taking → Granted s .take →
      t.head.gripper.state = .taking ∧ t.head.gripper.content = voided s.head.gripper.content) ∧
    (s.head.gripper.state = .taking → ¬Granted s .take →
      t.head.gripper = .cleared ∧ .take ∉ t.line.headRequests)

/-- The gripper's entry has been voided, by the table of R163: the attempt record ends and the confirm mark is cleared; a
RELEASE that has not been granted is withdrawn and leaves the brick HOLDING, a PROBE so withdrawn leaves the gripper EMPTY,
and so does a place without a brick. -/
def GripperVoided (s t : State) : Prop :=
  t.trim.attempt = none ∧ t.head.gripper.confirm = false ∧ t.head.gripper.openTimer = none ∧
    (s.head.gripper.state = .holding → s.head.gripper.brick = true →
      t.head.gripper.state = .holding ∧ t.head.gripper.content = voided s.head.gripper.content) ∧
    (s.head.gripper.state = .holding → s.head.gripper.brick = false → t.head.gripper = .cleared) ∧
    (s.head.gripper.state = .releasing → Granted s .release →
      t.head.gripper.state = .releasing ∧ t.head.gripper.content = voided s.head.gripper.content) ∧
    (s.head.gripper.state = .releasing → ¬Granted s .release →
      t.head.gripper.state = .holding ∧ t.head.gripper.content = voided s.head.gripper.content ∧
        .release ∉ t.line.headRequests) ∧
    (s.head.gripper.state = .probing → Granted s .probe →
      t.head.gripper.state = .probing ∧ t.head.gripper.content = voided s.head.gripper.content) ∧
    (s.head.gripper.state = .probing → ¬Granted s .probe →
      t.head.gripper = .cleared ∧ .probe ∉ t.line.headRequests)

/-- Every place at the head that held an entry has been voided (R65, R163). -/
def HeadVoided (s t : State) : Prop :=
  (∀ i, s.head.bay.content = .entry i → BayVoided s t) ∧
    (∀ i, s.head.gripper.content = .entry i → s.head.gripper.state ≠ .taking → GripperVoided s t)

/-- Every entry of the issue list has been returned to POSTED with its attempts, and no other byte of the book has changed
(R6, R65). -/
def ReturnsList (s t : State) : Prop :=
  (∀ r ∈ s.issue.list, t.entryState r.entry = some .posted ∧ t.entryAttempts r.entry = s.entryAttempts r.entry) ∧
    ∀ x, (∀ r ∈ s.issue.list, x < entryAddr r.entry 0 ∨ entryAddr r.entry 0 + 4 ≤ x) →
      t.book.cells.read x = s.book.cells.read x

/-! ### Entries and the active course (R33 to R38) -/

/-- The entry lies in the range of the active course, which is that of slot `k`. -/
def InActive (s : State) (k : Slot) (i : EntryIx) : Prop := s.seq.active = some k ∧ s.inCourse k i = true

/-- The entry lies in no active course's range. -/
def Uncounted (s : State) (i : EntryIx) : Prop := ∀ k, ¬InActive s k i

/-- The entry is one that a standing close request cancels when it becomes FREE or POSTED (R36). -/
def UnderCloseRequest (s : State) (i : EntryIx) : Prop := s.seq.closeMark = true ∧ ∃ k, InActive s k i

/-- The figures lie within the fields of a course record (R197, 11.3). -/
def FiguresFit (f : CourseFigures) : Prop :=
  (f.remaining < 65536 ∧ f.laid < 65536 ∧ f.probed < 65536 ∧ f.failed < 65536 ∧ f.cancelled < 65536 ∧ f.applied < 65536 ∧
    f.maxX < 65536 ∧ f.maxY < 65536 ∧ f.maxZ < 65536 ∧ f.maxYaw < 65536) ∧
  (-2147483648 ≤ f.devSum ∧ f.devSum < 2147483648) ∧ (-2147483648 ≤ f.appliedSum ∧ f.appliedSum < 2147483648) ∧
    (-2147483648 ≤ f.zc ∧ f.zc < 2147483648)

/-- The record of slot `k` takes the figures `f` in one update, and the course closes exactly when they leave nothing
remaining (R33, R38). -/
def TakesFigures (k : Slot) (f : CourseFigures) (s t : State) : Prop :=
  t.courseFigures k = f ∧
  (f.remaining ≠ 0 →
    t.seq = s.seq ∧ t.courseState k = s.courseState k ∧ t.word (courseAddr k 0) = s.word (courseAddr k 0) + 2 ∧
      hasCause t .courseClosed = hasCause s .courseClosed) ∧
  (f.remaining = 0 →
    t.seq = { s.seq with
      active := none, closeMark := false, lastLaid := BitVec.ofNat 16 f.laid, lastSum := BitVec.ofInt 32 f.devSum
      pointer := s.seq.pointer + 1 } ∧
    t.courseState k = some .closed ∧ t.word (courseAddr k 15) = s.time ∧
    t.word (courseAddr k 0) = s.word (courseAddr k 0) + 4 ∧ hasCause t .courseClosed = true)

/-- Figures with a terminal entry `i` in state `e` taken out of them, and the entry back in remaining (R34); the maxima
stand, and so does Zc. -/
def takenOut (s : State) (i : EntryIx) (e : EntryState) (f : CourseFigures) : CourseFigures :=
  { f with
    remaining := f.remaining + 1
    laid := f.laid - (if e = .laid then 1 else 0)
    probed := f.probed - (if e = .probed then 1 else 0)
    failed := f.failed - (if e = .failed then 1 else 0)
    cancelled := f.cancelled - (if e = .cancelled then 1 else 0)
    devSum := f.devSum - (if e = .laid then fieldSigned (s.word (entryAddr i 9)) 0 else 0)
    applied := f.applied - (if e = .probed ∧ s.entryApply i = true then 1 else 0)
    appliedSum := f.appliedSum -
      (if e = .probed ∧ s.entryApply i = true then fieldSigned (s.word (entryAddr i 12)) 0 else 0) }

/-- The figures of a terminal entry `i` in state `e` taken out of the record of slot `k`, and the entry back in remaining (R34);
in mode PROBE an applied probe taken out computes Zc again (R42). -/
def TakesOut (s : State) (k : Slot) (i : EntryIx) (e : EntryState) (f : CourseFigures) : Prop :=
  let g := takenOut s i e (s.courseFigures k)
  f = { g with
    zc := if e = .probed ∧ s.entryApply i = true ∧ s.courseMode k = .probe then
        computeZc g.appliedSum g.applied s.seq.profile.zmax
      else g.zc }

/-- Two sets of figures agree in the five counts of entries. -/
def SameCounts (f g : CourseFigures) : Prop :=
  g.remaining = f.remaining ∧ g.laid = f.laid ∧ g.probed = f.probed ∧ g.failed = f.failed ∧ g.cancelled = f.cancelled

/-- The cancelled entry has been counted by the course whose active range it lies in (R33, R36). -/
def CancelCounted (i : EntryIx) (s t : State) : Prop :=
  ∀ k f, InActive s k i →
    f = { s.courseFigures k with
      remaining := (s.courseFigures k).remaining - 1, cancelled := (s.courseFigures k).cancelled + 1 } →
    FiguresFit f → TakesFigures k f s t

/-- The result code of an entry reads as written, and its attempts used and last reason as before (R5). -/
def ResultOf (i : EntryIx) (r : ResultCode) (s t : State) : Prop :=
  field (t.word (entryAddr i 7)) 16 4 = resultCodeOf r ∧
    field (t.word (entryAddr i 7)) 0 16 = field (s.word (entryAddr i 7)) 0 16

/-- The three words of an entry that its becoming terminal writes: state, result and completion time stamp (R6). -/
def terminalWords (i : EntryIx) : List (Nat × Nat) := [(entryAddr i 0, 4), (entryAddr i 7, 4), (entryAddr i 13, 4)]

/-- The entries of a course's range that read one state. -/
def entriesIn (s : State) (k : Slot) (e : EntryState) : List EntryIx :=
  (s.courseEntries k).filter fun i => s.entryState i = some e

/-- The applied probes of a course's range: its PROBED entries with APPLY (R30). -/
def appliedProbes (s : State) (k : Slot) : List EntryIx := (entriesIn s k .probed).filter fun i => s.entryApply i

/-- `m` is the largest magnitude of one deviation over the LAID entries `l`, 0 when there are none; 32768 counts as 32767
(R30). -/
def LargestOf (l : List EntryIx) (dev : EntryIx → Int) (m : Nat) : Prop :=
  (∀ i ∈ l, min 32767 (dev i).natAbs ≤ m) ∧ (m = 0 ∨ ∃ i ∈ l, m = min 32767 (dev i).natAbs)

/-- The figures of a course but Zc are those that activation rebuilds from the entries of the range (R30): remaining, one
count for each state a terminal entry can have, the deviation Z sum and the maxima of the LAID entries, and the count and
the sum of the applied probes. -/
def CountsRange (s : State) (k : Slot) (f : CourseFigures) : Prop :=
  f.remaining = ((s.courseEntries k).filter fun i => s.entryState i = some .free ∨ s.entryState i = some .posted).length ∧
    f.laid = (entriesIn s k .laid).length ∧ f.probed = (entriesIn s k .probed).length ∧
    f.failed = (entriesIn s k .failed).length ∧ f.cancelled = (entriesIn s k .cancelled).length ∧
    f.devSum = ((entriesIn s k .laid).map fun i => fieldSigned (s.word (entryAddr i 9)) 0).sum ∧
    LargestOf (entriesIn s k .laid) (fun i => fieldSigned (s.word (entryAddr i 8)) 0) f.maxX ∧
    LargestOf (entriesIn s k .laid) (fun i => fieldSigned (s.word (entryAddr i 8)) 16) f.maxY ∧
    LargestOf (entriesIn s k .laid) (fun i => fieldSigned (s.word (entryAddr i 9)) 0) f.maxZ ∧
    LargestOf (entriesIn s k .laid) (fun i => fieldSigned (s.word (entryAddr i 9)) 16) f.maxYaw ∧
    f.applied = (appliedProbes s k).length ∧
    f.appliedSum = ((appliedProbes s k).map fun i => fieldSigned (s.word (entryAddr i 12)) 0).sum

/-- The record of slot `k` holds the figures `f` with the Zc that activation fixes by the correction mode: 0, from the
last-closed summary, or from the applied probes of `f` (R31, R41, R42). -/
def ActivatedWith (k : Slot) (f : CourseFigures) (zmax : Int) (s t : State) : Prop :=
  t.courseFigures k = { f with
    zc := match s.courseMode k with
      | .none => 0
      | .laid => computeZc s.seq.lastSum.toInt s.seq.lastLaid.toNat zmax
      | .probe => computeZc f.appliedSum f.applied zmax }

/-- The course of slot `k` stands ACTIVE with the profile `p` latched, or has closed at once with the figures `f` as the
last-closed summary when they leave nothing remaining (R31, R32, R38). -/
def StandsActivated (k : Slot) (p : Profile) (f : CourseFigures) (s t : State) : Prop :=
  t.word (courseAddr k 5) = courseValid ∧ t.word (courseAddr k 14) = s.time ∧
  (f.remaining ≠ 0 →
    t.courseState k = some .active ∧ t.word (courseAddr k 15) = 0 ∧
      t.seq = { s.seq with profile := p, active := some k, closeMark := false } ∧ CausesKeptBut [] s t) ∧
  (f.remaining = 0 →
    t.courseState k = some .closed ∧ t.word (courseAddr k 15) = s.time ∧
      t.seq = { s.seq with
        profile := p, active := none, closeMark := false, pointer := k + 1
        lastLaid := BitVec.ofNat 16 f.laid, lastSum := BitVec.ofInt 32 f.devSum } ∧
      hasCause t .courseClosed = true ∧ CausesKeptBut [.courseClosed] s t)

/-- The entry is in one of the terminal states (R3). -/
def Terminal (s : State) (i : EntryIx) : Prop :=
  s.entryState i = some .laid ∨ s.entryState i = some .probed ∨ s.entryState i = some .failed ∨
    s.entryState i = some .cancelled

/-- The entry is in flight: ISSUED, TRANSIT, HEAD or PLACING (R3). -/
def InFlight (s : State) (i : EntryIx) : Prop :=
  s.entryState i = some .issued ∨ s.entryState i = some .transit ∨ s.entryState i = some .head ∨
    s.entryState i = some .placing

/-- The range of a course is valid (R28). -/
def RangeValid (s : State) (k : Slot) : Prop :=
  0 < s.courseCount k ∧ s.courseFirst k + s.courseCount k ≤ 992 ∧
    ∀ i, s.inCourse k i = true → ¬InFlight s i ∧ (Terminal s i → s.entrySlot i = k.val)

/-- The word that a profile field holds once host writes to profile words have been served: the latest one to it, or what
it held (R18). -/
def writtenWord (ws : List LatchWrite) (f : ProfileField) (old : Word) : Word :=
  (((ws.filter fun w => w.field = f).getLast?).map fun w => w.value).getD old

/-- The profile word as a latch reads it (R18, R200): the latest host write that is served before the latch reads the word,
or what the word held. -/
def latchedWord (s : State) (during : List LatchWrite) (f : ProfileField) : Word :=
  writtenWord (during.filter fun w => w.seen) f (s.word (profileAddr f))

/-- `y` is `x` clamped to a range (Conventions). -/
def Clamped (lo hi x y : Int) : Prop := (lo ≤ x → x ≤ hi → y = x) ∧ (x < lo → y = lo) ∧ (hi < x → y = hi)

/-- The book keeps every host write to a profile word that was served during a latch (R18, R200). -/
def KeepsWrites (during : List LatchWrite) (s t : State) : Prop :=
  ∀ f, t.word (profileAddr f) = writtenWord during f (s.word (profileAddr f))

/-- The bytes of the profile words that the host writes during a latch. -/
def latchAreas (during : List LatchWrite) : List (Nat × Nat) := during.map fun w => (profileAddr w.field, 4)

/-- A course may be activated: RUN, no active course, and the record at the pointer OPEN (R27); and no loss timer is due
under the loss delay that the activation latches (R119). -/
def ActivationDue (s : State) (during : List LatchWrite) : Prop :=
  s.control.state = .run ∧ s.seq.active = none ∧ s.courseState s.seq.pointer = some .opened ∧
    ∀ n, s.tracker.lossTimer = some n → n < 2 ^ (s.latchedProfile during).lossExponent

/-! ### Taking entries and ordering feeds (R48 to R54, R57) -/

/-- The feeder's position is READY in the station table. -/
def FeederReady (s : State) (f : Feeder) : Prop := (s.line.at (feederPosition f)).state = .ready

/-- The feeder a feed is addressed to: the preferred one when it is READY, else the other when that is (R54). -/
def ChosenFeeder (s : State) (f : Feeder) : Prop :=
  FeederReady s f ∧ (FeederReady s s.seq.profile.preferredFeeder → f = s.seq.profile.preferredFeeder)

/-- A LAY record with brick location NONE (R50, R57). -/
def NeedsFeed (r : IssueRecord) : Prop := r.kind = .lay ∧ r.location = .none

/-- A take is considered in the active course of slot `k` (R48). -/
def MayTake (s : State) (k : Slot) : Prop :=
  s.control.state = .run ∧ s.seq.active = some k ∧ s.seq.closeMark = false ∧ s.issue.list.length < 12

/-- The candidate for the next take: the lowest-index POSTED entry of the range, and in a strict-order course the lowest of
those neither terminal nor in the list (R49). -/
def Chosen (s : State) (k : Slot) (i : EntryIx) : Prop :=
  s.inCourse k i = true ∧ s.entryState i = some .posted ∧
    (∀ j, s.inCourse k j = true → j < i → s.entryState j ≠ some .posted) ∧
    (s.courseStrict k = true →
      (∀ r ∈ s.issue.list, r.entry ≠ i) ∧
        ∀ j, s.inCourse k j = true → j < i → Terminal s j ∨ ∃ r ∈ s.issue.list, r.entry = j)

/-- The candidate for the next take, which like every POSTED entry has no record in the list (R46, R49). -/
def Candidate (s : State) (k : Slot) (i : EntryIx) : Prop := Chosen s k i ∧ ∀ r ∈ s.issue.list, r.entry ≠ i

/-- What a LAY take needs besides a READY feeder (R50). -/
def LayRoom (s : State) : Prop :=
  s.issue.feed = none ∧ (∀ r ∈ s.issue.list, ¬NeedsFeed r) ∧ s.train.queue.length < 8 ∧ s.head.binCount < 12

/-- The issue unit is starved (R58): it has a LAY feed to order, for a candidate that lacks nothing but a READY feeder or for
a refeed, and neither feeder is READY. -/
def Starved (s : State) : Prop :=
  (∀ f, ¬FeederReady s f) ∧
    ((s.issue.feed = none ∧ ∃ r ∈ s.issue.list, NeedsFeed r) ∨
      ∃ k i, MayTake s k ∧ Chosen s k i ∧ s.entryKind i = kindLay ∧ LayRoom s)

/-- The entry passes the checks at take in the course of slot `k` (R52). -/
def ValidEntry (s : State) (k : Slot) (i : EntryIx) : Prop :=
  (s.entryKind i = kindLay ∨ s.entryKind i = kindProbe) ∧ (s.entryTarget i).yaw < 36000 ∧
    (s.entryCut i = true → 400 ≤ s.entryCutLength i ∧ s.entryCutLength i ≤ 2900) ∧ s.entrySlot i = k.val ∧
    s.entryAttempts i < effectiveMax (s.entrySingle i) (s.entryMaxAttempts i)

/-- The record that a take latches from an entry (R46). -/
def latchedRecord (s : State) (i : EntryIx) (kind : Kind) (location : Location) : IssueRecord where
  entry := i
  slot := s.entrySlot i
  kind := kind
  single := s.entrySingle i
  cut := s.entryCut i
  hold := s.entryHold i
  apply := s.entryApply i
  target := s.entryTarget i
  cutLength := if s.entryCut i then s.entryCutLength i else 0
  maxAttempts := effectiveMax (s.entrySingle i) (s.entryMaxAttempts i)
  attemptsUsed := s.entryAttempts i
  voidMark := false
  location := location

/-! ### Failed attempts (R59 to R62) -/

/-- No entry stands twice in the issue list (R46). -/
def DistinctEntries (s : State) : Prop := (s.issue.list.map fun r => r.entry).Nodup

/-- The attempt of the entry with record `r` has failed: attempts used and last reason are written, and the entry is
POSTED again while attempts remain, else FAILED with the reason as its result (R59, R60, R62). -/
def AttemptFailed (r : IssueRecord) (reason : Reason) (s t : State) : Prop :=
  field (t.word (entryAddr r.entry 7)) 0 3 = (r.attemptsUsed + 1) % 8 ∧
    field (t.word (entryAddr r.entry 7)) 8 3 = reasonCodeOf reason ∧
    (∀ x ∈ t.issue.list, x.entry ≠ r.entry) ∧
    (r.attemptsUsed + 1 < r.maxAttempts →
      t.entryState r.entry = some .posted ∧ hasCause t .entryFailed = hasCause s .entryFailed) ∧
    (r.maxAttempts ≤ r.attemptsUsed + 1 →
      t.entryState r.entry = some .failed ∧
        field (t.word (entryAddr r.entry 7)) 16 4 = resultCodeOf (reasonResult reason) ∧
        t.word (entryAddr r.entry 13) = s.time ∧ hasCause t .entryFailed = true)

/-- The gripper's entry has been voided while HOLDING: the attempt record is gone, and the place holds the void brick, or
nothing when it held no brick (R158, R163). -/
def GripperGivenUp (s t : State) : Prop :=
  t.trim.attempt = none ∧ t.trim.settleTimer = none ∧ t.trim.settleCount = 0 ∧
    t.head.gripper =
      if s.head.gripper.brick then
        { s.head.gripper with content := voided s.head.gripper.content, openTimer := none, confirm := false }
      else .cleared

/-- The timer of an attempt in the gripper has run to its latched limit, and `c` is its expiry (R132, R159, R161). -/
def HeldTimerDue (r : IssueRecord) (c : Instr) (reason : Reason) (s : State) : Prop :=
  s.head.gripper.state = .holding ∧ s.head.gripper.content = .entry r.entry ∧
    ((c = .settleLimitExpiry ∧ reason = .settleTimeout ∧ s.trim.reach = none ∧ s.control.boomMoving = false ∧
        ∃ a n, s.trim.attempt = some a ∧ a.entry = r.entry ∧ a.decided = false ∧ s.trim.settleTimer = some n ∧
          s.seq.profile.settleLimit ≤ n) ∨
      (c = .openTimeExpiry .gripper ∧ reason = .openTime ∧
        ∃ n, s.head.gripper.openTimer = some n ∧ s.seq.profile.openTime * 1000 ≤ n) ∨
      (c = .restartDelayExpiry ∧ reason = .trackLost ∧
        ∃ n, s.head.restartTimer = some n ∧ s.seq.profile.restartDelay ≤ n))

/-- The open time of a brick that waits SPREAD in the bay has run to its latched limit (R159). -/
def BayTimerDue (r : IssueRecord) (s : State) : Prop :=
  s.head.bay.state = .spread ∧ s.head.bay.content = .entry r.entry ∧
    (s.head.gripper.content = .entry r.entry → s.head.gripper.state = .taking) ∧
    ∃ n, s.head.bay.openTimer = some n ∧ s.seq.profile.openTime * 1000 ≤ n

/-- The bricks of the displaced records `l` have been voided where they stand (R61): on the train, in the feed, which is
withdrawn while it is only requested, and in the bay. -/
def BricksVoided (l : List IssueRecord) (s t : State) : Prop :=
  t.train.queue = s.train.queue.map (fun c =>
      if ∃ x ∈ l, x.location = .train ∧ c.content = some x.entry then { c with content := none, former := c.content }
      else c) ∧
    ((∀ x ∈ l, x.location ≠ .feed) → t.issue.feed = s.issue.feed) ∧
    (∀ f, s.issue.feed = some f → (∃ x ∈ l, x.location = .feed) →
      (f.phase = .requested → t.issue.feed = none) ∧
        ∀ i, f.phase ≠ .requested → f.entry = some i →
          t.issue.feed = some { f with entry := none, former := some i }) ∧
    ∀ x ∈ l, x.location = .bay → s.head.bay.content = .entry x.entry →
      (s.head.gripper.content = .entry x.entry → s.head.gripper.state = .taking) → BayVoided s t

/-- The records `l` have been displaced (R61): each entry is back in POSTED with its attempts, and its brick is voided. -/
def Displaced (l : List IssueRecord) (s t : State) : Prop :=
  (∀ x ∈ l, t.entryState x.entry = some .posted ∧ t.entryAttempts x.entry = s.entryAttempts x.entry) ∧ BricksVoided l s t

/-- What the failure does to the counts (R33, R60, R62): nothing for a retry, one FAILED entry for a final failure. -/
def FailureCounted (r : IssueRecord) (s t : State) : Prop :=
  (r.attemptsUsed + 1 < r.maxAttempts → t.seq = s.seq ∧ ∀ k, t.courseFigures k = s.courseFigures k) ∧
    (r.maxAttempts ≤ r.attemptsUsed + 1 →
      (Uncounted s r.entry → t.seq = s.seq ∧ ∀ k, t.courseFigures k = s.courseFigures k) ∧
        ∀ k f, InActive s k r.entry →
          f = { s.courseFigures k with
            remaining := (s.courseFigures k).remaining - 1, failed := (s.courseFigures k).failed + 1 } →
          FiguresFit f → TakesFigures k f s t)

/-- The attempt of the entry with record `r` has failed under a close request (R36, R59): attempts used and last reason are
written; with attempts left the entry is cancelled at once, with CANCELLED as its result, and counted so. -/
def FailedUnderCloseRequest (r : IssueRecord) (reason : Reason) (s t : State) : Prop :=
  field (t.word (entryAddr r.entry 7)) 0 3 = (r.attemptsUsed + 1) % 8 ∧
    field (t.word (entryAddr r.entry 7)) 8 3 = reasonCodeOf reason ∧ t.word (entryAddr r.entry 13) = s.time ∧
    (r.attemptsUsed + 1 < r.maxAttempts →
      t.entryState r.entry = some .cancelled ∧
        field (t.word (entryAddr r.entry 7)) 16 4 = resultCodeOf .cancelled ∧
        hasCause t .entryFailed = hasCause s .entryFailed ∧
        ∀ k f, InActive s k r.entry → s.activeStrict = false →
          f = { s.courseFigures k with
            remaining := (s.courseFigures k).remaining - 1, cancelled := (s.courseFigures k).cancelled + 1 } →
          FiguresFit f → TakesFigures k f s t) ∧
    (r.maxAttempts ≤ r.attemptsUsed + 1 →
      t.entryState r.entry = some .failed ∧
        field (t.word (entryAddr r.entry 7)) 16 4 = resultCodeOf (reasonResult reason) ∧
        hasCause t .entryFailed = true ∧ FailureCounted r s t)

/-- The records `l` have been displaced under a close request (R36, R61): each entry is cancelled at once, with its attempts
and the result CANCELLED, and its brick is voided. -/
def CancelledBehind (l : List IssueRecord) (s t : State) : Prop :=
  (∀ x ∈ l, t.entryState x.entry = some .cancelled ∧ ResultOf x.entry .cancelled s t ∧
      t.word (entryAddr x.entry 13) = s.time) ∧
    BricksVoided l s t

/-- The course of slot `k` has counted `n` cancelled entries of its range, and has closed exactly when nothing remains
(R33, R36, R38). -/
def CancelsCounted (k : Slot) (n : Nat) (s t : State) : Prop :=
  (n < (s.courseFigures k).remaining → (s.courseFigures k).cancelled + n < 65536 →
    t.seq = s.seq ∧ t.courseState k = s.courseState k ∧
      t.courseFigures k = { s.courseFigures k with
        remaining := (s.courseFigures k).remaining - n, cancelled := (s.courseFigures k).cancelled + n } ∧
      hasCause t .courseClosed = hasCause s .courseClosed) ∧
  (n = (s.courseFigures k).remaining →
    t.seq.active = none ∧ t.seq.closeMark = false ∧ t.courseState k = some .closed ∧ hasCause t .courseClosed = true)

/-- Records of an active strict-order course stand under its close request, no fewer than remain in it (R36). -/
def StrictUnderCloseRequest (k : Slot) (l : List IssueRecord) (s : State) : Prop :=
  s.seq.active = some k ∧ s.seq.closeMark = true ∧ s.courseStrict k = true ∧ (∀ x ∈ l, s.inCourse k x.entry = true) ∧
    l.length ≤ (s.courseFigures k).remaining

/-! ### HALT requests (R79, R103, R173, R175) -/

/-- A HALT request has been taken: HALT is entered from RUN, DRAIN and IDLE, the request is held in INIT, and in HALT it
has no effect on machine control. -/
def HaltRequested (s t : State) : Prop :=
  (MayHalt s → Halted t) ∧ (s.control.state = .init → t.control = { s.control with haltHeld := true }) ∧
    (s.control.state = .halt → t.control = s.control)

/-! ### Transactions on the station line (R87 to R100) -/

/-- The transaction on the line is still within its reply deadline (R98). -/
def AwaitsReply (s : State) (x : Transaction) : Prop :=
  s.line.transaction = some x ∧ (s.time - x.sentAt).toNat ≤ 10

/-- The event fails the transaction on the line (R98): the deadline, a gap, or a reply that is not good. -/
def FailsTransaction (s : State) (x : Transaction) (c : Instr) : Prop :=
  s.line.transaction = some x ∧
    ((c = .replyDeadline ∧ 10 ≤ (s.time - x.sentAt).toNat) ∨ c = .stationByteGap ∨
      ∃ bytes, c = .replyNotGood bytes ∧ (s.time - x.sentAt).toNat ≤ 10 ∧
        judgeReply x.position (decide (x.command = .query)) bytes = .notGood)

/-- A poll of position `p` is answered with this status (R91). -/
def PollAnswered (s : State) (p : Position) (bytes : List Byte) (d : QueryData) : Prop :=
  (∃ at0, AwaitsReply s ⟨p, .query, at0⟩) ∧ judgeReply p true bytes = .good (.status d)

/-- A poll of position `p` is answered with an error word of this code (R88). -/
def PollRefused (s : State) (p : Position) (bytes : List Byte) (code : Half) : Prop :=
  (∃ at0, AwaitsReply s ⟨p, .query, at0⟩) ∧ judgeReply p true bytes = .good (.error code)

/-- A poll of position `p` is answered with this status, with nothing deferred at the station (R91). -/
def Answers (s : State) (p : Position) (bytes : List Byte) (d : QueryData) : Prop :=
  PollAnswered s p bytes d ∧ (s.line.at p).deferred = none

/-- A poll of the head station at `p` is answered with this status while the head command `c` is deferred there, with
nothing outstanding but, it may be, a foreign operation (R90, R92). -/
def AnswersDeferred (s : State) (p : Position) (c : StationCommand) (bytes : List Byte) (d : QueryData) : Prop :=
  PollAnswered s p bytes d ∧ isFeederPosition p = false ∧ (s.line.at p).deferred = some c ∧
    ((s.line.at p).operation = .none ∨ (s.line.at p).operation = .foreign) ∧ c ≠ .query ∧ ∀ n, c ≠ .feed n

/-- The reported operation is adopted for the deferred command `c` (R92). -/
def Adopts (s : State) (p : Position) (c : StationCommand) (d : QueryData) : Prop :=
  (s.line.at p).operation = .none ∧ d.lastOperation = commandCode c

/-- The poll finds nothing outstanding, or reports what is outstanding DONE without a failure, and no error is latched at
IDLE (R89, R91, R92). -/
def EndsWell (s : State) (p : Position) (d : QueryData) : Prop :=
  ((s.line.at p).operation = .none ∧ (d.reported = .done ∨ (d.reported = .idle ∧ d.latched = 0))) ∨
    ((s.line.at p).operation = .foreign ∧ d.reported = .done) ∨
    ∃ c, (s.line.at p).operation = .command c ∧ d.reported = .done ∧ d.lastOperation = commandCode c ∧
      (c = .probe → d.result.toNat ≤ 600)

/-- The operation outstanding is lost (R91): the station reports IDLE, or the end of another operation. -/
def OperationLost (s : State) (p : Position) (d : QueryData) : Prop :=
  ((s.line.at p).operation ≠ .none ∧ d.reported = .idle) ∨
    ∃ c, (s.line.at p).operation = .command c ∧ d.reported = .done ∧ d.lastOperation ≠ commandCode c

/-- The error word of a poll that finds an error: OPERATION_LOST for a lost operation, else the latched word, or
OPERATION_LOST when an ERROR report latches none (R91). -/
def FindsError (s : State) (p : Position) (d : QueryData) (e : Half) : Prop :=
  (OperationLost s p d ∧ e = errorOperationLost) ∨
    (d.reported = .error ∧ e = if d.latched = 0 then errorOperationLost else d.latched) ∨
    ((s.line.at p).operation = .none ∧ d.reported = .idle ∧ d.latched ≠ 0 ∧ e = d.latched)

/-- The content whose attempt a head command serves (R162). -/
def servedContent (s : State) : StationCommand → Content
  | .spread => s.head.bay.content
  | .take | .release | .probe => s.head.gripper.content
  | .query | .feed _ | .eject _ => .none

/-- The place of the failed head command `c` afterwards, by the table of R162: the bay SPREAD, the gripper EMPTY or HOLDING,
what was there void; an eject's place has the state it held before EJECTING, and the bin count stands. -/
def FailedPlace (s : State) (c : StationCommand) (t : State) : Prop :=
  match c with
  | .spread =>
    t.head.bay = { s.head.bay with state := .spread, content := voided s.head.bay.content, openTimer := none }
  | .take =>
    t.head.bay = { s.head.bay with state := .spread, content := voided s.head.bay.content, openTimer := none } ∧
      t.head.gripper = .cleared
  | .release =>
    t.trim.attempt = none ∧
      t.head.gripper = { s.head.gripper with
        state := .holding, content := voided s.head.gripper.content, openTimer := none, confirm := false }
  | .probe => t.trim.attempt = none ∧ t.head.gripper = .cleared
  | .eject .bay =>
    t.head.binCount = s.head.binCount ∧
      ((∀ i, s.head.bay.content ≠ .entry i) → s.head.gripper.state ≠ .taking →
        t.head.bay = { s.head.bay with state := s.head.bay.ejectFrom })
  | .eject .gripper =>
    t.head.binCount = s.head.binCount ∧
      ((∀ i, s.head.gripper.content ≠ .entry i) → t.head.gripper = { s.head.gripper with state := .holding })
  | .query | .feed _ => True

/-- The failed head command `c` sets its place, and fails the attempt it served with GRIP_FAULT (R103, R162). -/
def ServedAttemptFails (s : State) (c : StationCommand) (t : State) : Prop :=
  FailedPlace s c t ∧ ∀ r, BookWf s → DistinctEntries s → r ∈ s.issue.list → ¬UnderCloseRequest s r.entry →
    servedContent s c = .entry r.entry → AttemptFailed r .gripFault s t

/-- The next poll due after a transaction with the station at `p` has ended (R96): in a working poll interval while the
station is BUSY or holds a deferred request, else in 250 ms; a poll that stands at the arbiter keeps its due time. That a
deferred request which the same reply has placed again or withdrawn is held no more is the model's reading (log entry 43). -/
def PollScheduled (p : Position) (s t : State) : Prop :=
  (t.line.at p).pollPending = (s.line.at p).pollPending ∧
  ((s.line.at p).pollPending = true → (t.line.at p).nextPoll = (s.line.at p).nextPoll) ∧
  ((s.line.at p).pollPending = false → (t.line.at p).state ≠ .absent →
    (t.line.at p).nextPoll = some (s.time + BitVec.ofNat 32
      (if (t.line.at p).state = .busy ∨ (t.line.at p).deferred ≠ none then s.seq.profile.workingPoll else 250)))

/-- The next poll due after an ACCEPTED or BUSY reply to a command (R90, R96): in a working poll interval, unless a poll is
already due earlier. -/
def PollAfterCommand (p : Position) (s t : State) : Prop :=
  (t.line.at p).pollPending = (s.line.at p).pollPending ∧
  ((s.line.at p).pollPending = true → (t.line.at p).nextPoll = (s.line.at p).nextPoll) ∧
  ((s.line.at p).pollPending = false → (t.line.at p).state ≠ .absent →
    (s.line.at p).nextPoll = none →
      (t.line.at p).nextPoll = some (s.time + BitVec.ofNat 32 s.seq.profile.workingPoll)) ∧
  (∀ d, (s.line.at p).pollPending = false → (t.line.at p).state ≠ .absent → (s.line.at p).nextPoll = some d →
    ((s.time + BitVec.ofNat 32 s.seq.profile.workingPoll - d).toNat < 2147483648 → (t.line.at p).nextPoll = some d) ∧
    (2147483648 ≤ (s.time + BitVec.ofNat 32 s.seq.profile.workingPoll - d).toNat →
      (t.line.at p).nextPoll = some (s.time + BitVec.ofNat 32 s.seq.profile.workingPoll)))

/-- A poll of the head station at `p` reports its operation `c` DONE with a result (R91). -/
def ReportsDone (s : State) (p : Position) (c : StationCommand) (bytes : List Byte) (result : Half) : Prop :=
  Answers s p bytes ⟨.done, commandCode c, result, 0, 0⟩ ∧ (s.line.at p).operation = .command c ∧
    isFeederPosition p = false

/-- The records of every position but `p`, the requests and the identity of the line are the same. -/
def OtherStationsKept (p : Position) (s t : State) : Prop :=
  (∀ q, q ≠ p → t.line.at q = s.line.at q) ∧ t.line.complete = s.line.complete ∧
    t.line.headRequests = s.line.headRequests

/-- The FEED request, if there is one, cannot be granted: the feed is not in phase REQUESTED, its feeder is not READY, or the
FEED is held back there after a BUSY reply (R55, R90, R95). -/
def FeedWaits (s : State) : Prop :=
  ∀ f, s.issue.feed = some f → f.phase ≠ .requested ∨ ¬FeederReady s f.feeder ∨
    ∃ n, (s.line.at (feederPosition f.feeder)).deferred = some (.feed n)

/-! ### The head, the trim stage and the tracker -/

/-- A side of the head sequencer is free: nothing of it waits at the arbiter or stands on the line, and its station has
nothing deferred and nothing outstanding (R146). -/
def SideFree (s : State) (p : Position) : Prop :=
  (∀ c ∈ s.line.headRequests, c.onSide p = false) ∧
    (∀ x, s.line.transaction = some x → x.command.onSide p = false) ∧ (s.line.at p).deferred = none ∧
    (s.line.at p).operation = .none

/-- The gripper side wants nothing for the gripper's own content (R146): no decided entry, and no void brick held. -/
def GripperWantsNothing (s : State) : Prop :=
  (s.head.gripper.state = .releasing ∨ s.head.gripper.state = .probing → ∀ i, s.head.gripper.content ≠ .entry i) ∧
    (s.head.gripper.state = .holding → s.head.gripper.brick = true → ∀ f, s.head.gripper.content ≠ .void f)

/-- S of an axis after a usable sample (R130): a slew step toward the demand, then the clamp to the range. -/
def SlewedAndClamped (limit range demand current next : Int) : Prop :=
  ∃ stepped : Int, Clamped (current - limit) (current + limit) demand stepped ∧ Clamped (-range) range stepped next

/-- The error differs from T′ − G by whole turns of 36000 and lies in −18000..17999 (R129). -/
def WrappedDifference (a b d : Int) : Prop := -18000 ≤ d ∧ d < 18000 ∧ ∃ n : Int, d = a - b + 36000 * n

/-- An attempt that the gripper holds with tracking LOST fails at once (R160, R161). -/
def LossFails (s : State) : Prop :=
  s.tracker.state = .lost ∧
    (s.seq.profile.recoveryMode = .fail ∨
      (s.seq.profile.recoveryMode = .holdThenFail ∧ s.seq.profile.restartDelay = 0))

/-- The restart-delay timer as an attempt begins: it starts with tracking LOST in mode HOLD_THEN_FAIL (R160, R161). -/
def restartAtStart (s : State) : Option Nat :=
  if s.tracker.state = .lost ∧ s.seq.profile.recoveryMode = .holdThenFail then some 0 else s.head.restartTimer

/-- A frame of number `n` does not follow the frame before it (R107). -/
def breaksSequence (s : State) (n : Byte) : Bool :=
  match s.tracker.sequence with
  | some m => decide (n ≠ m + 1)
  | none => false

/-- The gripper's next record: the oldest in the list whose brick location is not GRIPPER (R150). -/
def NextRecord (s : State) (r : IssueRecord) : Prop :=
  ∃ l1 l2, s.issue.list = l1 ++ r :: l2 ∧ (∀ x ∈ l1, x.location = .gripper) ∧ r.location ≠ .gripper

/-- A whole frame arrives at a receiver that is hunting (R105, R106). -/
def FrameArrives (s : State) (bytes : List Byte) (c : FrameContent) : Prop :=
  s.tracker.receiving = true ∧ s.tracker.collected = [] ∧ bytes.length = 18 ∧ bytes.head? = some syncByte ∧
    judgeFrame bytes = c

/-- The counts of a course after an entry has become terminal: none outside the active range, else its record takes `f`
(R33). -/
def CountsAs (i : EntryIx) (f : Slot → CourseFigures) (s t : State) : Prop :=
  (Uncounted s i → t.seq = s.seq ∧ ∀ k, t.courseFigures k = s.courseFigures k) ∧
    ∀ k, InActive s k i → FiguresFit (f k) → TakesFigures k (f k) s t

/-- No byte of the book has changed outside the areas named and, for an entry in the active range, its course record. -/
def CountedBytes (i : EntryIx) (areas : List (Nat × Nat)) (s t : State) : Prop :=
  (Uncounted s i → BytesKeptOutside areas s t) ∧
    ∀ k, InActive s k i → BytesKeptOutside ((courseAddr k 0, 64) :: areas) s t

/-- The components of a deviation lie within its fields (R5). -/
def DeviationFits (d : Pose) : Prop :=
  (-32768 ≤ d.x ∧ d.x ≤ 32767) ∧ (-32768 ≤ d.y ∧ d.y ≤ 32767) ∧ (-32768 ≤ d.z ∧ d.z ≤ 32767) ∧
    (-32768 ≤ d.yaw ∧ d.yaw ≤ 32767)

/-- What the identity lines present at a position (R84). -/
def identityAt (l : IdentityLines) : Position → StationKind
  | .feederA => l.feederA
  | .feederB => l.feederB
  | .spreader => l.spreader
  | .gripper => l.gripper

/-- The station line after station sense (R83 to R86): each position has the kind its line presents; one of the required
kind is READY and polled at once, another ABSENT; nothing is outstanding, and stations complete is as R83 says. -/
def SensedLine (l : IdentityLines) (now : Word) (x : StationLine) : Prop :=
  (∀ p, kindFits p (identityAt l p) = true →
    x.at p = ⟨identityAt l p, .ready, .none, none, none, 0, false, some now, false⟩) ∧
  (∀ p, kindFits p (identityAt l p) = false →
    x.at p = ⟨identityAt l p, .absent, .none, none, none, 0, false, none, false⟩) ∧
  x.transaction = none ∧ x.headRequests = [] ∧
  (x.complete = true ↔
    (l.feederA = .feeder ∨ l.feederA = .absent) ∧ (l.feederB = .feeder ∨ l.feederB = .absent) ∧
      (l.feederA = .feeder ∨ l.feederB = .feeder) ∧ l.spreader = .spreader ∧ l.gripper = .gripper)

/-- The trim controller has taken an offset and ranges: S is held within them at once, and a change of S wants a frame
(R124). -/
def TakesCalibration (o r : Pose) (s t : State) : Prop :=
  t.trim.offset = o ∧ t.trim.range = r ∧ t.trim.setPoint = clampPose r s.trim.setPoint ∧
    t.trim.attempt = s.trim.attempt ∧ t.trim.driveEnable = s.trim.driveEnable ∧
    (clampPose r s.trim.setPoint = s.trim.setPoint → t.trim = { s.trim with offset := o, range := r }) ∧
    (clampPose r s.trim.setPoint ≠ s.trim.setPoint → s.trim.sending = false →
      t.trim.sending = true ∧
        t.trim.lastFrame = setPointFrame s.trim.nextFrame s.trim.driveEnable (clampPose r s.trim.setPoint)) ∧
    (clampPose r s.trim.setPoint ≠ s.trim.setPoint → s.trim.sending = true → t.trim.outputPending = true)

/-- The calibration image can be committed: its sum matches its checksum word and it is not all zero (R192, R194). -/
def ImageGood (v : Vector Word 32) : Prop := calibrationSum v = v[31] ∧ ∃ j : Fin 32, v[j] ≠ 0

/-! ### What the host reads (10.1, 11.5) -/

/-- A bit of a register as a number. -/
def bitValue (b : Bool) (n : Nat) : Nat := if b then 2 ^ n else 0

/-- A word shows an entry index or NONE (R197). -/
def ShowsIndex (w : Word) (x : Option EntryIx) : Prop :=
  (x = none → w = 0) ∧ ∀ i, x = some i → field w 0 16 = i.val ∧ field w 16 16 = 1

/-- A word shows a content: bit 16 for what is there, bit 17 for VOID, and the index, 0xFFFF for one that never was (11.5). -/
def ShowsContent (w : Word) (c : Content) : Prop :=
  (c = .none → w = 0) ∧ (∀ i, c = .entry i → field w 0 16 = i.val ∧ field w 16 16 = 1) ∧
    (∀ i, c = .void (some i) → field w 0 16 = i.val ∧ field w 16 16 = 3) ∧
    (c = .void none → field w 0 16 = 0xFFFF ∧ field w 16 16 = 3)

/-- Two words show a station record: kind, state and operation in the first, the last error word in the second (R86,
11.5). -/
def ShowsStation (a b : Word) (x : Station) : Prop :=
  field a 0 8 = (match x.kind with
    | .absent => 0 | .feeder => 1 | .spreader => 2 | .gripper => 3 | .unknown => 4) ∧
  field a 8 8 = (match x.state with
    | .absent => 0 | .ready => 1 | .busy => 2 | .held => 3 | .faulted => 4 | .unresponsive => 5) ∧
  field a 16 8 = (match x.operation with
    | .none => 0 | .foreign => 0xFF | .command .query => 0x10 | .command (.feed _) => 0x21 | .command .spread => 0x31
    | .command .take => 0x41 | .command .release => 0x42 | .command .probe => 0x43 | .command (.eject _) => 0x44) ∧
  field a 24 8 = 0 ∧ b = x.lastError.setWidth 32

/-! ### Invariants -/

/-- What every event re-evaluates: the interrupt (R190), the train drive (R73), the starved condition (R58), and the status
block, which shows its owners' state (R20). -/
def Derived (s : State) : Prop :=
  (s.host.attention = true ↔ s.host.cause &&& s.host.mask ≠ 0) ∧
    (s.train.drive = true ↔
      s.train.queue ≠ [] ∧ s.head.bay.state = .empty ∧ (s.control.state = .run ∨ s.control.state = .drain)) ∧
    (s.issue.starved = true ↔ Starved s) ∧ s.status.fields = s.statusNow

/-- While the emergency line is asserted S is 0; the drive enable follows the line (R139). -/
def EmergencyHeld (s : State) : Prop :=
  (s.control.emergency = true → s.trim.setPoint = .zero) ∧ s.trim.driveEnable = !s.control.emergency

/-- A component lies within ±r. -/
def Within (r x : Int) : Prop := -r ≤ x ∧ x ≤ r

/-- Each component of S lies within ±R of its axis, and each R within the bounds of R124 (R123, R124, R130). -/
def StageWithinRange (s : State) : Prop :=
  Within s.trim.range.x s.trim.setPoint.x ∧ Within s.trim.range.y s.trim.setPoint.y ∧
    Within s.trim.range.z s.trim.setPoint.z ∧ Within s.trim.range.yaw s.trim.setPoint.yaw ∧
    (1 ≤ s.trim.range.x ∧ s.trim.range.x ≤ 600) ∧ (1 ≤ s.trim.range.y ∧ s.trim.range.y ≤ 600) ∧
    (1 ≤ s.trim.range.z ∧ s.trim.range.z ≤ 400) ∧ (1 ≤ s.trim.range.yaw ∧ s.trim.range.yaw ≤ 300)

/-- The latched profile lies in the ranges of R18. -/
def ProfileInRange (p : Profile) : Prop :=
  (1 ≤ p.toleranceXY ∧ p.toleranceXY ≤ 100) ∧ (1 ≤ p.toleranceZ ∧ p.toleranceZ ≤ 100) ∧
    (1 ≤ p.toleranceYaw ∧ p.toleranceYaw ≤ 500) ∧ (1 ≤ p.slewXY ∧ p.slewXY ≤ 200) ∧
    (1 ≤ p.slewZ ∧ p.slewZ ≤ 200) ∧ (1 ≤ p.slewYaw ∧ p.slewYaw ≤ 200) ∧
    (1 ≤ p.windowXYZ ∧ p.windowXYZ ≤ 500) ∧ (1 ≤ p.windowYaw ∧ p.windowYaw ≤ 1000) ∧
    (1 ≤ p.settleCount ∧ p.settleCount ≤ 63) ∧ (100 ≤ p.settleLimit ∧ p.settleLimit ≤ 60000) ∧
    (16 ≤ p.reachCount ∧ p.reachCount ≤ 1024) ∧ (3 ≤ p.lossExponent ∧ p.lossExponent ≤ 14) ∧
    p.restartDelay ≤ 60000 ∧ (2 ≤ p.unsteadyOn ∧ p.unsteadyOn ≤ 16) ∧ p.unsteadyOff < p.unsteadyOn ∧
    (10 ≤ p.openTime ∧ p.openTime ≤ 900) ∧ (2 ≤ p.transitLimit ∧ p.transitLimit ≤ 60) ∧
    (5 ≤ p.workingPoll ∧ p.workingPoll ≤ 100) ∧ (0 ≤ p.zmax ∧ p.zmax ≤ 100) ∧
    (50 ≤ p.probeClearance ∧ p.probeClearance ≤ 1000)

/-- A command that fits a position (R89). -/
def fitsPosition (p : Position) (c : StationCommand) : Bool :=
  match p, c with
  | .feederA, .feed _ | .feederB, .feed _ | .spreader, .spread => true
  | .gripper, .take | .gripper, .release | .gripper, .probe | .gripper, .eject _ => true
  | _, _ => false

/-- Each command stands where R89 has it: pending, on the line, outstanding or deferred at the station it is for. -/
def CommandsFit (s : State) : Prop :=
  (∀ c ∈ s.line.headRequests, fitsPosition (headTarget c) c = true) ∧
    (∀ x, s.line.transaction = some x → x.command = .query ∨ fitsPosition x.position x.command = true) ∧
    (∀ p c, (s.line.at p).operation = .command c → fitsPosition p c = true) ∧
    (∀ p c, (s.line.at p).deferred = some c → fitsPosition p c = true)

/-- An EJECT. -/
def isEject : StationCommand → Bool
  | .eject _ => true
  | _ => false

/-- The number of EJECTs that are placed, on the line, outstanding or deferred. -/
def ejectsStanding (s : State) : Nat :=
  (s.line.headRequests.filter isEject).length +
    (if (s.line.transaction.map fun x => isEject x.command) = some true then 1 else 0) +
    (match s.line.gripper.operation with
      | .command c => if isEject c then 1 else 0
      | _ => 0) +
    (if s.line.gripper.deferred.map isEject = some true then 1 else 0)

/-- The reject bin count lies in 0..12, and below 12 while an eject stands; ejects are placed one at a time (R145, R165). -/
def BinFits (s : State) : Prop :=
  s.head.binCount ≤ 12 ∧ ejectsStanding s ≤ 1 ∧ (ejectsStanding s ≠ 0 → s.head.binCount < 12)

/-- A sample is saturated (R135): on some axis the error exceeds the range plus the tolerance. -/
def Saturated (p : Profile) (r e : Pose) : Prop :=
  r.x + p.toleranceXY < e.x.natAbs ∨ r.y + p.toleranceXY < e.y.natAbs ∨ r.z + p.toleranceZ < e.z.natAbs ∨
    r.yaw + p.toleranceYaw < e.yaw.natAbs

/-- The bounds the manual gives the collections and counts of the part, its latched profile, and the deviation the gripper
keeps (R18, R46, R67, R111, R113, R123, R133, R145). -/
def WithinBounds (s : State) : Prop :=
  s.issue.list.length ≤ 12 ∧ s.train.queue.length ≤ 8 ∧ s.tracker.history.length ≤ 2 ∧ s.tracker.window.length ≤ 16 ∧
    s.trim.settleCount ≤ 63 ∧ s.trim.tally ≤ 65535 ∧ s.trim.saturated ≤ 1024 ∧ s.head.gripper.tally ≤ 65535 ∧
    ProfileInRange s.seq.profile ∧ DeviationFits s.head.gripper.deviation ∧ CommandsFit s ∧ BinFits s

/-- Every entry of the issue list reads one of the in-flight states (R3, R6, R46). -/
def ListInFlight (s : State) : Prop := ∀ r ∈ s.issue.list, InFlight s r.entry

/-- Outside RUN and DRAIN no entry is in the issue list (R64, R65, R66). -/
def ListEmptyAtRest (s : State) : Prop :=
  s.control.state ≠ .run → s.control.state ≠ .drain → s.issue.list = []

/-- In HALT no brick on the train or at the head and no feed belongs to an entry (R65, R72, R163). -/
def HaltHoldsNoWork (s : State) : Prop :=
  s.control.state = .halt → s.issue.list = [] ∧ CarriersVoid s ∧ FeedVoid s ∧ PlacesVoid s

/-- At most one course record is ACTIVE, and it is the one the course sequencer names (R25, R27). -/
def OneActiveCourse (s : State) : Prop := ∀ k, s.courseState k = some .active ↔ s.seq.active = some k

/-! ### Host writes to an entry (R11) -/

/-- The command is a host write to the state word or to another word of the entry, other than CONFIRM. -/
def WritesEntry (i : EntryIx) : Instr → Prop
  | .entryPostWrite j => j = i
  | .entryFreeWrite j => j = i
  | .entryCancelWrite j => j = i
  | .entryFieldWrite j _ _ => j = i
  | .stateWriteDiscarded (.entry j) _ => j = i
  | _ => False

/-- The command is a reset of the part: power-on, a reset of the host port, or a RESET outside INIT (R176, R177). -/
def ResetsPart (s : State) : Instr → Prop
  | .powerOn _ _ _ => True
  | .hostPortReset _ => True
  | .reset _ => s.control.state ≠ .init
  | _ => False

end Sys2Proof
end

