-- ==== Sys2Proof/Certificates/Slice0/Obligations.lean ====
section
/-! DEFINITION. The statements about the part, for the provers. Where a statement frames a command, `KeptBut` and
`CausesKeptBut` of Sys2Proof/Safety.lean name every piece of the state that may differ. -/

open Sys2Proof Sys2Proof.Machine

/-! ### The step -/

/-- The step takes the command at the front of the queue and runs it with the queue's rest. -/
def Obligations.StepRunsFrontCommand : Prop :=
  ∀ (s : State) (c : Instr) (rest : List Instr), s.pending = c :: rest → step s = exec c (s.withPending rest)

/-- With no command waiting, one millisecond passes: the time base and the timers that run count it, the front carrier's
running time is compared with the transit limit as it rises, and nothing else changes. That an empty queue is a millisecond
is the model's choice (log entry 1), and so is that the running time holds at 60000 (log entry 34). -/
def Obligations.IdleStepCountsOneMillisecond : Prop :=
  ∀ s : State, s.pending = [] →
    ∃ t, step s = .next t ∧ t.time = s.time + 1 ∧
      t.tracker = { s.tracker with lossTimer := s.tracker.lossTimer.map (· + 1) } ∧
      t.trim = { s.trim with
        settleTimer :=
          if s.trim.reach.isSome || s.control.boomMoving then s.trim.settleTimer
          else s.trim.settleTimer.map (· + 1) } ∧
      t.head = { s.head with
        bay := { s.head.bay with openTimer := s.head.bay.openTimer.map (· + 1) }
        gripper := { s.head.gripper with openTimer := s.head.gripper.openTimer.map (· + 1) }
        restartTimer := s.head.restartTimer.map (· + 1) } ∧
      (s.train.drive = false ∨ s.train.queue = [] → t.train = { s.train with limitReached := false }) ∧
      (∀ c rest n, s.train.drive = true → s.train.queue = c :: rest → n = min 60000 (c.running + 1) →
        t.train = { s.train with
          queue := { c with running := n } :: rest, limitReached := decide (s.seq.profile.transitLimit * 1000 ≤ n) }) ∧
      (∀ p, t.line.at p = { s.line.at p with hold := (s.line.at p).hold.map (· - 1) }) ∧
      t.line.transaction = s.line.transaction ∧ t.line.headRequests = s.line.headRequests ∧
      t.line.complete = s.line.complete ∧ t.line.lastFrame = s.line.lastFrame ∧ t.free = s.free ∧
      t.host = s.host ∧ t.issue = s.issue ∧ t.book = s.book ∧ t.status = s.status ∧
      KeptBut [.time, .queue, .limit, .line, .tracker, .trim, .head] s t

/-- No command and no event stops the part, and none touches the queue. -/
def Obligations.EveryCommandCompletes : Prop :=
  ∀ (c : Instr) (s : State), ∃ t, exec c s = .next t ∧ t.pending = s.pending

/-! ### Machine control -/

/-- A command that the table of R170 refuses sets CMD_REFUSED and changes nothing else. -/
def Obligations.RefusedCommandChangesNothing : Prop :=
  ∀ (c : Instr) (s : State), Refused s c →
    ∃ t, exec c s = .next t ∧ hasCause t .cmdRefused = true ∧ KeptBut [] s t ∧ CausesKeptBut [.cmdRefused] s t

/-- RUN under the conditions of R171 enters RUN; an accepted STOP takes RUN to DRAIN, or through it to IDLE when the list is
empty and no place holds VOID content, HALT to IDLE, and leaves IDLE and DRAIN as they are. INIT ends in HALT when a HALT
request is held or the emergency line is asserted, and in IDLE otherwise; DRAIN ends in IDLE when the list is empty and no
place holds VOID content. -/
def Obligations.MachineStateMovesAsCommanded : Prop :=
  (∀ s : State, RunAllowed s →
    ∃ t, exec .run s = .next t ∧ t.control = { s.control with state := .run } ∧ KeptBut [.control] s t ∧
      CausesKeptBut [] s t) ∧
  (∀ s : State, ¬Refused s .stop →
    ∃ t, exec .stop s = .next t ∧ KeptBut [.control] s t ∧ CausesKeptBut [] s t ∧
      (s.control.state = .idle → t.control = s.control) ∧
      (s.control.state = .drain → t.control = s.control) ∧
      (s.control.state = .run → Drained s → t.control = { s.control with state := .idle }) ∧
      (s.control.state = .run → ¬Drained s → t.control = { s.control with state := .drain }) ∧
      (s.control.state = .halt → t.control = { s.control with state := .idle })) ∧
  (∀ s : State, s.control.state = .init → s.control.sensed = true → s.control.latched = true →
    s.control.loaded = true →
    ∃ t, exec .initEnd s = .next t ∧
      (s.control.haltHeld = false → s.control.emergency = false →
        t.control = { s.control with state := .idle } ∧ KeptBut [.control] s t ∧ CausesKeptBut [] s t) ∧
      (s.control.haltHeld = true ∨ s.control.emergency = true →
        Halted t ∧ HeadVoided s t ∧ t.control = { s.control with state := .halt, haltHeld := false } ∧
          KeptBut haltBlocks s t ∧ CausesKeptBut [.halted, .courseClosed] s t)) ∧
  (∀ s : State, s.control.state = .drain → Drained s →
    ∃ t, exec .drainEnd s = .next t ∧ t.control = { s.control with state := .idle } ∧ KeptBut [.control] s t ∧
      CausesKeptBut [] s t)

/-- ABORT in RUN, DRAIN or IDLE enters HALT: HALTED is raised, the list is empty, every carrier is void and keeps the index it
belonged to (log entry 36), a feed that is only requested is withdrawn and another is void, the bay and the gripper are voided
with their commands that have not been granted withdrawn, and while no close request stands every entry of the list is back in
POSTED; in HALT it changes nothing. -/
def Obligations.AbortEntersHalt : Prop :=
  (∀ s : State, MayHalt s →
    ∃ t, exec .abort s = .next t ∧ Halted t ∧ HeadVoided s t ∧
      t.control = { s.control with state := .halt, haltHeld := false } ∧
      t.train.queue = s.train.queue.map (fun c =>
        { c with content := none, former := if c.content = none then c.former else c.content, running := 0 }) ∧
      (∀ f, s.issue.feed = some f → f.phase = .requested → t.issue.feed = none) ∧
      (∀ f i, s.issue.feed = some f → f.phase ≠ .requested → f.entry = some i →
        t.issue.feed = some { f with entry := none, former := some i }) ∧
      t.trim.setPoint = s.trim.setPoint ∧ KeptBut haltBlocks s t ∧ CausesKeptBut [.halted, .courseClosed] s t ∧
      (BookWf s → s.seq.closeMark = false → ReturnsList s t ∧ t.seq = s.seq ∧ CausesKeptBut [.halted] s t)) ∧
  (∀ s : State, s.control.state = .halt →
    ∃ t, exec .abort s = .next t ∧ KeptBut [] s t ∧ CausesKeptBut [] s t)

/-- A CONTROL write sets the manual request, or clears it and withdraws the grant with it. A standing request is granted
outside INIT while the gripper is neither RELEASING nor PROBING nor TAKING with a TAKE that is no longer only pending:
MANUAL_GRANTED is raised, the settle count returns to 0 and a pending TAKE is withdrawn. -/
def Obligations.ManualControlIsRequestedAndGranted : Prop :=
  (∀ s : State, ∃ t, exec .manualRequestSet s = .next t ∧ t.control = { s.control with manualRequest := true } ∧
    KeptBut [.control] s t ∧ CausesKeptBut [] s t) ∧
  (∀ s : State, ∃ t, exec .manualRequestClear s = .next t ∧
    t.control = { s.control with manualRequest := false, manualGrant := false } ∧
    KeptBut [.control] s t ∧ CausesKeptBut [] s t) ∧
  (∀ s : State, s.control.manualRequest = true → s.control.manualGrant = false → s.control.state ≠ .init →
     s.head.gripper.state ≠ .releasing → s.head.gripper.state ≠ .probing →
     (s.head.gripper.state = .taking → .take ∈ s.line.headRequests) →
     ∃ t, exec .manualGrant s = .next t ∧ t.control = { s.control with manualGrant := true } ∧
       hasCause t .manualGranted = true ∧ t.trim = { s.trim with settleCount := 0 } ∧
       (s.head.gripper.state = .taking →
         t.head = { s.head with gripper := .cleared } ∧
         t.line = { s.line with headRequests := s.line.headRequests.filter fun c => c ≠ .take }) ∧
       (s.head.gripper.state ≠ .taking → t.head = s.head ∧ t.line = s.line) ∧
       KeptBut [.control, .trim, .head, .line] s t ∧ CausesKeptBut [.manualGranted] s t)

/-- An assertion of the emergency line sets S to 0 with the drive OFF, sends or marks a frame carrying both, and takes the
machine to HALT, or holds a HALT request in INIT. Its clearing sets the drive ON, sends or marks a frame with S as it stands,
and leaves the machine state as it is. -/
def Obligations.EmergencyLineStopsAndRestoresTheDrive : Prop :=
  (∀ s : State, s.control.emergency = false →
     ∃ t, exec .emergencyAssert s = .next t ∧ t.control.emergency = true ∧ t.trim.setPoint = .zero ∧
       t.trim.driveEnable = false ∧ t.trim.settleCount = 0 ∧
       (s.trim.sending = false →
         t.trim.sending = true ∧ t.trim.lastFrame = setPointFrame s.trim.nextFrame false .zero) ∧
       (s.trim.sending = true → t.trim.outputPending = true) ∧
       (MayHalt s →
         Halted t ∧ HeadVoided s t ∧ KeptBut haltBlocks s t ∧ CausesKeptBut [.halted, .courseClosed] s t) ∧
       (s.control.state = .init → t.control = { s.control with emergency := true, haltHeld := true }) ∧
       (s.control.state = .halt → t.control = { s.control with emergency := true }) ∧
       (¬MayHalt s → KeptBut [.trim, .control] s t ∧ CausesKeptBut [] s t)) ∧
  (∀ s : State, s.control.emergency = true →
     ∃ t, exec .emergencyClear s = .next t ∧ t.control = { s.control with emergency := false } ∧
       t.trim.setPoint = s.trim.setPoint ∧ t.trim.driveEnable = true ∧
       (s.trim.sending = false →
         t.trim.sending = true ∧ t.trim.lastFrame = setPointFrame s.trim.nextFrame true s.trim.setPoint) ∧
       (s.trim.sending = true → t.trim.outputPending = true) ∧
       KeptBut [.trim, .control] s t ∧ CausesKeptBut [] s t)

/-! ### Host writes to the book -/

/-- A write to the boom word is kept and sets the boom hold, and a change to MOVING returns the settle count to 0. A write to
the bin-emptied word sets the reject bin count to 0 while no eject is in progress, and is discarded while one is; the word
stores no value. -/
def Obligations.HeaderWordsTakeEffect : Prop :=
  (∀ (v : Word) (s : State), BookWf s →
    ∃ t, exec (.boomWordWrite v) s = .next t ∧ StoresWord boomWordAddr v s t ∧
      t.control = { s.control with boomMoving := decide (v ≠ 0) } ∧
      (v ≠ 0 → s.control.boomMoving = false → t.trim = { s.trim with settleCount := 0 }) ∧
      (v = 0 ∨ s.control.boomMoving = true → t.trim = s.trim) ∧
      KeptBut [.bytes, .control, .trim] s t ∧ CausesKeptBut [] s t) ∧
  (∀ v s, s.head.bay.state ≠ .ejecting → s.head.gripper.state ≠ .ejecting →
    ∃ t, exec (.binEmptiedWrite v) s = .next t ∧ t.head = { s.head with binCount := 0 } ∧
      (s.word binEmptiedAddr = 0 → t.word binEmptiedAddr = 0) ∧ KeptBut [.head] s t ∧ CausesKeptBut [] s t) ∧
  (∀ v s, s.head.bay.state = .ejecting ∨ s.head.gripper.state = .ejecting → Discarded (.binEmptiedWrite v) s)

/-- A partial write, a write to a spare word, to the no-decode range, to the status block or to the layout version, and every
write but CONFIRM to a word of an entry in flight is discarded; an ignored register write changes nothing at all. A state
code that no row of its own takes (FREE, POSTED, CANCELLED and CONFIRM of an entry and EMPTY, OPEN and CLOSE_REQUEST of a course
record have theirs) is accepted without effect where the record holds it already, in LAID, PROBED and FAILED of an entry and in
CLOSED of a course record, and is discarded everywhere else. -/
def Obligations.ProtectedWordsTakeNoWrite : Prop :=
  (∀ o lanes v s, Discarded (.partialBookWrite o lanes v) s) ∧ (∀ o v s, Discarded (.spareWordWrite o v) s) ∧
    (∀ o v s, Discarded (.statusBlockWrite o v) s) ∧ (∀ v s, Discarded (.layoutVersionWrite v) s) ∧
    (∀ r lanes v s, NoEffect (.ignoredRegisterWrite r lanes v) s) ∧
  (∀ (c : Instr) (i : EntryIx) (s : State), WritesEntry i c → InFlight s i → Discarded c s) ∧
  (∀ i e code s, Instr.wellFormed (.stateWriteDiscarded (.entry i) code) = true →
    s.entryState i = some e → e.inFlight = false → s.entryCode i = code →
    NoEffect (.stateWriteDiscarded (.entry i) code) s) ∧
  (∀ i code s, Instr.wellFormed (.stateWriteDiscarded (.entry i) code) = true →
    InFlight s i ∨ s.entryCode i ≠ code → Discarded (.stateWriteDiscarded (.entry i) code) s) ∧
  (∀ k e code s, Instr.wellFormed (.stateWriteDiscarded (.course k) code) = true →
    s.courseState k = some e → e ≠ .active → s.courseCode k = code →
    NoEffect (.stateWriteDiscarded (.course k) code) s) ∧
  (∀ k code s, Instr.wellFormed (.stateWriteDiscarded (.course k) code) = true →
    s.courseState k = some .active ∨ s.courseCode k ≠ code → Discarded (.stateWriteDiscarded (.course k) code) s)

/-- A POSTED write to a FREE entry clears its part-written fields and leaves it POSTED; under a close request the entry is
cancelled at once and counted, in the update of log entry 8. To a POSTED entry it does nothing, and to any other it is
discarded. -/
def Obligations.PostingClearsPartFields : Prop :=
  (∀ i s, BookWf s → s.entryState i = some .free → ¬UnderCloseRequest s i →
    ∃ t, exec (.entryPostWrite i) s = .next t ∧ t.entryState i = some .posted ∧
      (∀ j, 7 ≤ j → j ≤ 13 → t.word (entryAddr i j) = 0) ∧
      BytesKeptOutside [(entryAddr i 0, 4), (entryAddr i 7, 28)] s t ∧ KeptBut [.bytes] s t ∧ CausesKeptBut [] s t) ∧
  (∀ i s, BookWf s → s.entryState i = some .free → UnderCloseRequest s i →
    ∃ t, exec (.entryPostWrite i) s = .next t ∧ t.entryState i = some .cancelled ∧
      t.word (entryAddr i 7) = BitVec.ofNat 32 (resultCodeOf .cancelled * 65536) ∧ t.word (entryAddr i 13) = s.time ∧
      (∀ j, 8 ≤ j → j ≤ 12 → t.word (entryAddr i j) = 0) ∧ CancelCounted i s t ∧
      CountedBytes i [(entryAddr i 0, 4), (entryAddr i 7, 28)] s t ∧ KeptBut [.bytes, .seq] s t ∧
      CausesKeptBut [.courseClosed] s t) ∧
  (∀ i s, s.entryState i = some .posted → NoEffect (.entryPostWrite i) s) ∧
  (∀ i e s, s.entryState i = some e → e ≠ .free → e ≠ .posted → Discarded (.entryPostWrite i) s)

/-- A FREE write frees a POSTED entry, and a terminal entry unless the course that its slot field names is ACTIVE and holds
it; to a FREE entry it does nothing. A terminal entry of the active range whose slot field names another slot is taken back
out of the counts: remaining rises by 1, its state's count falls by 1, and its deviation, or its applied probe with the Zc of
mode PROBE, goes. Under a close request the entry is cancelled at once and counted, in the updates of log entry 8. That
SUPPLY_STARVED is not raised again where a starved LAY candidate is freed and another LAY candidate stands at once is the
model's reading (log entry 41). -/
def Obligations.FreeWriteGivesTheRoomBack : Prop :=
  (∀ i s, BookWf s → s.entryState i = some .posted → ¬UnderCloseRequest s i →
    ∃ t, exec (.entryFreeWrite i) s = .next t ∧ t.entryState i = some .free ∧
      BytesKeptOutside [(entryAddr i 0, 4)] s t ∧ KeptBut [.bytes] s t ∧ CausesKeptBut [] s t) ∧
  (∀ i s, BookWf s → s.entryState i = some .posted → UnderCloseRequest s i →
    ∃ t, exec (.entryFreeWrite i) s = .next t ∧ t.entryState i = some .cancelled ∧ ResultOf i .cancelled s t ∧
      t.word (entryAddr i 13) = s.time ∧ CancelCounted i s t ∧ CountedBytes i (terminalWords i) s t ∧
      KeptBut [.bytes, .seq] s t ∧ CausesKeptBut [.courseClosed] s t) ∧
  (∀ i e s, BookWf s → s.entryState i = some e → e.terminal = true → Uncounted s i → s.heldByActive i = false →
    ∃ t, exec (.entryFreeWrite i) s = .next t ∧ t.entryState i = some .free ∧
      BytesKeptOutside [(entryAddr i 0, 4)] s t ∧ KeptBut [.bytes] s t ∧ CausesKeptBut [] s t) ∧
  (∀ i s, s.entryState i = some .free → NoEffect (.entryFreeWrite i) s) ∧
  (∀ i e k s, s.entryState i = some e → e.terminal = true → s.entrySlot i = k.val → s.courseState k = some .active →
    s.inCourse k i = true → Discarded (.entryFreeWrite i) s) ∧
  (∀ i e k f s, BookWf s → s.entryState i = some e → e.terminal = true → InActive s k i → s.heldByActive i = false →
    s.seq.closeMark = false → (s.courseFigures k).remaining < 65535 → TakesOut s k i e f →
    ∃ t, exec (.entryFreeWrite i) s = .next t ∧ t.entryState i = some .free ∧
      t.word (courseAddr k 0) = s.word (courseAddr k 0) + 2 ∧ SameCounts f (t.courseFigures k) ∧
      ((e = .probed → s.entryApply i = true → (s.courseFigures k).applied ≠ 0) → FiguresFit f → t.courseFigures k = f) ∧
      BytesKeptOutside [(entryAddr i 0, 4), (courseAddr k 0, 64)] s t ∧ KeptBut [.bytes] s t ∧ CausesKeptBut [] s t) ∧
  (∀ i e k f g s, BookWf s → s.entryState i = some e → e.terminal = true → InActive s k i → s.heldByActive i = false →
    s.seq.closeMark = true → (s.courseFigures k).remaining < 65535 → (s.courseFigures k).cancelled < 65535 →
    TakesOut s k i e f → g = { f with remaining := f.remaining - 1, cancelled := f.cancelled + 1 } →
    ∃ t, exec (.entryFreeWrite i) s = .next t ∧ t.entryState i = some .cancelled ∧ ResultOf i .cancelled s t ∧
      t.word (entryAddr i 13) = s.time ∧ SameCounts g (t.courseFigures k) ∧
      ((e = .probed → s.entryApply i = true → (s.courseFigures k).applied ≠ 0) → FiguresFit f → FiguresFit g →
        t.courseFigures k = g) ∧
      (g.remaining ≠ 0 → t.seq = s.seq ∧ t.word (courseAddr k 0) = s.word (courseAddr k 0) + 4 ∧ CausesKeptBut [] s t) ∧
      (g.remaining = 0 → t.seq.active = none ∧ t.courseState k = some .closed ∧ hasCause t .courseClosed = true) ∧
      BytesKeptOutside ((courseAddr k 0, 64) :: terminalWords i) s t ∧ KeptBut [.bytes, .seq] s t ∧
      CausesKeptBut [.courseClosed] s t)

/-- A CANCELLED write cancels a FREE or POSTED entry; in the active range the course counts it, and closes when nothing
remains. To a CANCELLED entry it does nothing, and to any other terminal entry it is discarded. That a closing is an update
of the course record of its own, so that the update count rises by 4, is the model's choice (log entry 8); that SUPPLY_STARVED
is not raised again where a starved LAY candidate is cancelled and another stands at once is its reading (log entry 41). -/
def Obligations.CancelledEntryIsCounted : Prop :=
  (∀ i s, BookWf s → s.entryState i = some .free ∨ s.entryState i = some .posted →
    ∃ t, exec (.entryCancelWrite i) s = .next t ∧ t.entryState i = some .cancelled ∧ ResultOf i .cancelled s t ∧
      t.word (entryAddr i 13) = s.time ∧ KeptBut [.bytes, .seq] s t ∧
      (Uncounted s i → t.seq = s.seq ∧ BytesKeptOutside (terminalWords i) s t ∧ CausesKeptBut [] s t) ∧
      (∀ k f, InActive s k i →
        f = { s.courseFigures k with
          remaining := (s.courseFigures k).remaining - 1, cancelled := (s.courseFigures k).cancelled + 1 } →
        FiguresFit f →
        TakesFigures k f s t ∧ BytesKeptOutside ((courseAddr k 0, 64) :: terminalWords i) s t ∧
          CausesKeptBut [.courseClosed] s t)) ∧
  (∀ i s, s.entryState i = some .cancelled → NoEffect (.entryCancelWrite i) s) ∧
  (∀ i e s, s.entryState i = some e → e.terminal = true → e ≠ .cancelled → Discarded (.entryCancelWrite i) s)

/-- CONFIRM is accepted for a LAY entry with HOLD in PLACING, and sets the confirm mark while the gripper content is that
entry; every other CONFIRM is discarded. -/
def Obligations.ConfirmSetsTheMark : Prop :=
  (∀ i s, s.entryState i = some .placing → s.entryKind i = kindLay → s.entryHold i = true →
    ∃ t, exec (.confirm i) s = .next t ∧
      (s.head.gripper.content = .entry i →
        t.head = { s.head with gripper := { s.head.gripper with confirm := true } }) ∧
      (s.head.gripper.content ≠ .entry i → t.head = s.head) ∧ KeptBut [.head] s t ∧ CausesKeptBut [] s t) ∧
  (∀ i s, s.entryState i ≠ some .placing ∨ s.entryKind i ≠ kindLay ∨ s.entryHold i = false → Discarded (.confirm i) s)

/-- A write to another word of an entry that is not in flight is kept in the word's fields, and its other bits read 0. Writes
to the jog words, the profile words and, while no commit is busy, the calibration image are kept as written; while a commit is
busy a write to the image is discarded. -/
def Obligations.FieldWritesAreKept : Prop :=
  (∀ i w v e s, BookWf s → s.entryState i = some e → e.inFlight = false →
    ∃ t, exec (.entryFieldWrite i w v) s = .next t ∧
      StoresWord (entryAddr i (entryWordNumber w)) (v &&& entryWordMask w) s t ∧ KeptBut [.bytes] s t ∧
      CausesKeptBut [] s t) ∧
  (∀ axis v s, BookWf s → ∃ t, exec (.jogWordWrite axis v) s = .next t ∧ StoresWord (jogAddr axis) v s t ∧
    KeptBut [.bytes] s t ∧ CausesKeptBut [] s t) ∧
  (∀ f v s, BookWf s → ∃ t, exec (.profileWordWrite f v) s = .next t ∧ StoresWord (profileAddr f) v s t ∧
    KeptBut [.bytes] s t ∧ CausesKeptBut [] s t) ∧
  (∀ j v s, BookWf s → s.cal.busy = false → ∃ t, exec (.calImageWrite j v) s = .next t ∧
    StoresWord (imageAddr j.val) v s t ∧ KeptBut [.bytes] s t ∧ CausesKeptBut [] s t) ∧
  (∀ j v s, s.cal.busy = true → Discarded (.calImageWrite j v) s)

/-- OPEN is accepted in EMPTY, and EMPTY in OPEN and CLOSED; the code already held does nothing; every other such write is
discarded. A write to another word of a course record that is not ACTIVE is kept, but for the update count; of an ACTIVE
record it is discarded. -/
def Obligations.CourseRecordTakesHostWrites : Prop :=
  (∀ k s, BookWf s → s.courseState k = some .empty →
    ∃ t, exec (.courseOpenWrite k) s = .next t ∧ StoresWord (courseAddr k 1) 1 s t ∧ t.courseState k = some .opened ∧
      KeptBut [.bytes] s t ∧ CausesKeptBut [] s t) ∧
  (∀ k s, BookWf s → s.courseState k = some .opened ∨ s.courseState k = some .closed →
    ∃ t, exec (.courseEmptyWrite k) s = .next t ∧ StoresWord (courseAddr k 1) 0 s t ∧ t.courseState k = some .empty ∧
      KeptBut [.bytes] s t ∧ CausesKeptBut [] s t) ∧
  (∀ k s, s.courseState k = some .opened → NoEffect (.courseOpenWrite k) s) ∧
  (∀ k s, s.courseState k = some .empty → NoEffect (.courseEmptyWrite k) s) ∧
  (∀ k s, s.courseState k = some .active ∨ s.courseState k = some .closed → Discarded (.courseOpenWrite k) s) ∧
  (∀ k s, s.courseState k = some .active → Discarded (.courseEmptyWrite k) s) ∧
  (∀ k w v e s, BookWf s → s.courseState k = some e → e ≠ .active → w ≠ .updateCount →
    ∃ t, exec (.courseFieldWrite k w v) s = .next t ∧
      StoresWord (courseAddr k (courseWordNumber w)) (v &&& courseWordMask w) s t ∧ KeptBut [.bytes] s t ∧
      CausesKeptBut [] s t) ∧
  (∀ k w v s, s.courseState k = some .active ∨ w = .updateCount → Discarded (.courseFieldWrite k w v) s)

/-- CLOSE_REQUEST to the ACTIVE record sets the mark and cancels every FREE and POSTED entry of the range: each such entry
is counted, and the course closes when nothing else remains. With the mark set it does nothing; to a record that is not
ACTIVE it is discarded. -/
def Obligations.CloseRequestCancelsOpenEntries : Prop :=
  (∀ k n s, BookWf s → s.courseState k = some .active → s.seq.active = some k → s.seq.closeMark = false →
    n = ((s.courseEntries k).filter fun i => s.entryState i = some .free ∨ s.entryState i = some .posted).length →
    ∃ t, exec (.closeRequest k) s = .next t ∧ KeptBut [.bytes, .seq] s t ∧ CausesKeptBut [.courseClosed] s t ∧
      (∀ i, s.inCourse k i = true → s.entryState i = some .free ∨ s.entryState i = some .posted →
        t.entryState i = some .cancelled ∧ ResultOf i .cancelled s t ∧ t.word (entryAddr i 13) = s.time) ∧
      (∀ i j, j < 16 → s.inCourse k i = false ∨ (s.entryState i ≠ some .free ∧ s.entryState i ≠ some .posted) →
        t.word (entryAddr i j) = s.word (entryAddr i j)) ∧
      BytesKeptOutside ((courseAddr k 0, 64) :: (s.courseEntries k).flatMap terminalWords) s t ∧
      (n < (s.courseFigures k).remaining → (s.courseFigures k).cancelled + n < 65536 →
        t.seq = { s.seq with closeMark := true } ∧ t.courseState k = some .active ∧
          t.courseFigures k = { s.courseFigures k with
            remaining := (s.courseFigures k).remaining - n, cancelled := (s.courseFigures k).cancelled + n } ∧
          CausesKeptBut [] s t) ∧
      (n = (s.courseFigures k).remaining → n ≠ 0 →
        t.seq.active = none ∧ t.seq.closeMark = false ∧ t.seq.pointer = s.seq.pointer + 1 ∧
          t.courseState k = some .closed ∧ (t.courseFigures k).remaining = 0 ∧ hasCause t .courseClosed = true)) ∧
  (∀ k s, s.courseState k = some .active → s.seq.closeMark = true → NoEffect (.closeRequest k) s) ∧
  (∀ k s, s.courseState k ≠ some .active → Discarded (.closeRequest k) s)

/-! ### The register window -/

/-- A read of CAUSE returns the set bits of the bytes read and clears exactly those. A 1 written to a bit of MASK_SET sets the
bit of MASK, and a 1 written to a bit of MASK_CLEAR clears it; the cause bits stand. -/
def Obligations.CauseReadsClearAndMaskWritesSet : Prop :=
  (∀ lanes s, ∃ t, exec (.causeRead lanes) s = .next t ∧
     t.host.readData = s.host.cause.setWidth 32 &&& laneMask lanes ∧
     (∀ c, c ≠ .supplyStarved →
       hasCause t c = (hasCause s c && !(laneMask lanes).getLsbD (causeBit c))) ∧
     hasCause t .supplyStarved =
       ((hasCause s .supplyStarved && !(laneMask lanes).getLsbD (causeBit .supplyStarved)) || starvedAnew s t) ∧
     KeptBut [.readData] s t) ∧
  (∀ v s, ∃ t, exec (.maskSet v) s = .next t ∧
    (∀ n, n < 17 → t.host.mask.getLsbD n = (s.host.mask.getLsbD n || v.getLsbD n)) ∧ KeptBut [.mask] s t ∧
    CausesKeptBut [] s t) ∧
  (∀ v s, ∃ t, exec (.maskClear v) s = .next t ∧
    (∀ n, n < 17 → t.host.mask.getLsbD n = (s.host.mask.getLsbD n && !v.getLsbD n)) ∧ KeptBut [.mask] s t ∧
    CausesKeptBut [] s t)

/-- The host's reads. A register reads the values that stand: IDENT, the request level in CONTROL, STATE, CAUSE, MASK and
TIME; MASK_SET and MASK_CLEAR read 0. A book word reads as it is stored, and in the status block the update count and the
fields of 11.5 show their owners' state. A narrower read returns the bytes it asks for, each in its place; the 0 in the
others is the model's (log entry 24). The premise of the status block is what StepsKeepTheOutputsDerived keeps. -/
def Obligations.HostReadsShowTheState : Prop :=
  (∀ s : State, s.readRegister .ident = 0x04160003 ∧
    (s.readRegister .control).toNat = bitValue s.control.manualRequest 8 ∧
    (s.readRegister .state).toNat =
      (match s.control.state with
        | .init => 0 | .idle => 1 | .run => 2 | .drain => 3 | .halt => 4) +
      bitValue s.control.manualGrant 8 + bitValue s.cal.valid 9 + bitValue s.cal.busy 10 +
      bitValue s.control.emergency 11 + bitValue s.line.complete 12 ∧
    s.readRegister .cause = s.host.cause.setWidth 32 ∧ s.readRegister .mask = s.host.mask.setWidth 32 ∧
    s.readRegister .maskSet = 0 ∧ s.readRegister .maskClear = 0 ∧ s.readRegister .time = s.time) ∧
  (∀ (s : State) (r : WindowRegister) (a n : Nat) (lanes : BitVec 4), n < 32 →
    (s.readRegisterBytes r lanes).getLsbD n = ((s.readRegister r).getLsbD n && lanes.getLsbD (n / 8)) ∧
    (s.hostRead a lanes).getLsbD n = ((s.hostReadWord a).getLsbD n && lanes.getLsbD (n / 8))) ∧
  (∀ (s : State) (a : Nat), a < 0x0500 ∨ 0x0600 ≤ a → s.hostReadWord a = s.word a) ∧
  (∀ s : State, s.status.fields = s.statusNow →
    s.hostReadWord 0x0500 = s.status.count ∧ (s.hostReadWord 0x0504).toNat = s.seq.pointer.val ∧
    (s.hostReadWord 0x0508).toNat = s.seq.lastLaid.toNat ∧ s.hostReadWord 0x050C = s.seq.lastSum ∧
    (s.train.queue.length < 256 →
      field (s.hostReadWord 0x0510) 0 8 = s.train.queue.length ∧
      field (s.hostReadWord 0x0510) 8 8 = (s.train.queue.filter fun c => c.content = none).length ∧
      (s.issue.starved = true → field (s.hostReadWord 0x0510) 16 16 = 2) ∧
      (s.issue.starved = false → (∃ f, (s.line.at (feederPosition f)).state = .held) →
        field (s.hostReadWord 0x0510) 16 16 = 1) ∧
      (s.issue.starved = false → (∀ f, (s.line.at (feederPosition f)).state ≠ .held) →
        field (s.hostReadWord 0x0510) 16 16 = 0)) ∧
    ShowsIndex (s.hostReadWord 0x0514) s.trim.reach ∧
    (s.head.binCount < 256 → field (s.hostReadWord 0x0518) 0 8 = s.head.binCount ∧
      field (s.hostReadWord 0x0518) 8 24 = (match s.tracker.state with
        | .lost => 0 | .acquiring => 1 | .tracking => 2 | .unsteady => 3)) ∧
    (s.hostReadWord 0x051C = s.tracker.priming ∧ s.hostReadWord 0x0520 = s.tracker.accepted ∧
      s.hostReadWord 0x0524 = s.tracker.corrected ∧ s.hostReadWord 0x0528 = s.tracker.rejected ∧
      s.hostReadWord 0x052C = s.tracker.unstable ∧ s.hostReadWord 0x0530 = s.tracker.malformed ∧
      s.hostReadWord 0x0534 = s.tracker.nofix ∧ s.hostReadWord 0x0538 = s.tracker.gaps) ∧
    (s.hostReadWord 0x053C = BitVec.ofInt 32 s.tracker.lastPose.x ∧
      s.hostReadWord 0x0540 = BitVec.ofInt 32 s.tracker.lastPose.y ∧
      s.hostReadWord 0x0544 = BitVec.ofInt 32 s.tracker.lastPose.z ∧
      s.hostReadWord 0x0548 = BitVec.ofInt 32 s.tracker.lastPose.yaw) ∧
    (s.hostReadWord 0x054C).toNat = (match s.tracker.lastClass with
      | none => 0 | some .priming => 1 | some .accepted => 2 | some .corrected => 3 | some .rejected => 4
      | some .unstable => 5) ∧
    ShowsStation (s.hostReadWord 0x0550) (s.hostReadWord 0x0554) s.line.feederA ∧
    ShowsStation (s.hostReadWord 0x0558) (s.hostReadWord 0x055C) s.line.feederB ∧
    ShowsStation (s.hostReadWord 0x0560) (s.hostReadWord 0x0564) s.line.spreader ∧
    ShowsStation (s.hostReadWord 0x0568) (s.hostReadWord 0x056C) s.line.gripper ∧
    field (s.hostReadWord 0x0570) 0 8 = (match s.head.bay.state with
      | .empty => 0 | .arrived => 1 | .spreading => 2 | .spread => 3 | .ejecting => 4) ∧
    field (s.hostReadWord 0x0570) 8 24 = (match s.head.gripper.state with
      | .empty => 0 | .taking => 1 | .holding => 2 | .releasing => 3 | .probing => 4 | .ejecting => 5) ∧
    ShowsContent (s.hostReadWord 0x0574) s.head.bay.content ∧
    ShowsContent (s.hostReadWord 0x0578) s.head.gripper.content ∧ s.hostReadWord 0x057C = s.head.lastTransit ∧
    ShowsIndex (s.hostReadWord 0x0580) s.head.lastVoidRelease ∧
    ∀ j, j < 31 → s.hostReadWord (0x0584 + 4 * j) = 0)

/-! ### Courses -/

/-- A latch takes each profile word as it stands when it reads it: with the host writes that it sees, and without those served
behind its read. A value outside the field's range gives the nearer end of the range; the unsteady-off threshold is held below
the on threshold latched with it; codes outside the tables are taken as HOLD_ONLY, feeder A and early spread on. -/
def Obligations.LatchTakesTheClampedProfile : Prop :=
  ∀ during s v p, BookWf s → v = (fun f => latchedWord s during f) → p = s.latchedProfile during →
    (Clamped 1 100 (v .toleranceXY).toInt p.toleranceXY ∧ Clamped 1 100 (v .toleranceZ).toInt p.toleranceZ ∧
      Clamped 1 500 (v .toleranceYaw).toInt p.toleranceYaw) ∧
    (Clamped 1 200 (v .slewXY).toInt p.slewXY ∧ Clamped 1 200 (v .slewZ).toInt p.slewZ ∧
      Clamped 1 200 (v .slewYaw).toInt p.slewYaw) ∧
    (Clamped 1 500 (v .windowXYZ).toInt p.windowXYZ ∧ Clamped 1 1000 (v .windowYaw).toInt p.windowYaw) ∧
    (Clamped 1 63 (v .settleCount).toInt p.settleCount ∧ Clamped 100 60000 (v .settleLimit).toInt p.settleLimit ∧
      Clamped 16 1024 (v .reachCount).toInt p.reachCount ∧ Clamped 3 14 (v .lossExponent).toInt p.lossExponent ∧
      Clamped 0 60000 (v .restartDelay).toInt p.restartDelay) ∧
    (Clamped 2 16 (v .unsteadyOn).toInt p.unsteadyOn ∧
      ∀ off : Int, Clamped 0 15 (v .unsteadyOff).toInt off →
        (off < p.unsteadyOn → p.unsteadyOff = off) ∧ (p.unsteadyOn ≤ off → (p.unsteadyOff : Int) = p.unsteadyOn - 1)) ∧
    (Clamped 10 900 (v .openTime).toInt p.openTime ∧ Clamped 2 60 (v .transitLimit).toInt p.transitLimit ∧
      Clamped 5 100 (v .workingPoll).toInt p.workingPoll ∧ Clamped 0 100 (v .zmax).toInt p.zmax ∧
      Clamped 50 1000 (v .probeClearance).toInt p.probeClearance) ∧
    ((v .recoveryMode = 1 → p.recoveryMode = .holdThenFail) ∧ (v .recoveryMode = 2 → p.recoveryMode = .fail) ∧
      (v .recoveryMode ≠ 1 → v .recoveryMode ≠ 2 → p.recoveryMode = .holdOnly)) ∧
    ((v .preferredFeeder = 1 → p.preferredFeeder = .b) ∧ (v .preferredFeeder ≠ 1 → p.preferredFeeder = .a)) ∧
    (p.earlySpread = true ↔ v .earlySpread ≠ 0)

/-- Activation of a valid range latches the profile, rebuilds counts, sums and maxima from the entries of the range, fixes Zc by
the correction mode and makes the record ACTIVE, or closes it at once when nothing remains. The profile words keep what the
host writes to them during the latch. A FREE write to a terminal entry of the range that is served while activation runs,
after it has read the entry, takes the entry back out of the figures; a CANCELLED write so served to a FREE or POSTED entry
counts it; Zc is fixed from the figures that result. A loss timer already at or beyond the loss delay so latched expires at
the latch. -/
def Obligations.ActivationOpensAValidCourse : Prop :=
  (∀ k during p s, BookWf s → ActivationDue s during → s.seq.pointer = k → RangeValid s k →
    p = s.latchedProfile during →
      ∃ t f, exec (.courseActivation ⟨during, []⟩) s = .next t ∧ CountsRange s k f ∧ ActivatedWith k f p.zmax s t ∧
        StandsActivated k p f s t ∧ KeepsWrites during s t ∧ BytesKeptOutside ((courseAddr k 0, 64) :: latchAreas during) s t ∧
        KeptBut [.bytes, .seq] s t) ∧
  (∀ k during i e f g p s, BookWf s → ActivationDue s during → s.seq.pointer = k → RangeValid s k →
    s.inCourse k i = true → s.entryState i = some e → e.terminal = true → CountsRange s k f → g = takenOut s i e f →
    p = s.latchedProfile during →
    ∃ t, exec (.courseActivation ⟨during, [.free i]⟩) s = .next t ∧ t.entryState i = some .free ∧
      t.courseState k = some .active ∧ ActivatedWith k g p.zmax s t ∧ StandsActivated k p g s t ∧
      KeepsWrites during s t ∧ BytesKeptOutside ((entryAddr i 0, 4) :: (courseAddr k 0, 64) :: latchAreas during) s t ∧
      KeptBut [.bytes, .seq] s t ∧ CausesKeptBut [] s t) ∧
  (∀ k during i f g p s, BookWf s → ActivationDue s during → s.seq.pointer = k → RangeValid s k → s.inCourse k i = true →
    s.entryState i = some .free ∨ s.entryState i = some .posted → CountsRange s k f →
    g = { f with remaining := f.remaining - 1, cancelled := f.cancelled + 1 } → p = s.latchedProfile during →
    ∃ t, exec (.courseActivation ⟨during, [.cancel i]⟩) s = .next t ∧ t.entryState i = some .cancelled ∧
      ResultOf i .cancelled s t ∧ t.word (entryAddr i 13) = s.time ∧
      ActivatedWith k g p.zmax s t ∧ StandsActivated k p g s t ∧ KeepsWrites during s t ∧
      BytesKeptOutside ((courseAddr k 0, 64) :: terminalWords i ++ latchAreas during) s t ∧
      KeptBut [.bytes, .seq] s t ∧ CausesKeptBut [.courseClosed] s t) ∧
  (∀ during late n p s, s.control.state = .run → s.seq.active = none →
    s.courseState s.seq.pointer = some .opened → p = s.latchedProfile during → s.tracker.lossTimer = some n →
    2 ^ p.lossExponent ≤ n →
    ∃ t, exec (.courseActivation ⟨during, late⟩) s = .next t ∧ t.seq.profile = p ∧
      t.tracker = { s.tracker with state := .lost, history := [], window := [], lossTimer := none } ∧
      hasCause t .trackLost = true ∧ t.trim.settleCount = 0)

/-- Activation of an invalid range closes the course at once: INVALID_RANGE, every figure 0, both time stamps, a zero
last-closed summary, the next pointer and COURSE_CLOSED. -/
def Obligations.ActivationClosesAnInvalidCourse : Prop :=
  ∀ k during s, BookWf s → ActivationDue s during → s.seq.pointer = k → ¬RangeValid s k →
    ∃ t, exec (.courseActivation ⟨during, []⟩) s = .next t ∧ t.courseState k = some .closed ∧
      t.word (courseAddr k 5) = courseInvalidRange ∧ t.courseFigures k = .zero ∧
      t.word (courseAddr k 14) = s.time ∧ t.word (courseAddr k 15) = s.time ∧
      t.word (courseAddr k 0) = s.word (courseAddr k 0) + 2 ∧
      t.seq = { s.seq with
        profile := s.latchedProfile during, lastLaid := 0, lastSum := 0, pointer := k + 1 } ∧
      hasCause t .courseClosed = true ∧ KeepsWrites during s t ∧
      BytesKeptOutside ((courseAddr k 0, 64) :: latchAreas during) s t ∧ KeptBut [.bytes, .seq] s t ∧
      CausesKeptBut [.courseClosed] s t

/-! ### Takes and feeds -/

/-- A take of a valid candidate writes ISSUED and appends its record, whatever kind was read when it was chosen; a LAY entry
needs its room and a READY feeder, and sets the feed-pending record for it; a candidate that is LAY, or was read as LAY,
waits for them. Without a candidate nothing is taken: no entry of the range reads POSTED, or a strict-order course waits on an
entry before the lowest that does. -/
def Obligations.TakeIssuesTheCandidate : Prop :=
  (∀ k i f kind s, BookWf s → MayTake s k → Candidate s k i → ValidEntry s k i → s.entryKind i = kindLay → LayRoom s →
    ChosenFeeder s f →
    ∃ t, exec (.entryTake kind) s = .next t ∧ t.entryState i = some .issued ∧
      t.issue.list = s.issue.list ++ [latchedRecord s i .lay .feed] ∧
      t.issue.feed = some ⟨some i, none, f, (latchedRecord s i .lay .feed).cutLength, .requested⟩ ∧
      BytesKeptOutside [(entryAddr i 0, 4)] s t ∧ KeptBut [.bytes, .list, .feed] s t ∧ CausesKeptBut [] s t) ∧
  (∀ k i kind s, BookWf s → MayTake s k → Candidate s k i → ValidEntry s k i → s.entryKind i = kindProbe →
    (kind.toNat = kindLay → LayRoom s ∧ ∃ f, FeederReady s f) →
    ∃ t, exec (.entryTake kind) s = .next t ∧ t.entryState i = some .issued ∧
      t.issue.list = s.issue.list ++ [latchedRecord s i .probe .none] ∧
      BytesKeptOutside [(entryAddr i 0, 4)] s t ∧ KeptBut [.bytes, .list] s t ∧ CausesKeptBut [] s t) ∧
  (∀ k i kind s, MayTake s k → Candidate s k i → s.entryKind i = kindLay ∨ kind.toNat = kindLay →
    ¬LayRoom s ∨ (∀ f, ¬FeederReady s f) → NoEffect (.entryTake kind) s) ∧
  (∀ k kind s, MayTake s k → (∀ i, ¬Chosen s k i) → NoEffect (.entryTake kind) s) ∧
  (∀ kind s, (∀ k, ¬MayTake s k) → NoEffect (.entryTake kind) s)

/-- A candidate that fails a check at take is FAILED with INVALID and counted, raises ENTRY_FAILED, and uses no attempt; no
record is appended and no feed ordered. That a closing is an update of the course record of its own is the model's choice
(log entry 8). -/
def Obligations.InvalidEntryFailsAtTake : Prop :=
  ∀ k i kind s, BookWf s → MayTake s k → Candidate s k i → ¬ValidEntry s k i →
    (s.entryKind i = kindLay ∨ kind.toNat = kindLay → LayRoom s ∧ ∃ f, FeederReady s f) →
    ∃ t, exec (.entryTake kind) s = .next t ∧ t.entryState i = some .failed ∧ ResultOf i .invalid s t ∧
      t.word (entryAddr i 13) = s.time ∧ hasCause t .entryFailed = true ∧
      (∀ f, f = { s.courseFigures k with
          remaining := (s.courseFigures k).remaining - 1, failed := (s.courseFigures k).failed + 1 } →
        FiguresFit f → TakesFigures k f s t) ∧
      BytesKeptOutside ((courseAddr k 0, 64) :: terminalWords i) s t ∧ KeptBut [.bytes, .seq] s t ∧
      CausesKeptBut [.entryFailed, .courseClosed] s t

/-- With the feed-pending record clear and a feeder READY, the LAY record with brick location NONE gets its feed ordered
again; with none READY it waits. -/
def Obligations.RefeedOrdersTheFeed : Prop :=
  (∀ s l1 r l2 f, s.issue.feed = none → s.issue.list = l1 ++ r :: l2 → (∀ x ∈ l1, ¬NeedsFeed x) → NeedsFeed r →
    DistinctEntries s → ChosenFeeder s f →
    ∃ t, exec .refeed s = .next t ∧ t.issue.feed = some ⟨some r.entry, none, f, r.cutLength, .requested⟩ ∧
      t.issue.list = l1 ++ { r with location := .feed } :: l2 ∧ KeptBut [.list, .feed] s t ∧ CausesKeptBut [] s t) ∧
  (∀ s, s.issue.feed ≠ none ∨ (∀ r ∈ s.issue.list, ¬NeedsFeed r) ∨ (∀ f, ¬FeederReady s f) → NoEffect .refeed s)

/-! ### Failing attempts -/

/-- The settle limit, the open time at the gripper and in the bay, and the restart delay each fail the attempt when their
timer has run to its latched limit: the place is voided, and the entry is retried, or fails finally and is counted. Under a
close request a retry is cancelled at once. A retry in a strict-order course is StrictRetryDisplacesTheRecordsBehind's; a
final failure displaces nothing. That a closing is an update of the course record of its own is the model's choice (log
entry 8). -/
def Obligations.TimersFailTheAttempt : Prop :=
  (∀ r c reason s, BookWf s → DistinctEntries s → r ∈ s.issue.list → ¬UnderCloseRequest s r.entry →
    s.activeStrict = false ∨ r.maxAttempts ≤ r.attemptsUsed + 1 → HeldTimerDue r c reason s →
    ∃ t, exec c s = .next t ∧ AttemptFailed r reason s t ∧ FailureCounted r s t ∧ GripperGivenUp s t ∧
      t.head.restartTimer = none ∧ t.head.bay = s.head.bay ∧
      t.issue.list = s.issue.list.filter (fun x => x.entry ≠ r.entry) ∧
      CountedBytes r.entry (terminalWords r.entry) s t ∧ KeptBut [.bytes, .seq, .list, .trim, .head] s t ∧
      CausesKeptBut [.entryFailed, .courseClosed] s t) ∧
  (∀ r s, BookWf s → DistinctEntries s → r ∈ s.issue.list → ¬UnderCloseRequest s r.entry →
    s.activeStrict = false ∨ r.maxAttempts ≤ r.attemptsUsed + 1 → BayTimerDue r s →
    ∃ t, exec (.openTimeExpiry .bay) s = .next t ∧ AttemptFailed r .openTime s t ∧ FailureCounted r s t ∧
      BayVoided s t ∧
      (s.head.gripper.state ≠ .taking →
        t.head = { s.head with bay := { s.head.bay with content := .void (some r.entry), openTimer := none } } ∧
          t.line = s.line) ∧
      t.issue.list = s.issue.list.filter (fun x => x.entry ≠ r.entry) ∧
      CountedBytes r.entry (terminalWords r.entry) s t ∧ KeptBut [.bytes, .seq, .list, .line, .head] s t ∧
      CausesKeptBut [.entryFailed, .courseClosed] s t) ∧
  (∀ r c reason s, BookWf s → DistinctEntries s → r ∈ s.issue.list → UnderCloseRequest s r.entry →
    HeldTimerDue r c reason s →
    ∃ t, exec c s = .next t ∧ FailedUnderCloseRequest r reason s t ∧ GripperGivenUp s t ∧
      ∀ x ∈ t.issue.list, x.entry ≠ r.entry) ∧
  (∀ r s, BookWf s → DistinctEntries s → r ∈ s.issue.list → UnderCloseRequest s r.entry → BayTimerDue r s →
    ∃ t, exec (.openTimeExpiry .bay) s = .next t ∧ FailedUnderCloseRequest r .openTime s t ∧ BayVoided s t ∧
      ∀ x ∈ t.issue.list, x.entry ≠ r.entry)

/-- In a strict-order course a retry returns every record behind the failed one to POSTED with its attempts, and voids its
brick: on the train, in a pending feed, which is withdrawn while it is only requested, and in the bay, where a SPREAD that
has not been granted is withdrawn. Under a close request the failed entry and each entry so returned are cancelled at once
and counted, and the course closes when nothing else remains. What a void carrier or feed keeps of its entry is the model's
(log entry 36), and so is that SUPPLY_STARVED is not raised again where a starved refeed record is displaced and another LAY
feed to order, such as the returned entry's own, stands at once (log entry 41). -/
def Obligations.StrictRetryDisplacesTheRecordsBehind : Prop :=
  (∀ l1 r l2 c reason s, BookWf s → DistinctEntries s → s.issue.list = l1 ++ r :: l2 → s.activeStrict = true →
    s.seq.closeMark = false → r.attemptsUsed + 1 < r.maxAttempts → HeldTimerDue r c reason s →
    ∃ t, exec c s = .next t ∧ t.issue.list = l1 ∧ AttemptFailed r reason s t ∧ GripperGivenUp s t ∧ Displaced l2 s t ∧
      BytesKeptOutside ((entryAddr r.entry 0, 4) :: (entryAddr r.entry 7, 4) :: l2.map fun x => (entryAddr x.entry 0, 4))
        s t ∧
      t.seq = s.seq ∧ KeptBut [.bytes, .list, .feed, .queue, .line, .trim, .head] s t ∧ CausesKeptBut [] s t) ∧
  (∀ l1 r l2 s, BookWf s → DistinctEntries s → s.issue.list = l1 ++ r :: l2 → s.activeStrict = true →
    s.seq.closeMark = false → r.attemptsUsed + 1 < r.maxAttempts → BayTimerDue r s →
    ∃ t, exec (.openTimeExpiry .bay) s = .next t ∧ t.issue.list = l1 ∧ AttemptFailed r .openTime s t ∧ BayVoided s t ∧
      Displaced l2 s t ∧
      BytesKeptOutside ((entryAddr r.entry 0, 4) :: (entryAddr r.entry 7, 4) :: l2.map fun x => (entryAddr x.entry 0, 4))
        s t ∧
      t.seq = s.seq ∧ KeptBut [.bytes, .list, .feed, .queue, .line, .trim, .head] s t ∧ CausesKeptBut [] s t) ∧
  (∀ k l1 r l2 c reason s, BookWf s → DistinctEntries s → s.issue.list = l1 ++ r :: l2 →
    StrictUnderCloseRequest k (r :: l2) s → r.attemptsUsed + 1 < r.maxAttempts → HeldTimerDue r c reason s →
    ∃ t, exec c s = .next t ∧ t.issue.list = l1 ∧ FailedUnderCloseRequest r reason s t ∧ GripperGivenUp s t ∧
      CancelledBehind l2 s t ∧ CancelsCounted k (l2.length + 1) s t ∧
      BytesKeptOutside ((courseAddr k 0, 64) :: (r :: l2).flatMap fun x => terminalWords x.entry) s t ∧
      KeptBut [.bytes, .seq, .list, .feed, .queue, .line, .trim, .head] s t ∧ CausesKeptBut [.courseClosed] s t) ∧
  (∀ k l1 r l2 s, BookWf s → DistinctEntries s → s.issue.list = l1 ++ r :: l2 → StrictUnderCloseRequest k (r :: l2) s →
    r.attemptsUsed + 1 < r.maxAttempts → BayTimerDue r s →
    ∃ t, exec (.openTimeExpiry .bay) s = .next t ∧ t.issue.list = l1 ∧ FailedUnderCloseRequest r .openTime s t ∧
      BayVoided s t ∧ CancelledBehind l2 s t ∧ CancelsCounted k (l2.length + 1) s t ∧
      BytesKeptOutside ((courseAddr k 0, 64) :: (r :: l2).flatMap fun x => terminalWords x.entry) s t ∧
      KeptBut [.bytes, .seq, .list, .feed, .queue, .line, .trim, .head] s t ∧ CausesKeptBut [.courseClosed] s t)

/-! ### The boom train -/

/-- At the root sensor a brick that matches the pending feed becomes a carrier at the tail: of the entry, which reads
TRANSIT, or void when the feed is void-pending. The feed-pending record clears, and a FEED held back at its feeder goes with
it. The index that a void carrier keeps is the model's choice (log entry 36). -/
def Obligations.RootSensorMatchesTheFeed : Prop :=
  (∀ i f s, BookWf s → s.issue.feed = some f → f.entry = some i → s.train.queue.length < 8 →
    s.entryState i = some .issued →
    ∃ t, exec .rootSensor s = .next t ∧ t.train.queue = s.train.queue ++ [⟨some i, none, s.time, 0⟩] ∧
      t.entryState i = some .transit ∧ t.issue.feed = none ∧
      t.issue.list = s.issue.list.map (fun r => if r.entry = i then { r with location := .train } else r) ∧
      (∀ c, (t.line.at (feederPosition f.feeder)).deferred ≠ some (.feed c)) ∧
      OtherStationsKept (feederPosition f.feeder) s t ∧ t.line.transaction = s.line.transaction ∧
      BytesKeptOutside [(entryAddr i 0, 4)] s t ∧ KeptBut [.bytes, .list, .feed, .queue, .line] s t ∧
      CausesKeptBut [] s t) ∧
  (∀ f s, s.issue.feed = some f → f.entry = none → s.train.queue.length < 8 →
    ∃ t, exec .rootSensor s = .next t ∧ t.train.queue = s.train.queue ++ [⟨none, f.former, s.time, 0⟩] ∧
      t.issue.feed = none ∧ OtherStationsKept (feederPosition f.feeder) s t ∧
      t.line.transaction = s.line.transaction ∧ KeptBut [.feed, .queue, .line] s t ∧ CausesKeptBut [] s t)

/-- At the bay sensor the front carrier is popped into the EMPTY bay, which becomes ARRIVED with its content and its root
time stamp; an entry reads HEAD, and the drive stops. That the void content of the bay is the index its carrier kept is the
model's choice (log entry 36). -/
def Obligations.BaySensorPopsTheFrontCarrier : Prop :=
  (∀ i c rest s, BookWf s → s.head.bay.state = .empty → s.train.queue = c :: rest → c.content = some i →
    s.entryState i = some .transit →
    ∃ t, exec .baySensor s = .next t ∧ t.train = ⟨rest, false, false⟩ ∧
      t.head = { s.head with bay := ⟨.arrived, .entry i, none, some c.rootTime, .empty⟩ } ∧
      t.entryState i = some .head ∧
      t.issue.list = s.issue.list.map (fun r => if r.entry = i then { r with location := .bay } else r) ∧
      BytesKeptOutside [(entryAddr i 0, 4)] s t ∧ KeptBut [.bytes, .list, .queue, .limit, .head] s t ∧
      CausesKeptBut [] s t) ∧
  (∀ c rest s, s.head.bay.state = .empty → s.train.queue = c :: rest → c.content = none →
    ∃ t, exec .baySensor s = .next t ∧ t.train = ⟨rest, false, false⟩ ∧
      t.head = { s.head with bay := ⟨.arrived, .void c.former, none, some c.rootTime, .empty⟩ } ∧
      KeptBut [.queue, .limit, .head] s t ∧ CausesKeptBut [] s t)

/-- A stray at the root, a root event at a full queue, a stray at the bay, a bay overrun and a jam each raise TRAIN_FAULT
and ask for HALT; a stray is appended, or put into the bay, as a void brick. A jam stands once the front carrier's running
time has been found at the transit limit at one of its increases. -/
def Obligations.TrainFaultsAskForHalt : Prop :=
  (∀ s, s.issue.feed = none →
    ∃ t, exec .rootSensor s = .next t ∧ hasCause t .trainFault = true ∧ HaltRequested s t ∧
      t.train.queue.length = (if s.train.queue.length < 8 then s.train.queue.length + 1 else s.train.queue.length) ∧
      (¬MayHalt s → s.train.queue.length < 8 → t.train.queue = s.train.queue ++ [⟨none, none, s.time, 0⟩]) ∧
      KeptBut haltBlocks s t ∧
      CausesKeptBut [.trainFault, .halted, .courseClosed] s t) ∧
  (∀ f s, s.issue.feed = some f → 8 ≤ s.train.queue.length →
    ∃ t, exec .rootSensor s = .next t ∧ hasCause t .trainFault = true ∧ HaltRequested s t ∧
      t.train.queue.length = s.train.queue.length ∧ (¬MayHalt s → t.issue.feed = some f) ∧ KeptBut haltBlocks s t ∧
      CausesKeptBut [.trainFault, .halted, .courseClosed] s t) ∧
  (∀ s, s.head.bay.state = .empty → s.train.queue = [] →
    ∃ t, exec .baySensor s = .next t ∧ hasCause t .trainFault = true ∧ HaltRequested s t ∧ t.train.queue = [] ∧
      t.head.bay.state = .arrived ∧ t.head.bay.content = .void none ∧ KeptBut haltBlocks s t ∧
      CausesKeptBut [.trainFault, .halted, .courseClosed] s t) ∧
  (∀ s, s.head.bay.state ≠ .empty →
    ∃ t, exec .baySensor s = .next t ∧ hasCause t .trainFault = true ∧ HaltRequested s t ∧
      t.train.queue.length = s.train.queue.length ∧ (¬MayHalt s → t.head = s.head) ∧ KeptBut haltBlocks s t ∧
      CausesKeptBut [.trainFault, .halted, .courseClosed] s t) ∧
  (∀ s, s.train.queue ≠ [] → s.train.drive = true → s.train.limitReached = true →
    ∃ t, exec .jam s = .next t ∧ hasCause t .trainFault = true ∧ HaltRequested s t ∧
      t.train.queue.length = s.train.queue.length ∧ KeptBut haltBlocks s t ∧
      CausesKeptBut [.trainFault, .halted, .courseClosed] s t) ∧
  (∀ s, s.train.limitReached = false → NoEffect .jam s)

/-! ### The station line -/

/-- A poll that falls due places its request; the free line is granted to a head command whose station is READY, else to the
FEED request of a READY feeder, else to the poll due longest. A line in use is granted to none. At its grant an EJECT makes
its place EJECTING; one that is granted again after a BUSY reply finds the bay so (log entry 39). That a due time less than
2^31 ms ago has been reached is the model's reading (log entry 17). -/
def Obligations.LineIsGrantedInOrder : Prop :=
  (∀ p d s, (s.line.at p).nextPoll = some d → (s.time - d).toNat < 2147483648 → (s.line.at p).state ≠ .absent →
    (s.line.at p).pollPending = false → s.control.sensed = true →
    ∃ t, exec (.pollDue p) s = .next t ∧ t.line.at p = { s.line.at p with pollPending := true } ∧
      OtherStationsKept p s t ∧ t.line.transaction = s.line.transaction ∧ KeptBut [.line] s t ∧ CausesKeptBut [] s t) ∧
  (∀ l1 c l2 s, s.line.transaction = none → MayHalt s → s.line.headRequests = l1 ++ c :: l2 →
    (∀ x ∈ l1, (s.line.at (headTarget x)).state ≠ .ready) → (s.line.at (headTarget c)).state = .ready →
    ∃ t, exec .lineGrant s = .next t ∧ t.line.transaction = some ⟨headTarget c, c, s.time⟩ ∧
      t.line.lastFrame = commandFrame (headTarget c) c ∧
      t.line.headRequests = s.line.headRequests.filter (fun x => x ≠ c) ∧
      (c = .eject .bay → s.head.bay.state ≠ .ejecting →
        t.head = { s.head with bay := { s.head.bay with state := .ejecting, ejectFrom := s.head.bay.state } }) ∧
      (c = .eject .bay → s.head.bay.state = .ejecting → t.head = s.head) ∧
      (c = .eject .gripper → t.head = { s.head with gripper := { s.head.gripper with state := .ejecting } }) ∧
      ((∀ place, c ≠ .eject place) → t.head = s.head) ∧ KeptBut [.line, .head] s t ∧ CausesKeptBut [] s t) ∧
  (∀ f s, s.line.transaction = none → MayHalt s →
    (∀ x ∈ s.line.headRequests, (s.line.at (headTarget x)).state ≠ .ready) → s.issue.feed = some f →
    f.phase = .requested → FeederReady s f.feeder → (s.line.at (feederPosition f.feeder)).deferred = none →
    ∃ t, exec .lineGrant s = .next t ∧ t.issue.feed = some { f with phase := .sent } ∧
      t.line = { s.line with
        transaction := some ⟨feederPosition f.feeder, .feed f.cutLength, s.time⟩
        lastFrame := commandFrame (feederPosition f.feeder) (.feed f.cutLength) } ∧
      KeptBut [.line, .feed] s t ∧ CausesKeptBut [] s t) ∧
  (∀ p d s, s.line.transaction = none → s.control.sensed = true →
    ((∀ x ∈ s.line.headRequests, (s.line.at (headTarget x)).state ≠ .ready) ∧ FeedWaits s ∨
      s.control.state = .init ∨ s.control.state = .halt) →
    (s.line.at p).pollPending = true → (s.line.at p).nextPoll = some d →
    (∀ q e, q ≠ p → (s.line.at q).pollPending = true → (s.line.at q).nextPoll = some e →
      (s.time - e).toNat < (s.time - d).toNat ∨
        ((s.time - e).toNat = (s.time - d).toNat ∧ positionNumber p < positionNumber q)) →
    ∃ t, exec .lineGrant s = .next t ∧ t.line.transaction = some ⟨p, .query, s.time⟩ ∧
      t.line.lastFrame = commandFrame p .query ∧
      t.line.at p = { s.line.at p with nextPoll := none, pollPending := false } ∧ OtherStationsKept p s t ∧
      KeptBut [.line] s t ∧ CausesKeptBut [] s t) ∧
  (∀ s, s.line.transaction ≠ none → NoEffect .lineGrant s)

/-- ACCEPTED makes the command the operation outstanding and the station BUSY, and takes a FEED to phase ACCEPTED; BUSY holds
the command back at the station; an error word makes a feeder FAULTED and ends its FEED, and makes a head station FAULTED
with HEAD_STATION and a HALT request, the command's place left as R162 has it and the attempt that it served failing with
GRIP_FAULT. The next poll falls due as R90 and R96 say; that of two due times the earlier is found modulo 2^32 is the model's
reading (log entry 17). -/
def Obligations.CommandRepliesSetTheStation : Prop :=
  (∀ p c at0 bytes s, AwaitsReply s ⟨p, c, at0⟩ → c ≠ .query → judgeReply p false bytes = .good .accepted →
    isFeederPosition p = false →
    ∃ t, exec (.commandReply bytes) s = .next t ∧ t.line.transaction = none ∧
      t.line.at p = { s.line.at p with
        operation := .command c, state := .busy, retry := false, nextPoll := (t.line.at p).nextPoll } ∧
      PollAfterCommand p s t ∧ OtherStationsKept p s t ∧ KeptBut [.line] s t ∧ CausesKeptBut [] s t) ∧
  (∀ f n at0 bytes s, AwaitsReply s ⟨feederPosition f.feeder, .feed n, at0⟩ → s.issue.feed = some f →
    f.phase = .sent → judgeReply (feederPosition f.feeder) false bytes = .good .accepted →
    ∃ t, exec (.commandReply bytes) s = .next t ∧ t.line.transaction = none ∧
      t.issue.feed = some { f with phase := .accepted s.time } ∧
      t.line.at (feederPosition f.feeder) = { s.line.at (feederPosition f.feeder) with
        operation := .command (.feed n), state := .busy, retry := false
        nextPoll := (t.line.at (feederPosition f.feeder)).nextPoll } ∧
      PollAfterCommand (feederPosition f.feeder) s t ∧
      OtherStationsKept (feederPosition f.feeder) s t ∧ KeptBut [.line, .feed] s t ∧ CausesKeptBut [] s t) ∧
  (∀ p c at0 bytes s, AwaitsReply s ⟨p, c, at0⟩ → c ≠ .query → (∀ n, c ≠ .feed n) →
    judgeReply p false bytes = .good .busy → isFeederPosition p = false →
    ∃ t, exec (.commandReply bytes) s = .next t ∧ t.line.transaction = none ∧
      t.line.at p = { s.line.at p with
        deferred := some c, retry := false, nextPoll := (t.line.at p).nextPoll } ∧
      PollAfterCommand p s t ∧ OtherStationsKept p s t ∧ KeptBut [.line] s t ∧ CausesKeptBut [] s t) ∧
  (∀ f i n at0 bytes s, AwaitsReply s ⟨feederPosition f.feeder, .feed n, at0⟩ → s.issue.feed = some f →
    f.entry = some i → f.phase = .sent → FeederReady s f.feeder →
    judgeReply (feederPosition f.feeder) false bytes = .good .busy →
    ∃ t, exec (.commandReply bytes) s = .next t ∧ t.line.transaction = none ∧
      t.issue.feed = some { f with phase := .requested } ∧
      (t.line.at (feederPosition f.feeder)).deferred = some (.feed n) ∧
      (t.line.at (feederPosition f.feeder)).state = .ready ∧ PollAfterCommand (feederPosition f.feeder) s t ∧
      KeptBut [.line, .feed] s t ∧ CausesKeptBut [] s t) ∧
  (∀ f n at0 bytes s, AwaitsReply s ⟨feederPosition f.feeder, .feed n, at0⟩ → s.issue.feed = some f →
    f.entry = none → f.phase = .sent → judgeReply (feederPosition f.feeder) false bytes = .good .busy →
    ∃ t, exec (.commandReply bytes) s = .next t ∧ t.line.transaction = none ∧ t.issue.feed = none ∧
      (t.line.at (feederPosition f.feeder)).deferred = (s.line.at (feederPosition f.feeder)).deferred ∧
      PollAfterCommand (feederPosition f.feeder) s t ∧ KeptBut [.line, .feed] s t ∧ CausesKeptBut [] s t) ∧
  (∀ f n at0 code bytes s, AwaitsReply s ⟨feederPosition f.feeder, .feed n, at0⟩ → s.issue.feed = some f →
    f.phase = .sent → judgeReply (feederPosition f.feeder) false bytes = .good (.error code) →
    ∃ t, exec (.commandReply bytes) s = .next t ∧ t.line.transaction = none ∧ t.issue.feed = none ∧
      (f.entry = none → t.issue.list = s.issue.list) ∧
      (∀ i, f.entry = some i →
        t.issue.list = s.issue.list.map (fun r => if r.entry = i then { r with location := .none } else r)) ∧
      (t.line.at (feederPosition f.feeder)).state = .faulted ∧
      (t.line.at (feederPosition f.feeder)).lastError = code ∧
      (t.line.at (feederPosition f.feeder)).operation = .none ∧ PollScheduled (feederPosition f.feeder) s t ∧
      KeptBut [.line, .feed, .list] s t ∧ CausesKeptBut [] s t) ∧
  (∀ p c at0 code bytes s, AwaitsReply s ⟨p, c, at0⟩ → c ≠ .query → isFeederPosition p = false →
    (s.line.at p).state ≠ .faulted → judgeReply p false bytes = .good (.error code) →
    ∃ t, exec (.commandReply bytes) s = .next t ∧ t.line.transaction = none ∧ (t.line.at p).state = .faulted ∧
      (t.line.at p).lastError = code ∧ (t.line.at p).operation = .none ∧ PollScheduled p s t ∧
      ServedAttemptFails s c t ∧ hasCause t .headStation = true ∧ HaltRequested s t ∧ KeptBut haltBlocks s t ∧
      CausesKeptBut [.headStation, .halted, .entryFailed, .courseClosed] s t)

/-- A first failure sets the retry mark and resends the frame at once; a second makes the station UNRESPONSIVE with NO_REPLY
and ends the transaction, and the next poll falls due as R96 says, a FEED withdrawn at that moment being held no more (the
model's reading, log entry 43). STATION_FAULT is raised on the change into UNRESPONSIVE, and at a head station HEAD_STATION
and a HALT request as well, the place of the failed operation left as R162 has it and the attempt that it served failing with
GRIP_FAULT. -/
def Obligations.FailedTransactionIsResentOnce : Prop :=
  (∀ x c s, FailsTransaction s x c → (s.line.at x.position).retry = false →
    ∃ t, exec c s = .next t ∧ t.line.transaction = some { x with sentAt := s.time } ∧
      t.line.lastFrame = commandFrame x.position x.command ∧
      t.line.at x.position = { s.line.at x.position with retry := true } ∧ OtherStationsKept x.position s t ∧
      KeptBut [.line] s t ∧ CausesKeptBut [] s t) ∧
  (∀ x c s, FailsTransaction s x c → (s.line.at x.position).retry = true →
    ∃ t, exec c s = .next t ∧ t.line.transaction = none ∧ (t.line.at x.position).state = .unresponsive ∧
      (t.line.at x.position).operation = .none ∧ (t.line.at x.position).lastError = errorNoReply ∧
      (t.line.at x.position).retry = false ∧ (t.line.at x.position).hold = none ∧ PollScheduled x.position s t ∧
      KeptBut haltBlocks s t ∧ CausesKeptBut [.stationFault, .headStation, .halted, .entryFailed, .courseClosed] s t ∧
      (∀ f, s.issue.feed = some f → f.phase = .sent → feederPosition f.feeder = x.position → t.issue.feed = none) ∧
      ((s.line.at x.position).state ≠ .unresponsive → hasCause t .stationFault = true) ∧
      ((s.line.at x.position).state ≠ .unresponsive → isFeederPosition x.position = false →
        hasCause t .headStation = true ∧ HaltRequested s t ∧
          (x.command ≠ .query → ServedAttemptFails s x.command t) ∧
          ∀ o, x.command = .query → (s.line.at x.position).operation = .command o → ServedAttemptFails s o t) ∧
      ((s.line.at x.position).state ≠ .unresponsive → isFeederPosition x.position = true →
        KeptBut [.line, .feed, .list] s t ∧ CausesKeptBut [.stationFault] s t))

/-- The end of a poll settles the operation outstanding and sets the station by R91's steps: WORKING keeps or makes it BUSY,
with a FOREIGN operation where none was outstanding; a lost or failed operation, or an error latched at IDLE, makes it
FAULTED; an operation that ends well leaves a feeder HELD while it reports a hold, and the station READY otherwise. As a head
station becomes FAULTED, HEAD_STATION is raised and HALT asked for, the place of its operation is left as R162 has it, and
the attempt that it served fails with GRIP_FAULT. An error word in reply makes the station FAULTED with its code; that the
operation outstanding there has then failed is the model's reading (log entry 12). With nothing outstanding, a reported
operation of the deferred head command's code is adopted for that command; one that is not adopted is FOREIGN, and the
command is placed with the arbiter again once the station is READY; that an EJECT so placed leaves its place EJECTING is the
model's reading (log entry 39), and so is that a request so placed, or withdrawn, is held no more when the next poll due is
set (log entry 43). -/
def Obligations.PollReplySetsTheStation : Prop :=
  (∀ f p bytes d s, p = feederPosition f → PollAnswered s p bytes d →
    ((s.line.at p).deferred = none ∨ ∃ n, (s.line.at p).deferred = some (.feed n)) →
      ∃ t, exec (.queryReply bytes) s = .next t ∧ t.line.transaction = none ∧ OtherStationsKept p s t ∧
        (t.line.at p).retry = false ∧ PollScheduled p s t ∧
        (d.reported = .working →
          (t.line.at p).state = .busy ∧ (t.line.at p).hold = none ∧
            ((s.line.at p).operation ≠ .none → (t.line.at p).operation = (s.line.at p).operation) ∧
            ((s.line.at p).operation = .none → (t.line.at p).operation = .foreign)) ∧
        (∀ e, FindsError s p d e →
          (t.line.at p).state = .faulted ∧ (t.line.at p).operation = .none ∧ (t.line.at p).lastError = e ∧
            (t.line.at p).hold = none) ∧
        (EndsWell s p d → (t.line.at p).operation = .none ∧ (t.line.at p).lastError = (s.line.at p).lastError ∧
          (d.hold ≠ 0 → (t.line.at p).state = .held ∧ (t.line.at p).hold = some (min 600 d.hold.toNat * 1000)) ∧
          (d.hold = 0 → (t.line.at p).state = .ready ∧ (t.line.at p).hold = none ∧ (t.line.at p).deferred = none ∧
            t.issue.feed = s.issue.feed)) ∧
        (∀ g, (t.line.at p).state ≠ .ready → s.issue.feed = some g → feederPosition g.feeder = p →
          g.phase = .requested → t.issue.feed = none ∧ (t.line.at p).deferred = none) ∧
        KeptBut [.line, .feed, .list] s t ∧ CausesKeptBut [] s t) ∧
  (∀ p bytes d s, Answers s p bytes d → isFeederPosition p = false →
    ∃ t, exec (.queryReply bytes) s = .next t ∧ t.line.transaction = none ∧ (t.line.at p).retry = false ∧
      PollScheduled p s t ∧
      (d.reported = .working →
        (t.line.at p).state = .busy ∧
          ((s.line.at p).operation ≠ .none → (t.line.at p).operation = (s.line.at p).operation) ∧
          ((s.line.at p).operation = .none → (t.line.at p).operation = .foreign) ∧ KeptBut [.line] s t ∧
          CausesKeptBut [] s t) ∧
      (∀ e, FindsError s p d e →
        (t.line.at p).state = .faulted ∧ (t.line.at p).operation = .none ∧ (t.line.at p).lastError = e ∧
          ((s.line.at p).state ≠ .faulted → hasCause t .headStation = true ∧ HaltRequested s t) ∧
          ((s.line.at p).state = .faulted → t.control = s.control ∧ hasCause t .headStation = hasCause s .headStation) ∧
          ∀ c, (s.line.at p).operation = .command c → ServedAttemptFails s c t) ∧
      (EndsWell s p d → (t.line.at p).state = .ready ∧ (t.line.at p).operation = .none ∧
        ((∀ c, (s.line.at p).operation ≠ .command c) → KeptBut [.line] s t ∧ CausesKeptBut [] s t)) ∧
      KeptBut haltBlocks s t ∧ CausesKeptBut [.headStation, .halted, .entryFailed, .courseClosed, .binFull] s t) ∧
  (∀ p c bytes d s, AnswersDeferred s p c bytes d →
    ∃ t, exec (.queryReply bytes) s = .next t ∧ t.line.transaction = none ∧ PollScheduled p s t ∧
      (Adopts s p c d →
        (d.reported ≠ .idle → (t.line.at p).deferred = none) ∧
        (d.reported = .working → (t.line.at p).state = .busy ∧ (t.line.at p).operation = .command c ∧
          KeptBut [.line] s t ∧ CausesKeptBut [] s t) ∧
        (d.reported = .done → (c = .probe → d.result.toNat ≤ 600) →
          (t.line.at p).state = .ready ∧ (t.line.at p).operation = .none ∧
            (∀ place, c = .eject place → t.head.binCount = s.head.binCount + 1) ∧
            (c = .spread → t.head.bay.state = .spread) ∧ (c = .take → t.head.bay = .cleared)) ∧
        (d.reported = .error →
          (t.line.at p).state = .faulted ∧ (t.line.at p).operation = .none ∧ ServedAttemptFails s c t)) ∧
      (¬Adopts s p c d →
        (d.reported = .working →
          (t.line.at p).state = .busy ∧ (t.line.at p).operation = .foreign ∧ (t.line.at p).deferred = some c ∧
            KeptBut [.line] s t ∧ CausesKeptBut [] s t) ∧
        (d.reported = .error →
          (t.line.at p).state = .faulted ∧ (t.line.at p).operation = .none ∧ (t.line.at p).deferred = some c)) ∧
      ((d.reported = .done ∧ ¬Adopts s p c d) ∨
          (d.reported = .idle ∧ d.latched = 0 ∧ (s.line.at p).operation = .none) →
        (c = .release ∨ c = .probe → s.head.gripper.content.isVoid = false) →
        (t.line.at p).state = .ready ∧ (t.line.at p).operation = .none ∧ (t.line.at p).deferred = none ∧
          t.line.headRequests = s.line.headRequests ++ [c] ∧ KeptBut [.line] s t ∧ CausesKeptBut [] s t) ∧
      (d.reported = .idle → (s.line.at p).operation = .foreign →
        (t.line.at p).state = .faulted ∧ (t.line.at p).lastError = errorOperationLost ∧
          (t.line.at p).deferred = some c) ∧
      ((t.line.at p).state = .faulted → (s.line.at p).state ≠ .faulted →
        hasCause t .headStation = true ∧ HaltRequested s t) ∧
      KeptBut haltBlocks s t ∧ CausesKeptBut [.headStation, .halted, .entryFailed, .courseClosed, .binFull] s t) ∧
  (∀ p bytes code s, PollRefused s p bytes code →
    ∃ t, exec (.queryReply bytes) s = .next t ∧ t.line.transaction = none ∧ (t.line.at p).state = .faulted ∧
      (t.line.at p).operation = .none ∧ (t.line.at p).lastError = code ∧ (t.line.at p).retry = false ∧
      (t.line.at p).hold = none ∧ PollScheduled p s t ∧
      (isFeederPosition p = true →
        OtherStationsKept p s t ∧
        (∀ g, s.issue.feed = some g → feederPosition g.feeder = p → g.phase = .requested → t.issue.feed = none) ∧
        (∀ g, s.issue.feed = some g → feederPosition g.feeder ≠ p ∨ g.phase ≠ .requested → t.issue.feed = some g) ∧
        KeptBut [.line, .feed, .list] s t ∧ CausesKeptBut [] s t) ∧
      (isFeederPosition p = false →
        (t.line.at p).deferred = (s.line.at p).deferred ∧
        ((s.line.at p).state ≠ .faulted → hasCause t .headStation = true ∧ HaltRequested s t) ∧
        ((s.line.at p).state = .faulted → t.control = s.control ∧ hasCause t .headStation = hasCause s .headStation) ∧
        (∀ c, (s.line.at p).operation = .command c → ServedAttemptFails s c t) ∧
        KeptBut haltBlocks s t ∧ CausesKeptBut [.headStation, .halted, .entryFailed, .courseClosed] s t))

/-- A hold timer at 0 makes a HELD feeder READY; the feed timer, 8 s after ACCEPTED, makes its feeder FAULTED with
FEED_TIMEOUT, clears the feed-pending record and leaves its entry's record to be fed again. -/
def Obligations.FeederTimersExpire : Prop :=
  (∀ f s, (s.line.at (feederPosition f)).state = .held → (s.line.at (feederPosition f)).hold = some 0 →
    ∃ t, exec (.holdTimerExpiry f) s = .next t ∧
      t.line.at (feederPosition f) = { s.line.at (feederPosition f) with state := .ready, hold := none } ∧
      OtherStationsKept (feederPosition f) s t ∧ t.line.transaction = s.line.transaction ∧ KeptBut [.line] s t ∧
      CausesKeptBut [] s t) ∧
  (∀ f n s, s.issue.feed = some f → f.phase = .accepted n → 8000 ≤ (s.time - n).toNat →
    ∃ t, exec .feedTimerExpiry s = .next t ∧ t.issue.feed = none ∧ (f.entry = none → t.issue.list = s.issue.list) ∧
      (∀ i, f.entry = some i →
        t.issue.list = s.issue.list.map (fun r => if r.entry = i then { r with location := .none } else r)) ∧
      (t.line.at (feederPosition f.feeder)).state = .faulted ∧
      (t.line.at (feederPosition f.feeder)).lastError = errorFeedTimeout ∧
      (t.line.at (feederPosition f.feeder)).operation = .none ∧ OtherStationsKept (feederPosition f.feeder) s t ∧
      t.line.transaction = s.line.transaction ∧ KeptBut [.line, .feed, .list] s t ∧ CausesKeptBut [] s t) ∧
  (∀ f n s, s.issue.feed = some f → f.phase = .accepted n → (s.time - n).toNat < 8000 → NoEffect .feedTimerExpiry s)

/-! ### The tracker link -/

/-- A malformed frame is counted and not used; a NOFIX frame is counted and yields no sample; a FIX frame is a sample,
classified by the vote and counted. Each frame whose number does not follow the one before is counted as one gap, FIX and NOFIX
alike. A FIX frame in LOST makes the state ACQUIRING; a usable sample makes that TRACKING, or UNSTEADY when the bad count has
reached the on threshold; TRACKING becomes UNSTEADY, with cause UNSTEADY, at the on threshold, and UNSTEADY becomes TRACKING at
the off threshold; a PRIMING sample leaves the state. Bytes followed by a gap are a malformed frame, as are those that an
earlier frame has left in the receiver. -/
def Obligations.TrackerFramesAreJudged : Prop :=
  (∀ bytes s, FrameArrives s bytes .malformed →
    ∃ t, exec (.trackerFrame bytes) s = .next t ∧ t.tracker.malformed = s.tracker.malformed + 1 ∧
      t.tracker = { s.tracker with malformed := t.tracker.malformed, collected := t.tracker.collected } ∧
      KeptBut [.tracker] s t ∧ CausesKeptBut [] s t) ∧
  (∀ bytes n s, FrameArrives s bytes (.nofix n) →
    ∃ t, exec (.trackerFrame bytes) s = .next t ∧
      t.tracker = { s.tracker with
        collected := [], sequence := some n, nofix := s.tracker.nofix + 1, gaps := t.tracker.gaps } ∧
      t.tracker.gaps = s.tracker.gaps + (if breaksSequence s n then 1 else 0) ∧
      KeptBut [.tracker] s t ∧ CausesKeptBut [] s t) ∧
  (∀ bytes n h c w st s, FrameArrives s bytes (.fix n h) →
    c = voteClass s.seq.profile s.tracker.history ⟨h, s.time⟩ → w = appendWindow s.tracker.window c →
    st = (if s.tracker.state = .lost then .acquiring else s.tracker.state) →
    ∃ t, exec (.trackerFrame bytes) s = .next t ∧ t.tracker.lastPose = h ∧ t.tracker.lastClass = some c ∧
      t.tracker.sequence = some n ∧ t.tracker.collected = [] ∧
      t.tracker.history = voteHistory s.tracker.history c ⟨h, s.time⟩ ∧ t.tracker.window = w ∧
      t.tracker.priming = s.tracker.priming + (if c = .priming then 1 else 0) ∧
      t.tracker.accepted = s.tracker.accepted + (if c = .accepted then 1 else 0) ∧
      t.tracker.corrected = s.tracker.corrected + (if c = .corrected then 1 else 0) ∧
      t.tracker.rejected = s.tracker.rejected + (if c = .rejected then 1 else 0) ∧
      t.tracker.unstable = s.tracker.unstable + (if c = .unstable then 1 else 0) ∧
      t.tracker.malformed = s.tracker.malformed ∧ t.tracker.nofix = s.tracker.nofix ∧
      t.tracker.gaps = s.tracker.gaps + (if breaksSequence s n then 1 else 0) ∧
      (c = .priming → t.tracker.state = st) ∧
      (c.usable = true → st = .acquiring →
        t.tracker.state = if s.seq.profile.unsteadyOn ≤ badCount w then .unsteady else .tracking) ∧
      (c = .rejected ∨ c = .unstable → st = .acquiring → t.tracker.state = .acquiring) ∧
      (c ≠ .priming → st = .tracking →
        t.tracker.state = if s.seq.profile.unsteadyOn ≤ badCount w then .unsteady else .tracking) ∧
      (c ≠ .priming → st = .unsteady →
        t.tracker.state = if badCount w ≤ s.seq.profile.unsteadyOff then .tracking else .unsteady) ∧
      hasCause t .unsteady =
        (hasCause s .unsteady || (decide (t.tracker.state = .unsteady) && !decide (st = .unsteady))) ∧
      (s.tracker.state = .lost → t.head.restartTimer = none ∧ t.tracker.lossTimer = some 0) ∧
      (c.usable = true → t.tracker.lossTimer = some 0) ∧
      (c.usable = false → s.tracker.state ≠ .lost → t.tracker.lossTimer = s.tracker.lossTimer) ∧
      KeptBut [.tracker, .trim, .head] s t ∧ CausesKeptBut [.unsteady, .confirmWait, .reach] s t) ∧
  (∀ b bytes s, s.tracker.receiving = true → s.tracker.collected = [] → b = syncByte → bytes.length < 17 →
    ∃ t, exec (.trackerByteGap (b :: bytes)) s = .next t ∧
      t.tracker = { s.tracker with malformed := s.tracker.malformed + 1 } ∧ KeptBut [.tracker] s t ∧
      CausesKeptBut [] s t) ∧
  (∀ s, s.tracker.collected ≠ [] →
    ∃ t, exec (.trackerByteGap []) s = .next t ∧
      t.tracker = { s.tracker with malformed := s.tracker.malformed + 1, collected := [] } ∧ KeptBut [.tracker] s t ∧
      CausesKeptBut [] s t) ∧
  (∀ s, s.tracker.collected = [] → NoEffect (.trackerByteGap []) s)

/-- The expiry of the loss timer makes tracking LOST: history and window are emptied, TRACK_LOST is raised and the settle
count is 0. A held attempt goes on, waits for the restart delay or fails at once, by the recovery mode; a restart delay of 0
fails it at once too. That a closing is an update of the course record of its own is the model's choice (log entry 8). -/
def Obligations.LossTimerEndsTracking : Prop :=
  (∀ n s, s.tracker.lossTimer = some n → 2 ^ s.seq.profile.lossExponent ≤ n →
    ∃ t, exec .lossTimerExpiry s = .next t ∧
      t.tracker = { s.tracker with state := .lost, history := [], window := [], lossTimer := none } ∧
      hasCause t .trackLost = true ∧ t.trim.settleCount = 0 ∧ t.trim.setPoint = s.trim.setPoint ∧
      (s.seq.profile.recoveryMode = .holdOnly ∨ (∀ i, s.head.gripper.content ≠ .entry i) ∨
          s.head.gripper.state ≠ .holding →
        t.trim = { s.trim with settleCount := 0 } ∧ KeptBut [.tracker, .trim] s t ∧
          CausesKeptBut [.trackLost] s t) ∧
      (∀ i, s.seq.profile.recoveryMode = .holdThenFail → 0 < s.seq.profile.restartDelay →
        s.head.gripper.state = .holding → s.head.gripper.content = .entry i →
        t.trim = { s.trim with settleCount := 0 } ∧ t.head = { s.head with restartTimer := some 0 } ∧
          KeptBut [.tracker, .trim, .head] s t ∧ CausesKeptBut [.trackLost] s t) ∧
      (∀ r, BookWf s → DistinctEntries s → r ∈ s.issue.list →
        s.seq.profile.recoveryMode = .fail ∨
          (s.seq.profile.recoveryMode = .holdThenFail ∧ s.seq.profile.restartDelay = 0) →
        s.head.gripper.state = .holding → s.head.gripper.content = .entry r.entry →
        GripperGivenUp s t ∧
          (UnderCloseRequest s r.entry → FailedUnderCloseRequest r .trackLost s t) ∧
          (¬UnderCloseRequest s r.entry → AttemptFailed r .trackLost s t) ∧
          (¬UnderCloseRequest s r.entry → s.activeStrict = false ∨ r.maxAttempts ≤ r.attemptsUsed + 1 →
            FailureCounted r s t ∧ CountedBytes r.entry (terminalWords r.entry) s t ∧
              KeptBut [.bytes, .seq, .list, .tracker, .trim, .head] s t ∧
              CausesKeptBut [.trackLost, .entryFailed, .courseClosed] s t))) ∧
  (∀ n s, s.tracker.lossTimer = some n → n < 2 ^ s.seq.profile.lossExponent → NoEffect .lossTimerExpiry s)

/-- The vote of R111: a sample that agrees with Q is ACCEPTED; else one that agrees with P is CORRECTED; else it is REJECTED
when P and Q agree and UNSTABLE when they do not; with fewer than two samples it is PRIMING. The history keeps the
new sample, and of P and Q it keeps P after CORRECTED and Q otherwise. Two samples agree when every
axis differs by no more than its window, yaw around the circle. -/
def Obligations.SampleVoteFollowsTheTable : Prop :=
  (∀ p older newer c, agree p c.pose newer.pose = true → voteClass p [older, newer] c = .accepted) ∧
  (∀ p older newer c, agree p c.pose newer.pose = false → agree p c.pose older.pose = true →
    voteClass p [older, newer] c = .corrected) ∧
  (∀ p older newer c, agree p c.pose newer.pose = false → agree p c.pose older.pose = false →
    agree p older.pose newer.pose = true → voteClass p [older, newer] c = .rejected) ∧
  (∀ p older newer c, agree p c.pose newer.pose = false → agree p c.pose older.pose = false →
    agree p older.pose newer.pose = false → voteClass p [older, newer] c = .unstable) ∧
  (∀ p history c, history.length < 2 → voteClass p history c = .priming) ∧
  (∀ h1 c, voteHistory [] .priming c = [c] ∧ voteHistory [h1] .priming c = [h1, c]) ∧
  (∀ older newer c, voteHistory [older, newer] .corrected c = [older, c] ∧
    ∀ cls, cls ≠ .corrected → voteHistory [older, newer] cls c = [newer, c]) ∧
  (∀ p a b, agree p a b = true ↔
    (-p.windowXYZ ≤ a.x - b.x ∧ a.x - b.x ≤ p.windowXYZ) ∧ (-p.windowXYZ ≤ a.y - b.y ∧ a.y - b.y ≤ p.windowXYZ) ∧
      (-p.windowXYZ ≤ a.z - b.z ∧ a.z - b.z ≤ p.windowXYZ) ∧
      ∃ n : Int, -18000 ≤ a.yaw - b.yaw + 36000 * n ∧ a.yaw - b.yaw + 36000 * n < 18000 ∧
        -p.windowYaw ≤ a.yaw - b.yaw + 36000 * n ∧ a.yaw - b.yaw + 36000 * n ≤ p.windowYaw)

/-! ### The trim stage -/

/-- The neutral pose is G = H + O with its yaw brought into 0..35999; the effective target T′ of a LAY is the target raised by
Zc, and of a PROBE the target raised by the probe clearance with G's yaw; the error is E = T′ − G, its yaw wrapped into
−18000..17999; S moves on each axis one slew step toward the demand and is then held within the axis's range; and a residual is
within tolerance when every axis is, yaw left out for a PROBE. -/
def Obligations.TrimArithmeticFollowsTheRules : Prop :=
  (∀ h o g, neutralPose h o = g →
    g.x = h.x + o.x ∧ g.y = h.y + o.y ∧ g.z = h.z + o.z ∧ 0 ≤ g.yaw ∧ g.yaw < 36000 ∧
      ∃ n : Int, g.yaw = h.yaw + o.yaw + 36000 * n) ∧
  (∀ p a g, (a.kind = .lay → effectiveTarget p a g = ⟨a.target.x, a.target.y, a.target.z + a.zc, a.target.yaw⟩) ∧
    (a.kind = .probe → effectiveTarget p a g = ⟨a.target.x, a.target.y, a.target.z + p.probeClearance, g.yaw⟩)) ∧
  (∀ x g e, poseError x g = e →
    e.x = x.x - g.x ∧ e.y = x.y - g.y ∧ e.z = x.z - g.z ∧ WrappedDifference x.yaw g.yaw e.yaw) ∧
  (∀ p r a cur next, slewPose p r a cur = next → 0 ≤ p.slewXY → 0 ≤ p.slewZ → 0 ≤ p.slewYaw → 0 ≤ r.x → 0 ≤ r.y →
    0 ≤ r.z → 0 ≤ r.yaw →
    SlewedAndClamped p.slewXY r.x a.x cur.x next.x ∧ SlewedAndClamped p.slewXY r.y a.y cur.y next.y ∧
      SlewedAndClamped p.slewZ r.z a.z cur.z next.z ∧ SlewedAndClamped p.slewYaw r.yaw a.yaw cur.yaw next.yaw) ∧
  (∀ p k d, withinTolerance p k d = true ↔
    Within p.toleranceXY d.x ∧ Within p.toleranceXY d.y ∧ Within p.toleranceZ d.z ∧
      (k = .lay → Within p.toleranceYaw d.yaw))

/-- At any FIX sample S moves on each axis by no more than its slew limit and stays within its range; it does not move while
the boom is MOVING, under the emergency line, or at a sample that is not usable. Else it moves toward the demand: the jog words
within ±R while manual control is granted, the error of the attempt while there is one, and 0 otherwise. -/
def Obligations.StageMovesWithinSlewAndRange : Prop :=
  ∀ bytes n h g s, FrameArrives s bytes (.fix n h) → StageWithinRange s →
    0 ≤ s.seq.profile.slewXY → 0 ≤ s.seq.profile.slewZ → 0 ≤ s.seq.profile.slewYaw → g = neutralPose h s.trim.offset →
    ∃ t, exec (.trackerFrame bytes) s = .next t ∧ StageWithinRange t ∧
      Within s.seq.profile.slewXY (t.trim.setPoint.x - s.trim.setPoint.x) ∧
      Within s.seq.profile.slewXY (t.trim.setPoint.y - s.trim.setPoint.y) ∧
      Within s.seq.profile.slewZ (t.trim.setPoint.z - s.trim.setPoint.z) ∧
      Within s.seq.profile.slewYaw (t.trim.setPoint.yaw - s.trim.setPoint.yaw) ∧
      (s.control.boomMoving = true ∨ s.control.emergency = true ∨
          (voteClass s.seq.profile s.tracker.history ⟨h, s.time⟩).usable = false →
        t.trim.setPoint = s.trim.setPoint) ∧
      ((voteClass s.seq.profile s.tracker.history ⟨h, s.time⟩).usable = true → s.control.boomMoving = false →
        s.control.emergency = false →
        (∀ j, s.control.manualGrant = true →
          Clamped (-s.trim.range.x) s.trim.range.x (s.word (jogAddr .x)).toInt j.x →
          Clamped (-s.trim.range.y) s.trim.range.y (s.word (jogAddr .y)).toInt j.y →
          Clamped (-s.trim.range.z) s.trim.range.z (s.word (jogAddr .z)).toInt j.z →
          Clamped (-s.trim.range.yaw) s.trim.range.yaw (s.word (jogAddr .yaw)).toInt j.yaw →
          t.trim.setPoint = slewPose s.seq.profile s.trim.range j s.trim.setPoint) ∧
        (∀ a, s.control.manualGrant = false → s.trim.attempt = some a →
          t.trim.setPoint =
            slewPose s.seq.profile s.trim.range (poseError (effectiveTarget s.seq.profile a g) g) s.trim.setPoint) ∧
        (s.control.manualGrant = false → s.trim.attempt = none →
          t.trim.setPoint = slewPose s.seq.profile s.trim.range .zero s.trim.setPoint)) ∧
      (t.trim.setPoint ≠ s.trim.setPoint → s.trim.sending = false →
        t.trim.sending = true ∧
          t.trim.lastFrame = setPointFrame s.trim.nextFrame s.trim.driveEnable t.trim.setPoint) ∧
      (t.trim.setPoint ≠ s.trim.setPoint → s.trim.sending = true → t.trim.outputPending = true)

/-- At a usable sample with an attempt the settle count rises while the residual is within tolerance in TRACKING, the boom STILL
and neither manual control nor the emergency line in force, and else returns to 0; it returns to 0 too at an UNSTABLE sample
and as tracking leaves TRACKING, and stands at another that is not usable. A sample is saturated when on some axis the error
exceeds the range plus the tolerance: the saturated count rises, and as it reaches the reach count the reach request is set and
REACH raised; an unsaturated sample returns the count to 0 and clears the request. -/
def Obligations.SamplesSettleAndAskForReach : Prop :=
  (∀ bytes n h a g e s, FrameArrives s bytes (.fix n h) →
    (voteClass s.seq.profile s.tracker.history ⟨h, s.time⟩).usable = true → s.trim.attempt = some a →
    g = neutralPose h s.trim.offset → e = poseError (effectiveTarget s.seq.profile a g) g →
    ∃ t, exec (.trackerFrame bytes) s = .next t ∧
      (Saturated s.seq.profile s.trim.range e → s.trim.saturated ≤ 1024 →
        t.trim.saturated = min 1024 (s.trim.saturated + 1) ∧
          (s.trim.saturated < s.seq.profile.reachCount → s.seq.profile.reachCount ≤ t.trim.saturated →
            t.trim.reach = some a.entry ∧ hasCause t .reach = true) ∧
          (s.seq.profile.reachCount ≤ s.trim.saturated ∨ t.trim.saturated < s.seq.profile.reachCount →
            t.trim.reach = s.trim.reach ∧ hasCause t .reach = hasCause s .reach)) ∧
      (¬Saturated s.seq.profile s.trim.range e →
        t.trim.saturated = 0 ∧ t.trim.reach = none ∧ hasCause t .reach = hasCause s .reach) ∧
      (withinTolerance s.seq.profile a.kind (poseSub t.trim.setPoint e) = false ∨ t.tracker.state ≠ .tracking ∨
          s.control.boomMoving = true ∨ s.control.manualGrant = true ∨ s.control.emergency = true →
        t.trim.settleCount = 0) ∧
      (withinTolerance s.seq.profile a.kind (poseSub t.trim.setPoint e) = true → s.tracker.state = .tracking →
        t.tracker.state = .tracking → s.control.boomMoving = false → s.control.manualGrant = false →
        s.control.emergency = false → t.trim.settleCount = min 63 (s.trim.settleCount + 1)) ∧
      (a.decided = false → t.trim.tally = min 65535 (s.trim.tally + 1)) ∧
      (a.decided = true → t.trim.tally = s.trim.tally)) ∧
  (∀ bytes n h c s, FrameArrives s bytes (.fix n h) →
    c = voteClass s.seq.profile s.tracker.history ⟨h, s.time⟩ → c.usable = false →
    ∃ t, exec (.trackerFrame bytes) s = .next t ∧
      (c = .unstable ∨ (s.tracker.state = .tracking ∧ t.tracker.state ≠ .tracking) →
        t.trim = { s.trim with settleCount := 0 }) ∧
      (c ≠ .unstable → s.tracker.state ≠ .tracking ∨ t.tracker.state = .tracking → t.trim = s.trim))

/-- A usable sample that brings the settle count to N with the residual within tolerance, tracking TRACKING, the boom STILL
and no manual control, decides a LAY attempt for release and a PROBE attempt for the probe; a LAY attempt with HOLD and no
confirm mark raises CONFIRM_WAIT, once for the attempt, and goes on settling. -/
def Obligations.SettledSampleDecidesTheAttempt : Prop :=
  ∀ bytes n h a g e sp s, FrameArrives s bytes (.fix n h) → s.tracker.state = .tracking →
    (voteClass s.seq.profile s.tracker.history ⟨h, s.time⟩).usable = true →
    badCount (appendWindow s.tracker.window (voteClass s.seq.profile s.tracker.history ⟨h, s.time⟩)) <
      s.seq.profile.unsteadyOn →
    s.control.boomMoving = false → s.control.manualGrant = false → s.control.emergency = false →
    s.trim.attempt = some a → a.decided = false → g = neutralPose h s.trim.offset →
    e = poseError (effectiveTarget s.seq.profile a g) g →
    sp = slewPose s.seq.profile s.trim.range e s.trim.setPoint →
    withinTolerance s.seq.profile a.kind (poseSub sp e) = true →
    s.seq.profile.settleCount ≤ min 63 (s.trim.settleCount + 1) →
    ∃ t, exec (.trackerFrame bytes) s = .next t ∧ t.trim.setPoint = sp ∧
      t.trim.settleCount = min 63 (s.trim.settleCount + 1) ∧ t.trim.tally = min 65535 (s.trim.tally + 1) ∧
      (a.kind = .lay → (a.hold = true → s.head.gripper.confirm = true) →
        t.trim.attempt = some { a with decided := true } ∧ t.trim.settleTimer = none ∧
          t.head = { s.head with gripper := { s.head.gripper with
            state := .releasing, openTimer := none, deviation := poseSub sp e, tally := t.trim.tally } }) ∧
      (a.kind = .probe →
        t.trim.attempt = some { a with decided := true } ∧ t.trim.settleTimer = none ∧
          t.trim.settleSample = some (g.z, sp.z) ∧
          t.head = { s.head with gripper := { s.head.gripper with state := .probing, tally := t.trim.tally } }) ∧
      (a.kind = .lay → a.hold = true → s.head.gripper.confirm = false →
        t.trim.attempt = some { a with confirmWait := true } ∧ t.head = s.head ∧
          (a.confirmWait = false → hasCause t .confirmWait = true) ∧
          (a.confirmWait = true → hasCause t .confirmWait = hasCause s .confirmWait)) ∧
      (a.kind = .probe ∨ a.hold = false ∨ s.head.gripper.confirm = true →
        hasCause t .confirmWait = hasCause s .confirmWait) ∧
      KeptBut [.tracker, .trim, .head] s t ∧ CausesKeptBut [.confirmWait, .reach] s t

/-- When the set-point frame being sent ends, a pending mark starts a new frame with the set-point and enable that now
stand; without one the link becomes idle. -/
def Obligations.FrameEndSendsThePendingFrame : Prop :=
  (∀ s, s.trim.sending = true → s.trim.outputPending = true →
    ∃ t, exec .setpointFrameEnd s = .next t ∧
      t.trim = { s.trim with
        outputPending := false, nextFrame := s.trim.nextFrame + 1
        lastFrame := setPointFrame s.trim.nextFrame s.trim.driveEnable s.trim.setPoint } ∧
      KeptBut [.trim] s t ∧ CausesKeptBut [] s t) ∧
  (∀ s, s.trim.sending = true → s.trim.outputPending = false →
    ∃ t, exec .setpointFrameEnd s = .next t ∧ t.trim = { s.trim with sending := false } ∧ KeptBut [.trim] s t ∧
      CausesKeptBut [] s t) ∧
  (∀ s, s.trim.sending = false → NoEffect .setpointFrameEnd s)

/-! ### The lay head -/

/-- A free side places what it wants: SPREAD for an entry brick, TAKE for the next record's spread brick, RELEASE and PROBE
after their decisions, and an eject of a void brick while the bin holds fewer than 12, of one in the bay whenever the
gripper's own content wants nothing; a side that is not free places nothing. Of two requests placed together the gripper's
stands first. -/
def Obligations.HeadSidesPlaceTheirCommands : Prop :=
  (∀ i s, SideFree s .spreader → s.head.bay.state = .arrived → s.head.bay.content = .entry i →
    s.seq.profile.earlySpread = true ∨ s.head.gripper.state = .empty →
    ∃ t, exec (.headRequest .spreaderSide) s = .next t ∧
      t.head = { s.head with bay := { s.head.bay with state := .spreading } } ∧
      t.line = { s.line with headRequests := s.line.headRequests ++ [.spread] } ∧ KeptBut [.line, .head] s t ∧
      CausesKeptBut [] s t) ∧
  (∀ r s, SideFree s .gripper → s.head.gripper.state = .empty → s.head.bay.state = .spread →
    s.head.bay.content = .entry r.entry → NextRecord s r → s.control.manualGrant = false →
    ∃ t, exec (.headRequest .gripperSide) s = .next t ∧
      t.head = { s.head with gripper := { Gripper.cleared with state := .taking, content := .entry r.entry } } ∧
      t.line = { s.line with headRequests := s.line.headRequests ++ [.take] } ∧ KeptBut [.line, .head] s t ∧
      CausesKeptBut [] s t) ∧
  (∀ i c s, SideFree s .gripper → s.head.gripper.content = .entry i →
    (s.head.gripper.state = .releasing ∧ c = .release) ∨ (s.head.gripper.state = .probing ∧ c = .probe) →
    ∃ t, exec (.headRequest .gripperSide) s = .next t ∧
      t.line = { s.line with headRequests := s.line.headRequests ++ [c] } ∧ KeptBut [.line] s t ∧
      CausesKeptBut [] s t) ∧
  (∀ f c s, SideFree s .gripper →
    (s.head.gripper.state = .holding ∧ s.head.gripper.content = .void f ∧ s.head.gripper.brick = true ∧
        c = .eject .gripper) ∨
      (GripperWantsNothing s ∧ (s.head.bay.state = .arrived ∨ s.head.bay.state = .spread) ∧
        s.head.bay.content = .void f ∧ c = .eject .bay) →
    (s.head.binCount < 12 →
      ∃ t, exec (.headRequest .gripperSide) s = .next t ∧
        t.line = { s.line with headRequests := s.line.headRequests ++ [c] } ∧ KeptBut [.line] s t ∧
        CausesKeptBut [] s t) ∧
    (12 ≤ s.head.binCount → NoEffect (.headRequest .gripperSide) s)) ∧
  (∀ i j c s, SideFree s .gripper → SideFree s .spreader → s.head.gripper.content = .entry j →
    (s.head.gripper.state = .releasing ∧ c = .release) ∨ (s.head.gripper.state = .probing ∧ c = .probe) →
    s.head.bay.state = .arrived → s.head.bay.content = .entry i → s.seq.profile.earlySpread = true →
    ∃ t, exec (.headRequest .both) s = .next t ∧
      t.line = { s.line with headRequests := s.line.headRequests ++ [c, .spread] } ∧
      t.head = { s.head with bay := { s.head.bay with state := .spreading } } ∧ KeptBut [.line, .head] s t ∧
      CausesKeptBut [] s t) ∧
  (∀ s, (¬SideFree s .spreader → NoEffect (.headRequest .spreaderSide) s) ∧
    (¬SideFree s .gripper → NoEffect (.headRequest .gripperSide) s) ∧
    (¬SideFree s .spreader → ¬SideFree s .gripper → NoEffect (.headRequest .both) s))

/-- The EMPTY gripper takes up a PROBE that is the next record: PLACING, with its attempt handed to the trim controller, no
brick and an applied Zc of 0; that the applied correction of the entry is then made 0 is the model's choice (log entry 15).
With tracking LOST the recovery mode applies to the attempt at once. -/
def Obligations.ProbeIsTakenUp : Prop :=
  (∀ r s, BookWf s → DistinctEntries s → NextRecord s r → r.kind = .probe → s.head.gripper.state = .empty →
    s.entryState r.entry = some .issued →
    ∃ t, exec .probeTakeUp s = .next t ∧
      (¬LossFails s →
        t.entryState r.entry = some .placing ∧ field (t.word (entryAddr r.entry 10)) 0 16 = 0 ∧
        field (t.word (entryAddr r.entry 10)) 16 16 = field (s.word (entryAddr r.entry 10)) 16 16 ∧
        t.head = { s.head with
          gripper := { Gripper.cleared with state := .holding, content := .entry r.entry }
          restartTimer := restartAtStart s } ∧
        t.issue.list = s.issue.list.map (fun x => if x.entry = r.entry then { x with location := .gripper } else x) ∧
        t.trim = { s.trim with
          attempt := some ⟨r.entry, .probe, r.hold, r.target, 0, false, false⟩, settleCount := 0, tally := 0
          settleSample := none, settleTimer := some 0, saturated := 0, reach := none } ∧
        BytesKeptOutside [(entryAddr r.entry 0, 4), (entryAddr r.entry 10, 4)] s t ∧
        KeptBut [.bytes, .list, .trim, .head] s t ∧ CausesKeptBut [] s t) ∧
      (LossFails s →
        t.head.gripper = .cleared ∧ t.trim.attempt = none ∧
          (¬UnderCloseRequest s r.entry → AttemptFailed r .trackLost s t))) ∧
  (∀ r s, NextRecord s r →
    r.kind ≠ .probe ∨ s.head.gripper.state ≠ .empty ∨ s.entryState r.entry ≠ some .issued →
    NoEffect .probeTakeUp s) ∧
  (∀ s, (∀ r ∈ s.issue.list, r.location = .gripper) → NoEffect .probeTakeUp s)

/-- SPREAD DONE starts the open time of an entry brick in the bay; TAKE DONE passes the brick to the gripper, writes Zc and
PLACING and starts the attempt, to which the recovery mode applies at once with tracking LOST; a void brick passes so without
an attempt; an eject DONE clears its place, counts into the bin, and raises BIN_FULL at 12. That the last transit time is
stamped at the TAKE DONE of a void brick too is the model's reading (log entry 14). -/
def Obligations.HeadOperationsMoveTheBrick : Prop :=
  (∀ i bytes n s, ReportsDone s .spreader .spread bytes n → s.head.bay.content = .entry i →
    ∃ t, exec (.queryReply bytes) s = .next t ∧ (t.line.at .spreader).state = .ready ∧
      (t.line.at .spreader).operation = .none ∧
      t.head = { s.head with bay := { s.head.bay with state := .spread, openTimer := some 0 } } ∧
      KeptBut [.line, .head] s t ∧ CausesKeptBut [] s t) ∧
  (∀ f bytes n s, ReportsDone s .spreader .spread bytes n → s.head.bay.content = .void f →
    ∃ t, exec (.queryReply bytes) s = .next t ∧
      t.head = { s.head with bay := { s.head.bay with state := .spread, openTimer := none } } ∧
      KeptBut [.line, .head] s t ∧ CausesKeptBut [] s t) ∧
  (∀ r root bytes n s, BookWf s → DistinctEntries s → ReportsDone s .gripper .take bytes n → r ∈ s.issue.list →
    s.head.gripper.content = .entry r.entry → s.entryState r.entry = some .head → s.head.bay.rootTime = some root →
    ∃ t, exec (.queryReply bytes) s = .next t ∧ t.head.bay = .cleared ∧ t.head.lastTransit = s.time - root ∧
      (¬LossFails s →
        t.entryState r.entry = some .placing ∧
        field (t.word (entryAddr r.entry 10)) 0 16 = signed16 s.activeZc ∧
        t.head = { s.head with
          bay := .cleared, lastTransit := s.time - root, restartTimer := restartAtStart s
          gripper := { Gripper.cleared with
            state := .holding, content := .entry r.entry, brick := true, openTimer := s.head.bay.openTimer } } ∧
        t.issue.list = s.issue.list.map (fun x => if x.entry = r.entry then { x with location := .gripper } else x) ∧
        t.trim = { s.trim with
          attempt := some ⟨r.entry, r.kind, r.hold, r.target, s.activeZc, false, false⟩, settleCount := 0, tally := 0
          settleSample := none, settleTimer := some 0, saturated := 0, reach := none } ∧
        BytesKeptOutside [(entryAddr r.entry 0, 4), (entryAddr r.entry 10, 4)] s t ∧
        KeptBut [.bytes, .list, .line, .trim, .head] s t ∧ CausesKeptBut [] s t) ∧
      (LossFails s →
        t.trim.attempt = none ∧ t.head.gripper.state = .holding ∧ t.head.gripper.content = .void (some r.entry) ∧
          t.head.gripper.brick = true ∧ (¬UnderCloseRequest s r.entry → AttemptFailed r .trackLost s t))) ∧
  (∀ f bytes n s, ReportsDone s .gripper .take bytes n → s.head.gripper.content = .void f →
    ∃ t, exec (.queryReply bytes) s = .next t ∧
      t.head = { s.head with
        bay := .cleared
        gripper := { Gripper.cleared with
          state := .holding, content := .void f, brick := true, openTimer := s.head.bay.openTimer }
        lastTransit := (s.head.bay.rootTime.map fun root => s.time - root).getD s.head.lastTransit } ∧
      KeptBut [.line, .head] s t ∧ CausesKeptBut [] s t) ∧
  (∀ place bytes n s, ReportsDone s .gripper (.eject place) bytes n →
    ∃ t, exec (.queryReply bytes) s = .next t ∧ t.head.binCount = s.head.binCount + 1 ∧
      (place = .bay → t.head.bay = .cleared ∧ t.head.gripper = s.head.gripper) ∧
      (place = .gripper → t.head.gripper = .cleared ∧ t.head.bay = s.head.bay) ∧
      (s.head.binCount = 11 → hasCause t .binFull = true) ∧ KeptBut [.line, .head] s t ∧
      CausesKeptBut [.binFull] s t)

/-- RELEASE DONE lays the entry: deviation, settle samples and DONE, then LAID; its record leaves the list, the course counts
it, the attempt record ends and the gripper is EMPTY. Of a void brick it notes the entry it last belonged to. That the fields
of kind PROBE are made 0 is the model's choice (log entry 15), and so is that a closing is an update of the course record of
its own (log entry 8). -/
def Obligations.ReleaseDoneLaysTheEntry : Prop :=
  (∀ i bytes n s, BookWf s → ReportsDone s .gripper .release bytes n → s.head.gripper.content = .entry i →
    DeviationFits s.head.gripper.deviation → s.head.gripper.tally ≤ 65535 →
    ∃ t, exec (.queryReply bytes) s = .next t ∧ t.entryState i = some .laid ∧ ResultOf i .done s t ∧
      fieldSigned (t.word (entryAddr i 8)) 0 = s.head.gripper.deviation.x ∧
      fieldSigned (t.word (entryAddr i 8)) 16 = s.head.gripper.deviation.y ∧
      fieldSigned (t.word (entryAddr i 9)) 0 = s.head.gripper.deviation.z ∧
      fieldSigned (t.word (entryAddr i 9)) 16 = s.head.gripper.deviation.yaw ∧
      field (t.word (entryAddr i 10)) 16 16 = s.head.gripper.tally ∧
      field (t.word (entryAddr i 10)) 0 16 = field (s.word (entryAddr i 10)) 0 16 ∧
      t.word (entryAddr i 11) = 0 ∧ t.word (entryAddr i 12) = 0 ∧
      t.word (entryAddr i 13) = s.time ∧ t.issue.list = s.issue.list.filter (fun r => r.entry ≠ i) ∧
      t.trim.attempt = none ∧ t.head = { s.head with gripper := .cleared, restartTimer := none } ∧
      CountsAs i (fun k => { s.courseFigures k with
        remaining := (s.courseFigures k).remaining - 1, laid := (s.courseFigures k).laid + 1
        devSum := (s.courseFigures k).devSum + s.head.gripper.deviation.z
        maxX := max (s.courseFigures k).maxX (min 32767 s.head.gripper.deviation.x.natAbs)
        maxY := max (s.courseFigures k).maxY (min 32767 s.head.gripper.deviation.y.natAbs)
        maxZ := max (s.courseFigures k).maxZ (min 32767 s.head.gripper.deviation.z.natAbs)
        maxYaw := max (s.courseFigures k).maxYaw (min 32767 s.head.gripper.deviation.yaw.natAbs) }) s t ∧
      CountedBytes i [(entryAddr i 0, 4), (entryAddr i 7, 28)] s t ∧
      KeptBut [.bytes, .seq, .list, .line, .trim, .head] s t ∧ CausesKeptBut [.courseClosed] s t) ∧
  (∀ f bytes n s, ReportsDone s .gripper .release bytes n → s.head.gripper.content = .void f →
    ∃ t, exec (.queryReply bytes) s = .next t ∧
      t.head = { s.head with gripper := .cleared, lastVoidRelease := f } ∧ KeptBut [.line, .head] s t ∧
      CausesKeptBut [] s t)

/-- PROBE DONE with a stroke p records the measured top G_z + S_z − p and its deviation from the target, then PROBED; an
entry with APPLY is counted into the applied probes, and in mode PROBE Zc is computed again. A stroke above 600 fails the
operation with RANGE, and the attempt with GRIP_FAULT. A void PROBE DONE makes the gripper EMPTY; its stroke is discarded,
and nothing is written or counted. That the measured top, where it is written, is narrowed by taking the nearest end is the
model's reading (log entry 16); that the fields of kind LAY are made 0 is its choice (log entry 15), and so is that a closing
is an update of the course record of its own (log entry 8). -/
def Obligations.ProbeDoneRecordsTheTop : Prop :=
  (∀ i a gz sz top dev bytes n s, BookWf s → ReportsDone s .gripper .probe bytes n → n.toNat ≤ 600 →
    s.head.gripper.content = .entry i → s.trim.attempt = some a → s.trim.settleSample = some (gz, sz) →
    s.head.gripper.tally ≤ 65535 → Clamped (-2000000) 2000000 (gz + sz - (n.toNat : Int)) top →
    Clamped (-32767) 32767 (gz + sz - (n.toNat : Int) - a.target.z) dev →
    ∃ t, exec (.queryReply bytes) s = .next t ∧ t.entryState i = some .probed ∧ ResultOf i .done s t ∧
      (t.word (entryAddr i 11)).toInt = top ∧ fieldSigned (t.word (entryAddr i 12)) 0 = dev ∧
      field (t.word (entryAddr i 10)) 16 16 = s.head.gripper.tally ∧ field (t.word (entryAddr i 10)) 0 16 = 0 ∧
      t.word (entryAddr i 8) = 0 ∧ t.word (entryAddr i 9) = 0 ∧ t.word (entryAddr i 13) = s.time ∧
      t.issue.list = s.issue.list.filter (fun r => r.entry ≠ i) ∧ t.trim.attempt = none ∧
      t.head = { s.head with gripper := .cleared, restartTimer := none } ∧
      CountsAs i (fun k =>
        if s.entryApply i then
          { s.courseFigures k with
            remaining := (s.courseFigures k).remaining - 1, probed := (s.courseFigures k).probed + 1
            applied := (s.courseFigures k).applied + 1, appliedSum := (s.courseFigures k).appliedSum + dev
            zc := if s.courseMode k = .probe then
                computeZc ((s.courseFigures k).appliedSum + dev) ((s.courseFigures k).applied + 1) s.seq.profile.zmax
              else (s.courseFigures k).zc }
        else { s.courseFigures k with
          remaining := (s.courseFigures k).remaining - 1, probed := (s.courseFigures k).probed + 1 }) s t ∧
      CountedBytes i [(entryAddr i 0, 4), (entryAddr i 7, 28)] s t ∧
      KeptBut [.bytes, .seq, .list, .line, .trim, .head] s t ∧ CausesKeptBut [.courseClosed] s t) ∧
  (∀ bytes n s, ReportsDone s .gripper .probe bytes n → 600 < n.toNat → (s.line.at .gripper).state ≠ .faulted →
    ∃ t, exec (.queryReply bytes) s = .next t ∧ (t.line.at .gripper).state = .faulted ∧
      (t.line.at .gripper).lastError = errorRange ∧ ServedAttemptFails s .probe t ∧ hasCause t .headStation = true ∧
      HaltRequested s t ∧ KeptBut haltBlocks s t ∧
      CausesKeptBut [.headStation, .halted, .entryFailed, .courseClosed] s t) ∧
  (∀ f bytes n s, ReportsDone s .gripper .probe bytes n → n.toNat ≤ 600 → s.head.gripper.content = .void f →
    ∃ t, exec (.queryReply bytes) s = .next t ∧ (t.line.at .gripper).state = .ready ∧
      (t.line.at .gripper).operation = .none ∧ t.head = { s.head with gripper := .cleared, restartTimer := none } ∧
      t.trim.attempt = none ∧ t.trim.settleSample = none ∧ t.trim.setPoint = s.trim.setPoint ∧
      KeptBut [.line, .trim, .head] s t ∧ CausesKeptBut [] s t)

/-! ### Power-on and control reset -/

/-- Power-on clears the book but for its header, sets every block to its power-on state and stands in INIT with the stations
sensed and the profile latched, the profile words keeping what the host writes to them meanwhile; the calibration store is all
that is kept, and a commit in progress of an image that passes its test leaves in it what had been written. Of an EMPTY place at
the head R167 gives the state, the content, the timer and the confirm mark; what its other fields hold is the model's choice
(log entry 27). -/
def Obligations.PowerOnClearsThePart : Prop :=
  ∀ lines em w during s,
    ∃ t, exec (.powerOn ⟨lines, during⟩ em w) s = .next t ∧
      (∀ f, t.word (profileAddr f) = writtenWord during f (profileDefault f)) ∧ t.word layoutVersionAddr = 1 ∧
      (∀ a, (a < layoutVersionAddr ∨ layoutVersionAddr + 4 ≤ a) → (∀ f, a < profileAddr f ∨ profileAddr f + 4 ≤ a) →
        t.book.cells.read a = 0) ∧
      t.seq = ⟨0, none, false, State.reset.latchedProfile during, 0, 0⟩ ∧ (during = [] → t.seq.profile = .default) ∧
      t.issue = ⟨[], none, false⟩ ∧ t.train = ⟨[], false, false⟩ ∧ SensedLine lines 0 t.line ∧
      t.tracker = { State.reset.tracker with receiving := true } ∧
      t.trim = { State.reset.trim with
        driveEnable := !em, sending := true, nextFrame := 1, lastFrame := setPointFrame 0 (!em) .zero } ∧
      t.head = ⟨.cleared, .cleared, none, 0, 0, none⟩ ∧ t.status.fields = t.statusNow ∧
      t.control = ⟨.init, false, false, false, em, false, true, true, false⟩ ∧
      t.host.cause = 0 ∧ t.host.mask = 0 ∧ t.host.attention = false ∧ t.time = 0 ∧
      t.cal.valid = false ∧ t.cal.busy = false ∧ t.pending = s.pending ∧
      (s.cal.busy = false ∨ ¬ImageGood s.image ∨ w = .notBegun → t.cal.store = s.cal.store) ∧
      (s.cal.busy = true → ImageGood s.image → w = .finished → t.cal.store = s.image) ∧
      (∀ done, s.cal.busy = true → ImageGood s.image → w = .writing done →
        t.cal.store[31] = ~~~s.image[31] ∧
          ∀ j : Fin 32, j.val < 31 →
            t.cal.store[j] = if done.getLsbD j.val then s.image[j] else s.cal.store[j])

/-- A reset of the host port in any state, and RESET outside INIT, enter INIT: the causes, the work in flight, the train, the
line, the attempt and the places at the head are cleared, S is 0 and its frame 0 is sent, and the profile is latched; in the
book the entries in flight return to POSTED and the ACTIVE course to OPEN, and the status block is rewritten in one update.
Counters, last-closed summary, bin count, calibration and every other word are kept, but for what the host writes to the
profile words meanwhile. What the EMPTY places at the head hold beside what R167 gives is the model's choice (log entry 27). -/
def Obligations.ControlResetClearsTheWork : Prop :=
  ∀ lines during c s, BookWf s → c = .hostPortReset ⟨lines, during⟩ ∨ (c = .reset ⟨lines, during⟩ ∧ s.control.state ≠ .init) →
    ∃ t, exec c s = .next t ∧
      t.control = ⟨.init, false, false, decide (s.word boomWordAddr ≠ 0), s.control.emergency, false, true, true, false⟩ ∧
      t.host.cause = 0 ∧ t.host.mask = 0 ∧ t.host.attention = false ∧ t.issue = ⟨[], none, false⟩ ∧
      t.train = ⟨[], false, false⟩ ∧ SensedLine lines s.time t.line ∧
      t.tracker = { s.tracker with
        receiving := true, collected := [], sequence := none, history := [], window := [], lossTimer := none
        state := .lost } ∧
      t.trim = { State.reset.trim with
        offset := s.trim.offset, range := s.trim.range, driveEnable := !s.control.emergency, sending := true
        nextFrame := 1, lastFrame := setPointFrame 0 (!s.control.emergency) .zero } ∧
      t.head = { s.head with bay := .cleared, gripper := .cleared, restartTimer := none, lastVoidRelease := none } ∧
      t.seq = { s.seq with active := none, closeMark := false, profile := s.latchedProfile during } ∧
      t.status.count = s.status.count + 2 ∧ t.status.fields = t.statusNow ∧
      (∀ i, InFlight s i → t.entryState i = some .posted) ∧ (∀ i, ¬InFlight s i → t.entryState i = s.entryState i) ∧
      (∀ i j, 1 ≤ j → j < 16 → t.word (entryAddr i j) = s.word (entryAddr i j)) ∧
      (∀ k, s.seq.active = some k →
        t.courseState k = some .opened ∧ t.word (courseAddr k 0) = s.word (courseAddr k 0) + 2) ∧
      (∀ k j, j < 16 → s.seq.active ≠ some k ∨ 2 ≤ j → t.word (courseAddr k j) = s.word (courseAddr k j)) ∧
      t.word layoutVersionAddr = 1 ∧ KeepsWrites during s t ∧
      (∀ a, (4 ≤ a ∧ a < 0x0100 ∧ ∀ f, a < profileAddr f ∨ profileAddr f + 4 ≤ a) ∨ (0x0600 ≤ a ∧ a < 0x0800) →
        t.book.cells.read a = s.book.cells.read a) ∧
      KeptBut [.bytes, .seq, .list, .feed, .queue, .limit, .line, .tracker, .trim, .head, .control, .mask] s t

/-! ### Calibration -/

/-- An accepted commit of a good image is busy until its end, when the store holds the image, calibration is valid and the
trim controller has its values; a commit of a bad image is rejected and changes nothing else, at once or, where its test
outlasts the command (a free value, log entry 40), at its end. The load of INIT copies the store into the image and judges it. -/
def Obligations.CalibrationIsCommittedAndLoaded : Prop :=
  (∀ s, CommitAllowed s → ImageGood s.image →
    ∃ t, exec .commitCal s = .next t ∧ t.cal = { s.cal with busy := true, acceptedAt := s.time } ∧
      KeptBut [.cal] s t ∧ CausesKeptBut [] s t) ∧
  (∀ s, CommitAllowed s → ¬ImageGood s.image →
    ∃ t, exec .commitCal s = .next t ∧
      (Config.testOutlasts s.free = false →
        hasCause t .calRejected = true ∧ KeptBut [] s t ∧ CausesKeptBut [.calRejected] s t) ∧
      (Config.testOutlasts s.free = true →
        t.cal = { s.cal with busy := true, acceptedAt := s.time } ∧ KeptBut [.cal] s t ∧ CausesKeptBut [] s t)) ∧
  (∀ s, s.cal.busy = true → ImageGood s.image →
    ∃ t, exec .commitEnd s = .next t ∧ t.cal = { s.cal with store := s.image, valid := true, busy := false } ∧
      TakesCalibration (calibrationOffset s.image) (calibrationRange s.image) s t ∧ hasCause t .calDone = true ∧
      KeptBut [.cal, .trim] s t ∧ CausesKeptBut [.calDone] s t) ∧
  (∀ s, s.cal.busy = true → ¬ImageGood s.image →
    ∃ t, exec .commitEnd s = .next t ∧ t.cal = { s.cal with busy := false } ∧ hasCause t .calRejected = true ∧
      KeptBut [.cal] s t ∧ CausesKeptBut [.calRejected] s t) ∧
  (∀ s, s.cal.busy = false → NoEffect .commitEnd s) ∧
  (∀ s, BookWf s → s.control.state = .init → s.cal.busy = false → s.control.loaded = false →
    ∃ t, exec .calLoad s = .next t ∧ t.image = s.cal.store ∧ t.control = { s.control with loaded := true } ∧
      (ImageGood s.cal.store →
        t.cal = { s.cal with valid := true } ∧
          TakesCalibration (calibrationOffset s.cal.store) (calibrationRange s.cal.store) s t) ∧
      (¬ImageGood s.cal.store → t.cal = { s.cal with valid := false } ∧ TakesCalibration .zero ⟨1, 1, 1, 1⟩ s t) ∧
      BytesKeptOutside [(imageAddr 0, 128)] s t ∧ KeptBut [.bytes, .cal, .trim, .control] s t ∧ CausesKeptBut [] s t) ∧
  (∀ s, s.cal.busy = true → NoEffect .calLoad s)

/-! ### Arithmetic and frames -/

/-- Zc of a sum and a count is 0 for a count of 0, and else the quotient truncated toward zero, held within ±Zmax. -/
def Obligations.CarriedCorrectionTruncatesAndClamps : Prop :=
  (∀ sum zmax, computeZc sum 0 zmax = 0) ∧
  (∀ sum n zmax, 0 ≤ zmax → Within zmax (computeZc sum n zmax)) ∧
  (∀ (sum : Int) (n : Nat) (q zmax : Int), 0 < n → 0 ≤ zmax →
    (q * n ≤ sum ∧ sum < (q + 1) * n ∧ 0 ≤ sum ∨ (q - 1) * n < sum ∧ sum ≤ q * n ∧ sum ≤ 0) →
    (Within zmax q → computeZc sum n zmax = q) ∧ (zmax < q → computeZc sum n zmax = zmax) ∧
      (q < -zmax → computeZc sum n zmax = -zmax))

/-- Every command frame and every set-point frame is closed by the byte that makes its sum 0 modulo 256; a tracker frame and
a complete reply whose sum is not 0 are not good, whatever else they hold. -/
def Obligations.FramesSumToZero : Prop :=
  (∀ p c, byteSum (commandFrame p c) = 0 ∧ (commandFrame p c).length = 4 + (commandOperands c).length) ∧
  (∀ n e sp, byteSum (setPointFrame n e sp) = 0 ∧ (setPointFrame n e sp).length = 11) ∧
  (∀ bytes, byteSum bytes ≠ 0 → judgeFrame bytes = .malformed) ∧
  (∀ p q lead w0 w1 rest, rest.length ≤ 9 → rest ≠ [] →
    byteSum (lead :: w0 :: w1 :: BitVec.ofNat 8 (rest.length - 1) :: rest) ≠ 0 →
    judgeReply p q (lead :: w0 :: w1 :: BitVec.ofNat 8 (rest.length - 1) :: rest) = .notGood)

/-! ### Invariants -/

/-- At the instant of power-on, as State.reset gives it, every invariant holds. The state of power-on is the manual's but for
what it leaves open: the model's choices there are the emergency line clear (log entry 3), the values of log entries 2 and 4,
and the profile that stands until the first latch (log entry 27). -/
def Obligations.PowerOnStateMeetsTheInvariants : Prop :=
  BookWf .reset ∧ OneActiveCourse .reset ∧ Derived .reset ∧ EmergencyHeld .reset ∧ StageWithinRange .reset ∧
    ListEmptyAtRest .reset ∧ HaltHoldsNoWork .reset ∧ ListInFlight .reset ∧ DistinctEntries .reset ∧ WithinBounds .reset

/-- Every step keeps the book's memory canonical, and keeps the ACTIVE course record the only one and the one that the course
sequencer names. -/
def Obligations.StepsKeepTheBookAndItsActiveCourse : Prop :=
  ∀ s t, step s = .next t → BookWf s → BookWf t ∧ (OneActiveCourse s → OneActiveCourse t)

/-- Every step leaves the interrupt, the train drive, the starved condition and the status block as the rest of the state
demands: starved is a LAY feed to order, for a candidate that lacks nothing but a feeder or for a refeed, with neither feeder
READY. -/
def Obligations.StepsKeepTheOutputsDerived : Prop :=
  ∀ s t, step s = .next t → Derived s → Derived t

/-- Every step keeps S within the stage ranges, the ranges within their bounds, S at 0 while the emergency line is asserted,
and the drive enable the opposite of that line. -/
def Obligations.StepsKeepTheStageWithinRange : Prop :=
  ∀ s t, step s = .next t → StageWithinRange s → EmergencyHeld s → StageWithinRange t ∧ EmergencyHeld t

/-- Every step keeps the issue list empty outside RUN and DRAIN, and in HALT keeps feed, carriers and the places at the head
void. -/
def Obligations.StepsKeepHaltWithoutWork : Prop :=
  ∀ s t, step s = .next t → ListEmptyAtRest s → HaltHoldsNoWork s → ListEmptyAtRest t ∧ HaltHoldsNoWork t

/-- Every step keeps every entry of the issue list in flight, and no entry in it twice. -/
def Obligations.StepsKeepTheListInFlight : Prop :=
  ∀ s t, step s = .next t → BookWf s → ListInFlight s → DistinctEntries s → ListInFlight t ∧ DistinctEntries t

/-- Every step keeps the list, the train, the history, the window, the counters and the reject bin within the sizes the manual
gives them, the latched profile within its ranges, and each command at a station it is for, with one eject at a time. -/
def Obligations.StepsKeepTheBounds : Prop :=
  ∀ s t, step s = .next t → WithinBounds s → WithinBounds t
end

