-- ==== Sys2Proof/Laws/Access.lean ====
section
/-! SUPPORT. A host write to the book decodes to the command it is (R2, R197). -/

namespace Sys2Proof

open Sys2Proof.Machine

/-- The host write that a command is: offset, bytes carried and value; `none` for a command that is not a host write to the
book. -/
def bookAccess : Instr → Option (BitVec 16 × BitVec 4 × Word)
  | .powerOn _ _ _ => none
  | .hostPortReset _ => none
  | .run => none
  | .stop => none
  | .abort => none
  | .reset _ => none
  | .commitCal => none
  | .refusedCommandCode _ => none
  | .manualRequestSet => none
  | .manualRequestClear => none
  | .causeRead _ => none
  | .maskSet _ => none
  | .maskClear _ => none
  | .ignoredRegisterWrite _ _ _ => none
  | .partialBookWrite offset lanes value => some (offset, lanes, value)
  | .spareWordWrite offset value => some (offset, 0xF, value)
  | .statusBlockWrite offset value => some (offset, 0xF, value)
  | .layoutVersionWrite value => some (BitVec.ofNat 16 layoutVersionAddr, 0xF, value)
  | .entryPostWrite i => some (BitVec.ofNat 16 (entryAddr i 0), 0xF, 0x01)
  | .entryFreeWrite i => some (BitVec.ofNat 16 (entryAddr i 0), 0xF, 0x00)
  | .entryCancelWrite i => some (BitVec.ofNat 16 (entryAddr i 0), 0xF, 0x0B)
  | .confirm i => some (BitVec.ofNat 16 (entryAddr i 0), 0xF, 0x0C)
  | .entryFieldWrite i w value => some (BitVec.ofNat 16 (entryAddr i (entryWordNumber w)), 0xF, value)
  | .courseOpenWrite k => some (BitVec.ofNat 16 (courseAddr k 1), 0xF, 0x01)
  | .courseEmptyWrite k => some (BitVec.ofNat 16 (courseAddr k 1), 0xF, 0x00)
  | .closeRequest k => some (BitVec.ofNat 16 (courseAddr k 1), 0xF, 0x04)
  | .courseFieldWrite k w value => some (BitVec.ofNat 16 (courseAddr k (courseWordNumber w)), 0xF, value)
  | .boomWordWrite value => some (BitVec.ofNat 16 boomWordAddr, 0xF, value)
  | .binEmptiedWrite value => some (BitVec.ofNat 16 binEmptiedAddr, 0xF, value)
  | .jogWordWrite axis value => some (BitVec.ofNat 16 (jogAddr axis), 0xF, value)
  | .profileWordWrite field value => some (BitVec.ofNat 16 (profileAddr field), 0xF, value)
  | .calImageWrite j value => some (BitVec.ofNat 16 (imageAddr j.val), 0xF, value)
  | .emergencyAssert => none
  | .emergencyClear => none
  | .rootSensor => none
  | .baySensor => none
  | .trackerFrame _ => none
  | .trackerByteGap _ => none
  | .commandReply _ => none
  | .queryReply _ => none
  | .replyDeadline => none
  | .stationByteGap => none
  | .pollDue _ => none
  | .lineGrant => none
  | .holdTimerExpiry _ => none
  | .feedTimerExpiry => none
  | .jam => none
  | .lossTimerExpiry => none
  | .settleLimitExpiry => none
  | .openTimeExpiry _ => none
  | .restartDelayExpiry => none
  | .setpointFrameEnd => none
  | .commitEnd => none
  | .calLoad => none
  | .initEnd => none
  | .courseActivation _ => none
  | .entryTake _ => none
  | .refeed => none
  | .headRequest _ => none
  | .probeTakeUp => none
  | .manualGrant => none
  | .drainEnd => none
  | .replyNotGood _ => none
  | .stateWriteDiscarded (.entry i) code => some (BitVec.ofNat 16 (entryAddr i 0), 0xF, code.zeroExtend 32)
  | .stateWriteDiscarded (.course k) code => some (BitVec.ofNat 16 (courseAddr k 1), 0xF, code.zeroExtend 32)

theorem whole_of_entry (i : EntryIx) (w : Nat) (hw : w < 16) (v : Word) :
    bookWrite (BitVec.ofNat 16 (entryAddr i w)) 0xF v = entryWrite i w (BitVec.ofNat 16 (entryAddr i w)) v := by
  have hi := i.isLt
  have ha : (BitVec.ofNat 16 (entryAddr i w)).toNat = entryAddr i w := by
    simp only [BitVec.toNat_ofNat, entryAddr]; omega
  unfold bookWrite wholeBookWrite
  simp only [if_true, ha]
  have h1 : ¬entryAddr i w < 0x0100 := by simp only [entryAddr]; omega
  have h2 : ¬entryAddr i w < 0x0500 := by simp only [entryAddr]; omega
  have h3 : ¬entryAddr i w < 0x0600 := by simp only [entryAddr]; omega
  have h4 : ¬entryAddr i w < 0x0680 := by simp only [entryAddr]; omega
  have h5 : ¬entryAddr i w < 0x0800 := by simp only [entryAddr]; omega
  rw [if_neg h1, dif_neg h2, if_neg h3, dif_neg h4, if_neg h5]
  congr 1
  · apply Fin.ext; simp only [entryAddr]; omega
  · simp only [entryAddr]; omega

theorem whole_of_course (k : Slot) (w : Nat) (hw : w < 16) (v : Word) :
    bookWrite (BitVec.ofNat 16 (courseAddr k w)) 0xF v = courseWrite k w (BitVec.ofNat 16 (courseAddr k w)) v := by
  have hi := k.isLt
  have ha : (BitVec.ofNat 16 (courseAddr k w)).toNat = courseAddr k w := by
    simp only [BitVec.toNat_ofNat, courseAddr]; omega
  unfold bookWrite wholeBookWrite
  simp only [if_true, ha]
  have h1 : ¬courseAddr k w < 0x0100 := by simp only [courseAddr]; omega
  have h2 : courseAddr k w < 0x0500 := by simp only [courseAddr]; omega
  rw [if_neg h1, dif_pos h2]
  congr 1
  · apply Fin.ext; simp only [courseAddr]; omega
  · simp only [courseAddr]; omega

theorem whole_of_image (j : Fin 32) (v : Word) :
    bookWrite (BitVec.ofNat 16 (imageAddr j.val)) 0xF v = .calImageWrite j v := by
  have hj := j.isLt
  have ha : (BitVec.ofNat 16 (imageAddr j.val)).toNat = imageAddr j.val := by
    simp only [BitVec.toNat_ofNat, imageAddr]; omega
  unfold bookWrite wholeBookWrite
  simp only [if_true, ha]
  have h1 : ¬imageAddr j.val < 0x0100 := by simp only [imageAddr]; omega
  have h2 : ¬imageAddr j.val < 0x0500 := by simp only [imageAddr]; omega
  have h3 : ¬imageAddr j.val < 0x0600 := by simp only [imageAddr]; omega
  have h4 : imageAddr j.val < 0x0680 := by simp only [imageAddr]; omega
  rw [if_neg h1, dif_neg h2, if_neg h3, dif_pos h4]
  congr 1
  apply Fin.ext; simp only [imageAddr]; omega

theorem header_of_spare (a : Nat) (offset : BitVec 16) (v : Word) (h : a = 0x000C ∨ 0x007C ≤ a) :
    headerWrite a offset v = .spareWordWrite offset v := by
  have h1 : ([Axis.x, .y, .z, .yaw].find? fun axis => jogAddr axis = a) = none := by
    rw [List.find?_eq_none]; intro c _; simp only [decide_eq_true_eq]; cases c <;> simp only [jogAddr] <;> omega
  have h2 : (profileFields.find? fun f => profileAddr f = a) = none := by
    rw [List.find?_eq_none]; intro c _; simp only [decide_eq_true_eq]; cases c <;> simp only [profileAddr] <;> omega
  unfold headerWrite
  rw [if_neg (by simp only [layoutVersionAddr]; omega), if_neg (by simp only [boomWordAddr]; omega),
    if_neg (by simp only [binEmptiedAddr]; omega), h1, h2]

theorem low_byte (c : Byte) : (c.zeroExtend 32).extractLsb' 0 8 = c := by
  ext n hn; simp [hn]; omega

/-- A well-formed host write to the book decodes to its command: no bit of it is dropped. -/
theorem bookWrite_access (c : Instr) (hc : c.wellFormed = true) (o : BitVec 16) (lanes : BitVec 4) (v : Word)
    (h : bookAccess c = some (o, lanes, v)) : bookWrite o lanes v = c := by
  unfold bookAccess at h
  split at h <;> first
    | (cases h; done)
    | (simp only [Option.some.injEq, Prod.mk.injEq] at h; obtain ⟨rfl, rfl, rfl⟩ := h)
  case h_15 =>
    simp only [Instr.wellFormed, partialLanes, Bool.and_eq_true, decide_eq_true_eq] at hc
    exact if_neg hc.2.2
  case h_16 offset _ =>
    simp only [Instr.wellFormed, isSpare, aligned, Bool.and_eq_true, Bool.or_eq_true, decide_eq_true_eq] at hc
    have hlt := offset.isLt
    unfold bookWrite wholeBookWrite
    simp only [if_true]
    rcases hc.2 with ((h | h) | h) | h
    · rw [if_pos (by omega)]; exact header_of_spare _ _ _ (.inl h)
    · rw [if_pos (by omega)]; exact header_of_spare _ _ _ (.inr h.1)
    · rw [if_neg (by omega), dif_neg (by omega), if_neg (by omega), dif_neg (by omega), if_pos (by omega)]
    · rw [if_neg (by omega), dif_neg (by omega), if_neg (by omega), dif_neg (by omega), if_neg (by omega)]
      have hw : (offset.toNat - 0x0800) % 64 / 4 = 14 ∨ (offset.toNat - 0x0800) % 64 / 4 = 15 := by omega
      rcases hw with hw | hw <;> rw [hw] <;> rfl
  case h_17 =>
    simp only [Instr.wellFormed, Bool.and_eq_true, decide_eq_true_eq] at hc
    unfold bookWrite wholeBookWrite
    simp only [if_true]
    rw [if_neg (by omega), dif_neg (by omega), if_pos (by omega)]
  case h_18 => rfl
  case h_23 w _ => rw [whole_of_entry _ _ (by cases w <;> decide)]; cases w <;> rfl
  case h_27 w _ => rw [whole_of_course _ _ (by cases w <;> decide)]; cases w <;> rfl
  case h_28 => rfl
  case h_29 => rfl
  case h_30 axis _ => cases axis <;> rfl
  case h_31 field _ => cases field <;> rfl
  case h_32 j _ => exact whole_of_image j _
  all_goals first
    | (rw [whole_of_entry _ _ (by decide)]; simp [entryWrite, entryStateWrite]; done)
    | (rw [whole_of_course _ _ (by decide)]; simp [courseWrite, courseStateWrite]; done)
    | skip
  all_goals simp only [Instr.wellFormed, entryRowCode, courseRowCode, Bool.not_eq_true', decide_eq_false_iff_not,
      not_or] at hc
  · rw [whole_of_entry _ _ (by decide)]
    unfold entryWrite entryStateWrite
    rw [if_pos rfl, low_byte, if_neg hc.1, if_neg hc.2.1, if_neg hc.2.2.1, if_neg hc.2.2.2]
  · rw [whole_of_course _ _ (by decide)]
    unfold courseWrite courseStateWrite
    rw [if_pos rfl, low_byte, if_neg hc.1, if_neg hc.2.1, if_neg hc.2.2]

end Sys2Proof
end

