-- ==== Sys2Proof/Laws/State.lean ====
section
/-! SUPPORT. One lemma per block per replacement of a block: what was put there, and everything else as it was. -/

namespace Sys2Proof.Machine

/-! ### `State.withHost` -/

@[simp] theorem State.withHost_host (s : State) (x : HostPort) : (s.withHost x).host = x := rfl
@[simp] theorem State.withHost_book (s : State) (x : HostPort) : (s.withHost x).book = s.book := rfl
@[simp] theorem State.withHost_status (s : State) (x : HostPort) : (s.withHost x).status = s.status := rfl
@[simp] theorem State.withHost_seq (s : State) (x : HostPort) : (s.withHost x).seq = s.seq := rfl
@[simp] theorem State.withHost_issue (s : State) (x : HostPort) : (s.withHost x).issue = s.issue := rfl
@[simp] theorem State.withHost_train (s : State) (x : HostPort) : (s.withHost x).train = s.train := rfl
@[simp] theorem State.withHost_line (s : State) (x : HostPort) : (s.withHost x).line = s.line := rfl
@[simp] theorem State.withHost_tracker (s : State) (x : HostPort) : (s.withHost x).tracker = s.tracker := rfl
@[simp] theorem State.withHost_trim (s : State) (x : HostPort) : (s.withHost x).trim = s.trim := rfl
@[simp] theorem State.withHost_head (s : State) (x : HostPort) : (s.withHost x).head = s.head := rfl
@[simp] theorem State.withHost_control (s : State) (x : HostPort) : (s.withHost x).control = s.control := rfl
@[simp] theorem State.withHost_cal (s : State) (x : HostPort) : (s.withHost x).cal = s.cal := rfl
@[simp] theorem State.withHost_time (s : State) (x : HostPort) : (s.withHost x).time = s.time := rfl
@[simp] theorem State.withHost_free (s : State) (x : HostPort) : (s.withHost x).free = s.free := rfl
@[simp] theorem State.withHost_pending (s : State) (x : HostPort) : (s.withHost x).pending = s.pending := rfl

/-! ### `State.withBook` -/

@[simp] theorem State.withBook_host (s : State) (x : Book) : (s.withBook x).host = s.host := rfl
@[simp] theorem State.withBook_book (s : State) (x : Book) : (s.withBook x).book = x := rfl
@[simp] theorem State.withBook_status (s : State) (x : Book) : (s.withBook x).status = s.status := rfl
@[simp] theorem State.withBook_seq (s : State) (x : Book) : (s.withBook x).seq = s.seq := rfl
@[simp] theorem State.withBook_issue (s : State) (x : Book) : (s.withBook x).issue = s.issue := rfl
@[simp] theorem State.withBook_train (s : State) (x : Book) : (s.withBook x).train = s.train := rfl
@[simp] theorem State.withBook_line (s : State) (x : Book) : (s.withBook x).line = s.line := rfl
@[simp] theorem State.withBook_tracker (s : State) (x : Book) : (s.withBook x).tracker = s.tracker := rfl
@[simp] theorem State.withBook_trim (s : State) (x : Book) : (s.withBook x).trim = s.trim := rfl
@[simp] theorem State.withBook_head (s : State) (x : Book) : (s.withBook x).head = s.head := rfl
@[simp] theorem State.withBook_control (s : State) (x : Book) : (s.withBook x).control = s.control := rfl
@[simp] theorem State.withBook_cal (s : State) (x : Book) : (s.withBook x).cal = s.cal := rfl
@[simp] theorem State.withBook_time (s : State) (x : Book) : (s.withBook x).time = s.time := rfl
@[simp] theorem State.withBook_free (s : State) (x : Book) : (s.withBook x).free = s.free := rfl
@[simp] theorem State.withBook_pending (s : State) (x : Book) : (s.withBook x).pending = s.pending := rfl

/-! ### `State.withStatus` -/

@[simp] theorem State.withStatus_host (s : State) (x : StatusBlock) : (s.withStatus x).host = s.host := rfl
@[simp] theorem State.withStatus_book (s : State) (x : StatusBlock) : (s.withStatus x).book = s.book := rfl
@[simp] theorem State.withStatus_status (s : State) (x : StatusBlock) : (s.withStatus x).status = x := rfl
@[simp] theorem State.withStatus_seq (s : State) (x : StatusBlock) : (s.withStatus x).seq = s.seq := rfl
@[simp] theorem State.withStatus_issue (s : State) (x : StatusBlock) : (s.withStatus x).issue = s.issue := rfl
@[simp] theorem State.withStatus_train (s : State) (x : StatusBlock) : (s.withStatus x).train = s.train := rfl
@[simp] theorem State.withStatus_line (s : State) (x : StatusBlock) : (s.withStatus x).line = s.line := rfl
@[simp] theorem State.withStatus_tracker (s : State) (x : StatusBlock) : (s.withStatus x).tracker = s.tracker := rfl
@[simp] theorem State.withStatus_trim (s : State) (x : StatusBlock) : (s.withStatus x).trim = s.trim := rfl
@[simp] theorem State.withStatus_head (s : State) (x : StatusBlock) : (s.withStatus x).head = s.head := rfl
@[simp] theorem State.withStatus_control (s : State) (x : StatusBlock) : (s.withStatus x).control = s.control := rfl
@[simp] theorem State.withStatus_cal (s : State) (x : StatusBlock) : (s.withStatus x).cal = s.cal := rfl
@[simp] theorem State.withStatus_time (s : State) (x : StatusBlock) : (s.withStatus x).time = s.time := rfl
@[simp] theorem State.withStatus_free (s : State) (x : StatusBlock) : (s.withStatus x).free = s.free := rfl
@[simp] theorem State.withStatus_pending (s : State) (x : StatusBlock) : (s.withStatus x).pending = s.pending := rfl

/-! ### `State.withSeq` -/

@[simp] theorem State.withSeq_host (s : State) (x : Sequencer) : (s.withSeq x).host = s.host := rfl
@[simp] theorem State.withSeq_book (s : State) (x : Sequencer) : (s.withSeq x).book = s.book := rfl
@[simp] theorem State.withSeq_status (s : State) (x : Sequencer) : (s.withSeq x).status = s.status := rfl
@[simp] theorem State.withSeq_seq (s : State) (x : Sequencer) : (s.withSeq x).seq = x := rfl
@[simp] theorem State.withSeq_issue (s : State) (x : Sequencer) : (s.withSeq x).issue = s.issue := rfl
@[simp] theorem State.withSeq_train (s : State) (x : Sequencer) : (s.withSeq x).train = s.train := rfl
@[simp] theorem State.withSeq_line (s : State) (x : Sequencer) : (s.withSeq x).line = s.line := rfl
@[simp] theorem State.withSeq_tracker (s : State) (x : Sequencer) : (s.withSeq x).tracker = s.tracker := rfl
@[simp] theorem State.withSeq_trim (s : State) (x : Sequencer) : (s.withSeq x).trim = s.trim := rfl
@[simp] theorem State.withSeq_head (s : State) (x : Sequencer) : (s.withSeq x).head = s.head := rfl
@[simp] theorem State.withSeq_control (s : State) (x : Sequencer) : (s.withSeq x).control = s.control := rfl
@[simp] theorem State.withSeq_cal (s : State) (x : Sequencer) : (s.withSeq x).cal = s.cal := rfl
@[simp] theorem State.withSeq_time (s : State) (x : Sequencer) : (s.withSeq x).time = s.time := rfl
@[simp] theorem State.withSeq_free (s : State) (x : Sequencer) : (s.withSeq x).free = s.free := rfl
@[simp] theorem State.withSeq_pending (s : State) (x : Sequencer) : (s.withSeq x).pending = s.pending := rfl

/-! ### `State.withIssue` -/

@[simp] theorem State.withIssue_host (s : State) (x : IssueUnit) : (s.withIssue x).host = s.host := rfl
@[simp] theorem State.withIssue_book (s : State) (x : IssueUnit) : (s.withIssue x).book = s.book := rfl
@[simp] theorem State.withIssue_status (s : State) (x : IssueUnit) : (s.withIssue x).status = s.status := rfl
@[simp] theorem State.withIssue_seq (s : State) (x : IssueUnit) : (s.withIssue x).seq = s.seq := rfl
@[simp] theorem State.withIssue_issue (s : State) (x : IssueUnit) : (s.withIssue x).issue = x := rfl
@[simp] theorem State.withIssue_train (s : State) (x : IssueUnit) : (s.withIssue x).train = s.train := rfl
@[simp] theorem State.withIssue_line (s : State) (x : IssueUnit) : (s.withIssue x).line = s.line := rfl
@[simp] theorem State.withIssue_tracker (s : State) (x : IssueUnit) : (s.withIssue x).tracker = s.tracker := rfl
@[simp] theorem State.withIssue_trim (s : State) (x : IssueUnit) : (s.withIssue x).trim = s.trim := rfl
@[simp] theorem State.withIssue_head (s : State) (x : IssueUnit) : (s.withIssue x).head = s.head := rfl
@[simp] theorem State.withIssue_control (s : State) (x : IssueUnit) : (s.withIssue x).control = s.control := rfl
@[simp] theorem State.withIssue_cal (s : State) (x : IssueUnit) : (s.withIssue x).cal = s.cal := rfl
@[simp] theorem State.withIssue_time (s : State) (x : IssueUnit) : (s.withIssue x).time = s.time := rfl
@[simp] theorem State.withIssue_free (s : State) (x : IssueUnit) : (s.withIssue x).free = s.free := rfl
@[simp] theorem State.withIssue_pending (s : State) (x : IssueUnit) : (s.withIssue x).pending = s.pending := rfl

/-! ### `State.withTrain` -/

@[simp] theorem State.withTrain_host (s : State) (x : Train) : (s.withTrain x).host = s.host := rfl
@[simp] theorem State.withTrain_book (s : State) (x : Train) : (s.withTrain x).book = s.book := rfl
@[simp] theorem State.withTrain_status (s : State) (x : Train) : (s.withTrain x).status = s.status := rfl
@[simp] theorem State.withTrain_seq (s : State) (x : Train) : (s.withTrain x).seq = s.seq := rfl
@[simp] theorem State.withTrain_issue (s : State) (x : Train) : (s.withTrain x).issue = s.issue := rfl
@[simp] theorem State.withTrain_train (s : State) (x : Train) : (s.withTrain x).train = x := rfl
@[simp] theorem State.withTrain_line (s : State) (x : Train) : (s.withTrain x).line = s.line := rfl
@[simp] theorem State.withTrain_tracker (s : State) (x : Train) : (s.withTrain x).tracker = s.tracker := rfl
@[simp] theorem State.withTrain_trim (s : State) (x : Train) : (s.withTrain x).trim = s.trim := rfl
@[simp] theorem State.withTrain_head (s : State) (x : Train) : (s.withTrain x).head = s.head := rfl
@[simp] theorem State.withTrain_control (s : State) (x : Train) : (s.withTrain x).control = s.control := rfl
@[simp] theorem State.withTrain_cal (s : State) (x : Train) : (s.withTrain x).cal = s.cal := rfl
@[simp] theorem State.withTrain_time (s : State) (x : Train) : (s.withTrain x).time = s.time := rfl
@[simp] theorem State.withTrain_free (s : State) (x : Train) : (s.withTrain x).free = s.free := rfl
@[simp] theorem State.withTrain_pending (s : State) (x : Train) : (s.withTrain x).pending = s.pending := rfl

/-! ### `State.withLine` -/

@[simp] theorem State.withLine_host (s : State) (x : StationLine) : (s.withLine x).host = s.host := rfl
@[simp] theorem State.withLine_book (s : State) (x : StationLine) : (s.withLine x).book = s.book := rfl
@[simp] theorem State.withLine_status (s : State) (x : StationLine) : (s.withLine x).status = s.status := rfl
@[simp] theorem State.withLine_seq (s : State) (x : StationLine) : (s.withLine x).seq = s.seq := rfl
@[simp] theorem State.withLine_issue (s : State) (x : StationLine) : (s.withLine x).issue = s.issue := rfl
@[simp] theorem State.withLine_train (s : State) (x : StationLine) : (s.withLine x).train = s.train := rfl
@[simp] theorem State.withLine_line (s : State) (x : StationLine) : (s.withLine x).line = x := rfl
@[simp] theorem State.withLine_tracker (s : State) (x : StationLine) : (s.withLine x).tracker = s.tracker := rfl
@[simp] theorem State.withLine_trim (s : State) (x : StationLine) : (s.withLine x).trim = s.trim := rfl
@[simp] theorem State.withLine_head (s : State) (x : StationLine) : (s.withLine x).head = s.head := rfl
@[simp] theorem State.withLine_control (s : State) (x : StationLine) : (s.withLine x).control = s.control := rfl
@[simp] theorem State.withLine_cal (s : State) (x : StationLine) : (s.withLine x).cal = s.cal := rfl
@[simp] theorem State.withLine_time (s : State) (x : StationLine) : (s.withLine x).time = s.time := rfl
@[simp] theorem State.withLine_free (s : State) (x : StationLine) : (s.withLine x).free = s.free := rfl
@[simp] theorem State.withLine_pending (s : State) (x : StationLine) : (s.withLine x).pending = s.pending := rfl

/-! ### `State.withTracker` -/

@[simp] theorem State.withTracker_host (s : State) (x : Tracker) : (s.withTracker x).host = s.host := rfl
@[simp] theorem State.withTracker_book (s : State) (x : Tracker) : (s.withTracker x).book = s.book := rfl
@[simp] theorem State.withTracker_status (s : State) (x : Tracker) : (s.withTracker x).status = s.status := rfl
@[simp] theorem State.withTracker_seq (s : State) (x : Tracker) : (s.withTracker x).seq = s.seq := rfl
@[simp] theorem State.withTracker_issue (s : State) (x : Tracker) : (s.withTracker x).issue = s.issue := rfl
@[simp] theorem State.withTracker_train (s : State) (x : Tracker) : (s.withTracker x).train = s.train := rfl
@[simp] theorem State.withTracker_line (s : State) (x : Tracker) : (s.withTracker x).line = s.line := rfl
@[simp] theorem State.withTracker_tracker (s : State) (x : Tracker) : (s.withTracker x).tracker = x := rfl
@[simp] theorem State.withTracker_trim (s : State) (x : Tracker) : (s.withTracker x).trim = s.trim := rfl
@[simp] theorem State.withTracker_head (s : State) (x : Tracker) : (s.withTracker x).head = s.head := rfl
@[simp] theorem State.withTracker_control (s : State) (x : Tracker) : (s.withTracker x).control = s.control := rfl
@[simp] theorem State.withTracker_cal (s : State) (x : Tracker) : (s.withTracker x).cal = s.cal := rfl
@[simp] theorem State.withTracker_time (s : State) (x : Tracker) : (s.withTracker x).time = s.time := rfl
@[simp] theorem State.withTracker_free (s : State) (x : Tracker) : (s.withTracker x).free = s.free := rfl
@[simp] theorem State.withTracker_pending (s : State) (x : Tracker) : (s.withTracker x).pending = s.pending := rfl

/-! ### `State.withTrim` -/

@[simp] theorem State.withTrim_host (s : State) (x : Trim) : (s.withTrim x).host = s.host := rfl
@[simp] theorem State.withTrim_book (s : State) (x : Trim) : (s.withTrim x).book = s.book := rfl
@[simp] theorem State.withTrim_status (s : State) (x : Trim) : (s.withTrim x).status = s.status := rfl
@[simp] theorem State.withTrim_seq (s : State) (x : Trim) : (s.withTrim x).seq = s.seq := rfl
@[simp] theorem State.withTrim_issue (s : State) (x : Trim) : (s.withTrim x).issue = s.issue := rfl
@[simp] theorem State.withTrim_train (s : State) (x : Trim) : (s.withTrim x).train = s.train := rfl
@[simp] theorem State.withTrim_line (s : State) (x : Trim) : (s.withTrim x).line = s.line := rfl
@[simp] theorem State.withTrim_tracker (s : State) (x : Trim) : (s.withTrim x).tracker = s.tracker := rfl
@[simp] theorem State.withTrim_trim (s : State) (x : Trim) : (s.withTrim x).trim = x := rfl
@[simp] theorem State.withTrim_head (s : State) (x : Trim) : (s.withTrim x).head = s.head := rfl
@[simp] theorem State.withTrim_control (s : State) (x : Trim) : (s.withTrim x).control = s.control := rfl
@[simp] theorem State.withTrim_cal (s : State) (x : Trim) : (s.withTrim x).cal = s.cal := rfl
@[simp] theorem State.withTrim_time (s : State) (x : Trim) : (s.withTrim x).time = s.time := rfl
@[simp] theorem State.withTrim_free (s : State) (x : Trim) : (s.withTrim x).free = s.free := rfl
@[simp] theorem State.withTrim_pending (s : State) (x : Trim) : (s.withTrim x).pending = s.pending := rfl

/-! ### `State.withHead` -/

@[simp] theorem State.withHead_host (s : State) (x : Head) : (s.withHead x).host = s.host := rfl
@[simp] theorem State.withHead_book (s : State) (x : Head) : (s.withHead x).book = s.book := rfl
@[simp] theorem State.withHead_status (s : State) (x : Head) : (s.withHead x).status = s.status := rfl
@[simp] theorem State.withHead_seq (s : State) (x : Head) : (s.withHead x).seq = s.seq := rfl
@[simp] theorem State.withHead_issue (s : State) (x : Head) : (s.withHead x).issue = s.issue := rfl
@[simp] theorem State.withHead_train (s : State) (x : Head) : (s.withHead x).train = s.train := rfl
@[simp] theorem State.withHead_line (s : State) (x : Head) : (s.withHead x).line = s.line := rfl
@[simp] theorem State.withHead_tracker (s : State) (x : Head) : (s.withHead x).tracker = s.tracker := rfl
@[simp] theorem State.withHead_trim (s : State) (x : Head) : (s.withHead x).trim = s.trim := rfl
@[simp] theorem State.withHead_head (s : State) (x : Head) : (s.withHead x).head = x := rfl
@[simp] theorem State.withHead_control (s : State) (x : Head) : (s.withHead x).control = s.control := rfl
@[simp] theorem State.withHead_cal (s : State) (x : Head) : (s.withHead x).cal = s.cal := rfl
@[simp] theorem State.withHead_time (s : State) (x : Head) : (s.withHead x).time = s.time := rfl
@[simp] theorem State.withHead_free (s : State) (x : Head) : (s.withHead x).free = s.free := rfl
@[simp] theorem State.withHead_pending (s : State) (x : Head) : (s.withHead x).pending = s.pending := rfl

/-! ### `State.withControl` -/

@[simp] theorem State.withControl_host (s : State) (x : Control) : (s.withControl x).host = s.host := rfl
@[simp] theorem State.withControl_book (s : State) (x : Control) : (s.withControl x).book = s.book := rfl
@[simp] theorem State.withControl_status (s : State) (x : Control) : (s.withControl x).status = s.status := rfl
@[simp] theorem State.withControl_seq (s : State) (x : Control) : (s.withControl x).seq = s.seq := rfl
@[simp] theorem State.withControl_issue (s : State) (x : Control) : (s.withControl x).issue = s.issue := rfl
@[simp] theorem State.withControl_train (s : State) (x : Control) : (s.withControl x).train = s.train := rfl
@[simp] theorem State.withControl_line (s : State) (x : Control) : (s.withControl x).line = s.line := rfl
@[simp] theorem State.withControl_tracker (s : State) (x : Control) : (s.withControl x).tracker = s.tracker := rfl
@[simp] theorem State.withControl_trim (s : State) (x : Control) : (s.withControl x).trim = s.trim := rfl
@[simp] theorem State.withControl_head (s : State) (x : Control) : (s.withControl x).head = s.head := rfl
@[simp] theorem State.withControl_control (s : State) (x : Control) : (s.withControl x).control = x := rfl
@[simp] theorem State.withControl_cal (s : State) (x : Control) : (s.withControl x).cal = s.cal := rfl
@[simp] theorem State.withControl_time (s : State) (x : Control) : (s.withControl x).time = s.time := rfl
@[simp] theorem State.withControl_free (s : State) (x : Control) : (s.withControl x).free = s.free := rfl
@[simp] theorem State.withControl_pending (s : State) (x : Control) : (s.withControl x).pending = s.pending := rfl

/-! ### `State.withCal` -/

@[simp] theorem State.withCal_host (s : State) (x : Calibration) : (s.withCal x).host = s.host := rfl
@[simp] theorem State.withCal_book (s : State) (x : Calibration) : (s.withCal x).book = s.book := rfl
@[simp] theorem State.withCal_status (s : State) (x : Calibration) : (s.withCal x).status = s.status := rfl
@[simp] theorem State.withCal_seq (s : State) (x : Calibration) : (s.withCal x).seq = s.seq := rfl
@[simp] theorem State.withCal_issue (s : State) (x : Calibration) : (s.withCal x).issue = s.issue := rfl
@[simp] theorem State.withCal_train (s : State) (x : Calibration) : (s.withCal x).train = s.train := rfl
@[simp] theorem State.withCal_line (s : State) (x : Calibration) : (s.withCal x).line = s.line := rfl
@[simp] theorem State.withCal_tracker (s : State) (x : Calibration) : (s.withCal x).tracker = s.tracker := rfl
@[simp] theorem State.withCal_trim (s : State) (x : Calibration) : (s.withCal x).trim = s.trim := rfl
@[simp] theorem State.withCal_head (s : State) (x : Calibration) : (s.withCal x).head = s.head := rfl
@[simp] theorem State.withCal_control (s : State) (x : Calibration) : (s.withCal x).control = s.control := rfl
@[simp] theorem State.withCal_cal (s : State) (x : Calibration) : (s.withCal x).cal = x := rfl
@[simp] theorem State.withCal_time (s : State) (x : Calibration) : (s.withCal x).time = s.time := rfl
@[simp] theorem State.withCal_free (s : State) (x : Calibration) : (s.withCal x).free = s.free := rfl
@[simp] theorem State.withCal_pending (s : State) (x : Calibration) : (s.withCal x).pending = s.pending := rfl

/-! ### `State.withTime` -/

@[simp] theorem State.withTime_host (s : State) (x : Word) : (s.withTime x).host = s.host := rfl
@[simp] theorem State.withTime_book (s : State) (x : Word) : (s.withTime x).book = s.book := rfl
@[simp] theorem State.withTime_status (s : State) (x : Word) : (s.withTime x).status = s.status := rfl
@[simp] theorem State.withTime_seq (s : State) (x : Word) : (s.withTime x).seq = s.seq := rfl
@[simp] theorem State.withTime_issue (s : State) (x : Word) : (s.withTime x).issue = s.issue := rfl
@[simp] theorem State.withTime_train (s : State) (x : Word) : (s.withTime x).train = s.train := rfl
@[simp] theorem State.withTime_line (s : State) (x : Word) : (s.withTime x).line = s.line := rfl
@[simp] theorem State.withTime_tracker (s : State) (x : Word) : (s.withTime x).tracker = s.tracker := rfl
@[simp] theorem State.withTime_trim (s : State) (x : Word) : (s.withTime x).trim = s.trim := rfl
@[simp] theorem State.withTime_head (s : State) (x : Word) : (s.withTime x).head = s.head := rfl
@[simp] theorem State.withTime_control (s : State) (x : Word) : (s.withTime x).control = s.control := rfl
@[simp] theorem State.withTime_cal (s : State) (x : Word) : (s.withTime x).cal = s.cal := rfl
@[simp] theorem State.withTime_time (s : State) (x : Word) : (s.withTime x).time = x := rfl
@[simp] theorem State.withTime_free (s : State) (x : Word) : (s.withTime x).free = s.free := rfl
@[simp] theorem State.withTime_pending (s : State) (x : Word) : (s.withTime x).pending = s.pending := rfl

/-! ### `State.withFree` -/

@[simp] theorem State.withFree_host (s : State) (x : Nat) : (s.withFree x).host = s.host := rfl
@[simp] theorem State.withFree_book (s : State) (x : Nat) : (s.withFree x).book = s.book := rfl
@[simp] theorem State.withFree_status (s : State) (x : Nat) : (s.withFree x).status = s.status := rfl
@[simp] theorem State.withFree_seq (s : State) (x : Nat) : (s.withFree x).seq = s.seq := rfl
@[simp] theorem State.withFree_issue (s : State) (x : Nat) : (s.withFree x).issue = s.issue := rfl
@[simp] theorem State.withFree_train (s : State) (x : Nat) : (s.withFree x).train = s.train := rfl
@[simp] theorem State.withFree_line (s : State) (x : Nat) : (s.withFree x).line = s.line := rfl
@[simp] theorem State.withFree_tracker (s : State) (x : Nat) : (s.withFree x).tracker = s.tracker := rfl
@[simp] theorem State.withFree_trim (s : State) (x : Nat) : (s.withFree x).trim = s.trim := rfl
@[simp] theorem State.withFree_head (s : State) (x : Nat) : (s.withFree x).head = s.head := rfl
@[simp] theorem State.withFree_control (s : State) (x : Nat) : (s.withFree x).control = s.control := rfl
@[simp] theorem State.withFree_cal (s : State) (x : Nat) : (s.withFree x).cal = s.cal := rfl
@[simp] theorem State.withFree_time (s : State) (x : Nat) : (s.withFree x).time = s.time := rfl
@[simp] theorem State.withFree_free (s : State) (x : Nat) : (s.withFree x).free = x := rfl
@[simp] theorem State.withFree_pending (s : State) (x : Nat) : (s.withFree x).pending = s.pending := rfl

/-! ### `State.withPending` -/

@[simp] theorem State.withPending_host (s : State) (x : List Instr) : (s.withPending x).host = s.host := rfl
@[simp] theorem State.withPending_book (s : State) (x : List Instr) : (s.withPending x).book = s.book := rfl
@[simp] theorem State.withPending_status (s : State) (x : List Instr) : (s.withPending x).status = s.status := rfl
@[simp] theorem State.withPending_seq (s : State) (x : List Instr) : (s.withPending x).seq = s.seq := rfl
@[simp] theorem State.withPending_issue (s : State) (x : List Instr) : (s.withPending x).issue = s.issue := rfl
@[simp] theorem State.withPending_train (s : State) (x : List Instr) : (s.withPending x).train = s.train := rfl
@[simp] theorem State.withPending_line (s : State) (x : List Instr) : (s.withPending x).line = s.line := rfl
@[simp] theorem State.withPending_tracker (s : State) (x : List Instr) : (s.withPending x).tracker = s.tracker := rfl
@[simp] theorem State.withPending_trim (s : State) (x : List Instr) : (s.withPending x).trim = s.trim := rfl
@[simp] theorem State.withPending_head (s : State) (x : List Instr) : (s.withPending x).head = s.head := rfl
@[simp] theorem State.withPending_control (s : State) (x : List Instr) : (s.withPending x).control = s.control := rfl
@[simp] theorem State.withPending_cal (s : State) (x : List Instr) : (s.withPending x).cal = s.cal := rfl
@[simp] theorem State.withPending_time (s : State) (x : List Instr) : (s.withPending x).time = s.time := rfl
@[simp] theorem State.withPending_free (s : State) (x : List Instr) : (s.withPending x).free = s.free := rfl
@[simp] theorem State.withPending_pending (s : State) (x : List Instr) : (s.withPending x).pending = x := rfl

end Sys2Proof.Machine
end

