-- ==== Sys2Proof/Laws/Frames1.lean ====
section
/-! SUPPORT. For each operation of the book, the course sequencer, the trim controller and the issue unit: the blocks of the state that it leaves unchanged. -/

namespace Sys2Proof.Machine

/-- Replacing a record keeps the rest of the line. -/
@[simp] theorem StationLine.put_keeps (l : StationLine) (p : Position) (x : Station) :
    (l.put p x).transaction = l.transaction ∧ (l.put p x).headRequests = l.headRequests ∧
    (l.put p x).lastFrame = l.lastFrame ∧ (l.put p x).complete = l.complete := by
  cases p <;> simp [StationLine.put]

/-- An attempt handed over keeps the set-point, the ranges and the link. -/
@[simp] theorem Trim.beginAttempt_keeps (t : Trim) (r : IssueRecord) (z : Int) :
    (t.beginAttempt r z).setPoint = t.setPoint ∧ (t.beginAttempt r z).driveEnable = t.driveEnable ∧
    (t.beginAttempt r z).offset = t.offset ∧ (t.beginAttempt r z).range = t.range ∧
    (t.beginAttempt r z).sending = t.sending ∧ (t.beginAttempt r z).outputPending = t.outputPending ∧
    (t.beginAttempt r z).nextFrame = t.nextFrame ∧ (t.beginAttempt r z).lastFrame = t.lastFrame := by
  simp [Trim.beginAttempt]

/-- The head is what was put there. -/
@[simp] theorem State.putHead_head (s : State) (h : Head) : (s.putHead h).head = h := rfl

/-- What every step of a fold keeps, the fold keeps. -/
theorem foldl_kept {α β : Type} (f : State → α → State) (p : State → β) (h : ∀ s x, p (f s x) = p s) :
    ∀ (l : List α) (s : State), p (l.foldl f s) = p s
  | [], _ => rfl
  | x :: l, s => by rw [List.foldl_cons, foldl_kept f p h l (f s x), h s x]

/-! ### Flags -/

@[simp] theorem State.raise_frame (s : State) (c : Cause) :
    (s.raise c).host.mask = s.host.mask ∧ (s.raise c).host.readData = s.host.readData ∧ (s.raise c).host.attention
    = s.host.attention ∧ (s.raise c).book = s.book ∧ (s.raise c).seq = s.seq ∧ (s.raise c).issue = s.issue ∧
    (s.raise c).train = s.train ∧ (s.raise c).line = s.line ∧ (s.raise c).tracker = s.tracker ∧ (s.raise c).trim =
    s.trim ∧ (s.raise c).head = s.head ∧ (s.raise c).control = s.control ∧ (s.raise c).cal = s.cal ∧ (s.raise
    c).time = s.time ∧ (s.raise c).free = s.free ∧ (s.raise c).pending = s.pending := by
  simp [State.raise]

@[simp] theorem State.discardWrite_frame (s : State) :
    (s.discardWrite).host.mask = s.host.mask ∧ (s.discardWrite).host.readData = s.host.readData ∧
    (s.discardWrite).host.attention = s.host.attention ∧ (s.discardWrite).book = s.book ∧ (s.discardWrite).seq =
    s.seq ∧ (s.discardWrite).issue = s.issue ∧ (s.discardWrite).train = s.train ∧ (s.discardWrite).line = s.line ∧
    (s.discardWrite).tracker = s.tracker ∧ (s.discardWrite).trim = s.trim ∧ (s.discardWrite).head = s.head ∧
    (s.discardWrite).control = s.control ∧ (s.discardWrite).cal = s.cal ∧ (s.discardWrite).time = s.time ∧
    (s.discardWrite).free = s.free ∧ (s.discardWrite).pending = s.pending := by
  simp [State.discardWrite]

@[simp] theorem State.refuseCommand_frame (s : State) :
    (s.refuseCommand).host.mask = s.host.mask ∧ (s.refuseCommand).host.readData = s.host.readData ∧
    (s.refuseCommand).host.attention = s.host.attention ∧ (s.refuseCommand).book = s.book ∧ (s.refuseCommand).seq
    = s.seq ∧ (s.refuseCommand).issue = s.issue ∧ (s.refuseCommand).train = s.train ∧ (s.refuseCommand).line =
    s.line ∧ (s.refuseCommand).tracker = s.tracker ∧ (s.refuseCommand).trim = s.trim ∧ (s.refuseCommand).head =
    s.head ∧ (s.refuseCommand).control = s.control ∧ (s.refuseCommand).cal = s.cal ∧ (s.refuseCommand).time =
    s.time ∧ (s.refuseCommand).free = s.free ∧ (s.refuseCommand).pending = s.pending := by
  simp [State.refuseCommand]

@[simp] theorem State.evalAttention_frame (s : State) :
    (s.evalAttention).host.cause = s.host.cause ∧ (s.evalAttention).host.mask = s.host.mask ∧
    (s.evalAttention).host.readData = s.host.readData ∧ (s.evalAttention).book = s.book ∧ (s.evalAttention).seq =
    s.seq ∧ (s.evalAttention).issue = s.issue ∧ (s.evalAttention).train = s.train ∧ (s.evalAttention).line =
    s.line ∧ (s.evalAttention).tracker = s.tracker ∧ (s.evalAttention).trim = s.trim ∧ (s.evalAttention).head =
    s.head ∧ (s.evalAttention).control = s.control ∧ (s.evalAttention).cal = s.cal ∧ (s.evalAttention).time =
    s.time ∧ (s.evalAttention).free = s.free ∧ (s.evalAttention).pending = s.pending := by
  simp [State.evalAttention]

/-! ### Ops -/

@[simp] theorem State.updateStatus_frame (s : State) (f : StatusFields) :
    (s.updateStatus f).host = s.host ∧ (s.updateStatus f).book = s.book ∧ (s.updateStatus f).seq = s.seq ∧
    (s.updateStatus f).issue = s.issue ∧ (s.updateStatus f).train = s.train ∧ (s.updateStatus f).line = s.line ∧
    (s.updateStatus f).tracker = s.tracker ∧ (s.updateStatus f).trim = s.trim ∧ (s.updateStatus f).head = s.head ∧
    (s.updateStatus f).control = s.control ∧ (s.updateStatus f).cal = s.cal ∧ (s.updateStatus f).time = s.time ∧
    (s.updateStatus f).free = s.free ∧ (s.updateStatus f).pending = s.pending := by
  simp [State.updateStatus]

@[simp] theorem State.showCourses_frame (s : State) :
    (s.showCourses).host = s.host ∧ (s.showCourses).book = s.book ∧ (s.showCourses).seq = s.seq ∧
    (s.showCourses).issue = s.issue ∧ (s.showCourses).train = s.train ∧ (s.showCourses).line = s.line ∧
    (s.showCourses).tracker = s.tracker ∧ (s.showCourses).trim = s.trim ∧ (s.showCourses).head = s.head ∧
    (s.showCourses).control = s.control ∧ (s.showCourses).cal = s.cal ∧ (s.showCourses).time = s.time ∧
    (s.showCourses).free = s.free ∧ (s.showCourses).pending = s.pending := by
  simp [State.showCourses]

@[simp] theorem State.showTrain_frame (s : State) :
    (s.showTrain).host = s.host ∧ (s.showTrain).book = s.book ∧ (s.showTrain).seq = s.seq ∧ (s.showTrain).issue =
    s.issue ∧ (s.showTrain).train = s.train ∧ (s.showTrain).line = s.line ∧ (s.showTrain).tracker = s.tracker ∧
    (s.showTrain).trim = s.trim ∧ (s.showTrain).head = s.head ∧ (s.showTrain).control = s.control ∧
    (s.showTrain).cal = s.cal ∧ (s.showTrain).time = s.time ∧ (s.showTrain).free = s.free ∧ (s.showTrain).pending
    = s.pending := by
  simp [State.showTrain]

@[simp] theorem State.showReach_frame (s : State) :
    (s.showReach).host = s.host ∧ (s.showReach).book = s.book ∧ (s.showReach).seq = s.seq ∧ (s.showReach).issue =
    s.issue ∧ (s.showReach).train = s.train ∧ (s.showReach).line = s.line ∧ (s.showReach).tracker = s.tracker ∧
    (s.showReach).trim = s.trim ∧ (s.showReach).head = s.head ∧ (s.showReach).control = s.control ∧
    (s.showReach).cal = s.cal ∧ (s.showReach).time = s.time ∧ (s.showReach).free = s.free ∧ (s.showReach).pending
    = s.pending := by
  simp [State.showReach]

@[simp] theorem State.showTracking_frame (s : State) :
    (s.showTracking).host = s.host ∧ (s.showTracking).book = s.book ∧ (s.showTracking).seq = s.seq ∧
    (s.showTracking).issue = s.issue ∧ (s.showTracking).train = s.train ∧ (s.showTracking).line = s.line ∧
    (s.showTracking).tracker = s.tracker ∧ (s.showTracking).trim = s.trim ∧ (s.showTracking).head = s.head ∧
    (s.showTracking).control = s.control ∧ (s.showTracking).cal = s.cal ∧ (s.showTracking).time = s.time ∧
    (s.showTracking).free = s.free ∧ (s.showTracking).pending = s.pending := by
  simp [State.showTracking]

@[simp] theorem State.showHead_frame (s : State) :
    (s.showHead).host = s.host ∧ (s.showHead).book = s.book ∧ (s.showHead).seq = s.seq ∧ (s.showHead).issue =
    s.issue ∧ (s.showHead).train = s.train ∧ (s.showHead).line = s.line ∧ (s.showHead).tracker = s.tracker ∧
    (s.showHead).trim = s.trim ∧ (s.showHead).head = s.head ∧ (s.showHead).control = s.control ∧ (s.showHead).cal
    = s.cal ∧ (s.showHead).time = s.time ∧ (s.showHead).free = s.free ∧ (s.showHead).pending = s.pending := by
  simp [State.showHead]

@[simp] theorem State.showStations_frame (s : State) :
    (s.showStations).host = s.host ∧ (s.showStations).book = s.book ∧ (s.showStations).seq = s.seq ∧
    (s.showStations).issue = s.issue ∧ (s.showStations).train = s.train ∧ (s.showStations).line = s.line ∧
    (s.showStations).tracker = s.tracker ∧ (s.showStations).trim = s.trim ∧ (s.showStations).head = s.head ∧
    (s.showStations).control = s.control ∧ (s.showStations).cal = s.cal ∧ (s.showStations).time = s.time ∧
    (s.showStations).free = s.free ∧ (s.showStations).pending = s.pending := by
  simp [State.showStations]

@[simp] theorem State.putHead_frame (s : State) (h : Head) :
    (s.putHead h).host = s.host ∧ (s.putHead h).book = s.book ∧ (s.putHead h).seq = s.seq ∧ (s.putHead h).issue =
    s.issue ∧ (s.putHead h).train = s.train ∧ (s.putHead h).line = s.line ∧ (s.putHead h).tracker = s.tracker ∧
    (s.putHead h).trim = s.trim ∧ (s.putHead h).control = s.control ∧ (s.putHead h).cal = s.cal ∧ (s.putHead
    h).time = s.time ∧ (s.putHead h).free = s.free ∧ (s.putHead h).pending = s.pending := by
  simp [State.putHead]

@[simp] theorem State.setWord_frame (s : State) (a : Nat) (v : Word) :
    (s.setWord a v).host = s.host ∧ (s.setWord a v).status = s.status ∧ (s.setWord a v).seq = s.seq ∧ (s.setWord a
    v).issue = s.issue ∧ (s.setWord a v).train = s.train ∧ (s.setWord a v).line = s.line ∧ (s.setWord a v).tracker
    = s.tracker ∧ (s.setWord a v).trim = s.trim ∧ (s.setWord a v).head = s.head ∧ (s.setWord a v).control =
    s.control ∧ (s.setWord a v).cal = s.cal ∧ (s.setWord a v).time = s.time ∧ (s.setWord a v).free = s.free ∧
    (s.setWord a v).pending = s.pending := by
  simp [State.setWord]

@[simp] theorem State.setEntryState_frame (s : State) (i : EntryIx) (e : EntryState) :
    (s.setEntryState i e).host = s.host ∧ (s.setEntryState i e).status = s.status ∧ (s.setEntryState i e).seq =
    s.seq ∧ (s.setEntryState i e).issue = s.issue ∧ (s.setEntryState i e).train = s.train ∧ (s.setEntryState i
    e).line = s.line ∧ (s.setEntryState i e).tracker = s.tracker ∧ (s.setEntryState i e).trim = s.trim ∧
    (s.setEntryState i e).head = s.head ∧ (s.setEntryState i e).control = s.control ∧ (s.setEntryState i e).cal =
    s.cal ∧ (s.setEntryState i e).time = s.time ∧ (s.setEntryState i e).free = s.free ∧ (s.setEntryState i
    e).pending = s.pending := by
  simp [State.setEntryState]

@[simp] theorem State.moveEntry_frame (s : State) (i : EntryIx) (e1 e2 : EntryState) :
    (s.moveEntry i e1 e2).host = s.host ∧ (s.moveEntry i e1 e2).status = s.status ∧ (s.moveEntry i e1 e2).seq =
    s.seq ∧ (s.moveEntry i e1 e2).issue = s.issue ∧ (s.moveEntry i e1 e2).train = s.train ∧ (s.moveEntry i e1
    e2).line = s.line ∧ (s.moveEntry i e1 e2).tracker = s.tracker ∧ (s.moveEntry i e1 e2).trim = s.trim ∧
    (s.moveEntry i e1 e2).head = s.head ∧ (s.moveEntry i e1 e2).control = s.control ∧ (s.moveEntry i e1 e2).cal =
    s.cal ∧ (s.moveEntry i e1 e2).time = s.time ∧ (s.moveEntry i e1 e2).free = s.free ∧ (s.moveEntry i e1
    e2).pending = s.pending := by
  unfold State.moveEntry
  split <;> simp

@[simp] theorem State.setAttempt_frame (s : State) (i : EntryIx) (n : Nat) (r : Reason) :
    (s.setAttempt i n r).host = s.host ∧ (s.setAttempt i n r).status = s.status ∧ (s.setAttempt i n r).seq = s.seq
    ∧ (s.setAttempt i n r).issue = s.issue ∧ (s.setAttempt i n r).train = s.train ∧ (s.setAttempt i n r).line =
    s.line ∧ (s.setAttempt i n r).tracker = s.tracker ∧ (s.setAttempt i n r).trim = s.trim ∧ (s.setAttempt i n
    r).head = s.head ∧ (s.setAttempt i n r).control = s.control ∧ (s.setAttempt i n r).cal = s.cal ∧ (s.setAttempt
    i n r).time = s.time ∧ (s.setAttempt i n r).free = s.free ∧ (s.setAttempt i n r).pending = s.pending := by
  simp [State.setAttempt]

@[simp] theorem State.setResult_frame (s : State) (i : EntryIx) (r : ResultCode) :
    (s.setResult i r).host = s.host ∧ (s.setResult i r).status = s.status ∧ (s.setResult i r).seq = s.seq ∧
    (s.setResult i r).issue = s.issue ∧ (s.setResult i r).train = s.train ∧ (s.setResult i r).line = s.line ∧
    (s.setResult i r).tracker = s.tracker ∧ (s.setResult i r).trim = s.trim ∧ (s.setResult i r).head = s.head ∧
    (s.setResult i r).control = s.control ∧ (s.setResult i r).cal = s.cal ∧ (s.setResult i r).time = s.time ∧
    (s.setResult i r).free = s.free ∧ (s.setResult i r).pending = s.pending := by
  simp [State.setResult]

@[simp] theorem State.finishEntry_frame (s : State) (i : EntryIx) (e : EntryState) (r : ResultCode) :
    (s.finishEntry i e r).host = s.host ∧ (s.finishEntry i e r).status = s.status ∧ (s.finishEntry i e r).seq =
    s.seq ∧ (s.finishEntry i e r).issue = s.issue ∧ (s.finishEntry i e r).train = s.train ∧ (s.finishEntry i e
    r).line = s.line ∧ (s.finishEntry i e r).tracker = s.tracker ∧ (s.finishEntry i e r).trim = s.trim ∧
    (s.finishEntry i e r).head = s.head ∧ (s.finishEntry i e r).control = s.control ∧ (s.finishEntry i e r).cal =
    s.cal ∧ (s.finishEntry i e r).time = s.time ∧ (s.finishEntry i e r).free = s.free ∧ (s.finishEntry i e
    r).pending = s.pending := by
  simp [State.finishEntry]

@[simp] theorem State.clearPartFields_frame (s : State) (i : EntryIx) :
    (s.clearPartFields i).host = s.host ∧ (s.clearPartFields i).status = s.status ∧ (s.clearPartFields i).seq =
    s.seq ∧ (s.clearPartFields i).issue = s.issue ∧ (s.clearPartFields i).train = s.train ∧ (s.clearPartFields
    i).line = s.line ∧ (s.clearPartFields i).tracker = s.tracker ∧ (s.clearPartFields i).trim = s.trim ∧
    (s.clearPartFields i).head = s.head ∧ (s.clearPartFields i).control = s.control ∧ (s.clearPartFields i).cal =
    s.cal ∧ (s.clearPartFields i).time = s.time ∧ (s.clearPartFields i).free = s.free ∧ (s.clearPartFields
    i).pending = s.pending := by
  simp [State.clearPartFields]

@[simp] theorem State.setCourseState_frame (s : State) (k : Slot) (c : CourseState) :
    (s.setCourseState k c).host = s.host ∧ (s.setCourseState k c).status = s.status ∧ (s.setCourseState k c).seq =
    s.seq ∧ (s.setCourseState k c).issue = s.issue ∧ (s.setCourseState k c).train = s.train ∧ (s.setCourseState k
    c).line = s.line ∧ (s.setCourseState k c).tracker = s.tracker ∧ (s.setCourseState k c).trim = s.trim ∧
    (s.setCourseState k c).head = s.head ∧ (s.setCourseState k c).control = s.control ∧ (s.setCourseState k c).cal
    = s.cal ∧ (s.setCourseState k c).time = s.time ∧ (s.setCourseState k c).free = s.free ∧ (s.setCourseState k
    c).pending = s.pending := by
  simp [State.setCourseState]

@[simp] theorem State.bumpCourse_frame (s : State) (k : Slot) :
    (s.bumpCourse k).host = s.host ∧ (s.bumpCourse k).status = s.status ∧ (s.bumpCourse k).seq = s.seq ∧
    (s.bumpCourse k).issue = s.issue ∧ (s.bumpCourse k).train = s.train ∧ (s.bumpCourse k).line = s.line ∧
    (s.bumpCourse k).tracker = s.tracker ∧ (s.bumpCourse k).trim = s.trim ∧ (s.bumpCourse k).head = s.head ∧
    (s.bumpCourse k).control = s.control ∧ (s.bumpCourse k).cal = s.cal ∧ (s.bumpCourse k).time = s.time ∧
    (s.bumpCourse k).free = s.free ∧ (s.bumpCourse k).pending = s.pending := by
  simp [State.bumpCourse]

@[simp] theorem State.setCourseFigures_frame (s : State) (k : Slot) (f : CourseFigures) :
    (s.setCourseFigures k f).host = s.host ∧ (s.setCourseFigures k f).status = s.status ∧ (s.setCourseFigures k
    f).seq = s.seq ∧ (s.setCourseFigures k f).issue = s.issue ∧ (s.setCourseFigures k f).train = s.train ∧
    (s.setCourseFigures k f).line = s.line ∧ (s.setCourseFigures k f).tracker = s.tracker ∧ (s.setCourseFigures k
    f).trim = s.trim ∧ (s.setCourseFigures k f).head = s.head ∧ (s.setCourseFigures k f).control = s.control ∧
    (s.setCourseFigures k f).cal = s.cal ∧ (s.setCourseFigures k f).time = s.time ∧ (s.setCourseFigures k f).free
    = s.free ∧ (s.setCourseFigures k f).pending = s.pending := by
  simp [State.setCourseFigures]

@[simp] theorem State.setStation_frame (s : State) (p : Position) (x : Station) :
    (s.setStation p x).host = s.host ∧ (s.setStation p x).book = s.book ∧ (s.setStation p x).seq = s.seq ∧
    (s.setStation p x).issue = s.issue ∧ (s.setStation p x).train = s.train ∧ (s.setStation p x).line.transaction
    = s.line.transaction ∧ (s.setStation p x).line.headRequests = s.line.headRequests ∧ (s.setStation p
    x).line.lastFrame = s.line.lastFrame ∧ (s.setStation p x).line.complete = s.line.complete ∧ (s.setStation p
    x).tracker = s.tracker ∧ (s.setStation p x).trim = s.trim ∧ (s.setStation p x).head = s.head ∧ (s.setStation p
    x).control = s.control ∧ (s.setStation p x).cal = s.cal ∧ (s.setStation p x).time = s.time ∧ (s.setStation p
    x).free = s.free ∧ (s.setStation p x).pending = s.pending := by
  simp [State.setStation]

@[simp] theorem State.removeRecord_frame (s : State) (i : EntryIx) :
    (s.removeRecord i).host = s.host ∧ (s.removeRecord i).book = s.book ∧ (s.removeRecord i).status = s.status ∧
    (s.removeRecord i).seq = s.seq ∧ (s.removeRecord i).issue.feed = s.issue.feed ∧ (s.removeRecord
    i).issue.starved = s.issue.starved ∧ (s.removeRecord i).train = s.train ∧ (s.removeRecord i).line = s.line ∧
    (s.removeRecord i).tracker = s.tracker ∧ (s.removeRecord i).trim = s.trim ∧ (s.removeRecord i).head = s.head ∧
    (s.removeRecord i).control = s.control ∧ (s.removeRecord i).cal = s.cal ∧ (s.removeRecord i).time = s.time ∧
    (s.removeRecord i).free = s.free ∧ (s.removeRecord i).pending = s.pending := by
  simp [State.removeRecord]

@[simp] theorem State.setLocation_frame (s : State) (i : EntryIx) (l : Location) :
    (s.setLocation i l).host = s.host ∧ (s.setLocation i l).book = s.book ∧ (s.setLocation i l).status = s.status
    ∧ (s.setLocation i l).seq = s.seq ∧ (s.setLocation i l).issue.feed = s.issue.feed ∧ (s.setLocation i
    l).issue.starved = s.issue.starved ∧ (s.setLocation i l).train = s.train ∧ (s.setLocation i l).line = s.line ∧
    (s.setLocation i l).tracker = s.tracker ∧ (s.setLocation i l).trim = s.trim ∧ (s.setLocation i l).head =
    s.head ∧ (s.setLocation i l).control = s.control ∧ (s.setLocation i l).cal = s.cal ∧ (s.setLocation i l).time
    = s.time ∧ (s.setLocation i l).free = s.free ∧ (s.setLocation i l).pending = s.pending := by
  simp [State.setLocation]

/-! ### Operands -/

@[simp] theorem State.writeProfile_frame (s : State) (w : LatchWrite) :
    (s.writeProfile w).host = s.host ∧ (s.writeProfile w).status = s.status ∧ (s.writeProfile w).seq = s.seq ∧
    (s.writeProfile w).issue = s.issue ∧ (s.writeProfile w).train = s.train ∧ (s.writeProfile w).line = s.line ∧
    (s.writeProfile w).tracker = s.tracker ∧ (s.writeProfile w).trim = s.trim ∧ (s.writeProfile w).head = s.head ∧
    (s.writeProfile w).control = s.control ∧ (s.writeProfile w).cal = s.cal ∧ (s.writeProfile w).time = s.time ∧
    (s.writeProfile w).free = s.free ∧ (s.writeProfile w).pending = s.pending := by
  simp [State.writeProfile]

@[simp] theorem State.afterWrites_frame (s : State) (ws : List LatchWrite) :
    (s.afterWrites ws).host = s.host ∧ (s.afterWrites ws).status = s.status ∧ (s.afterWrites ws).seq = s.seq ∧
    (s.afterWrites ws).issue = s.issue ∧ (s.afterWrites ws).train = s.train ∧ (s.afterWrites ws).line = s.line ∧
    (s.afterWrites ws).tracker = s.tracker ∧ (s.afterWrites ws).trim = s.trim ∧ (s.afterWrites ws).head = s.head ∧
    (s.afterWrites ws).control = s.control ∧ (s.afterWrites ws).cal = s.cal ∧ (s.afterWrites ws).time = s.time ∧
    (s.afterWrites ws).free = s.free ∧ (s.afterWrites ws).pending = s.pending := by
  unfold State.afterWrites
  have h := foldl_kept State.writeProfile
      (fun t => (t.host, t.status, t.seq, t.issue, t.train, t.line, t.tracker, t.trim, t.head, t.control, t.cal,
        t.time, t.free, t.pending))
      (by simp) ws s
  simpa using h

@[simp] theorem State.asLatched_frame (s : State) (ws : List LatchWrite) :
    (s.asLatched ws).host = s.host ∧ (s.asLatched ws).status = s.status ∧ (s.asLatched ws).seq = s.seq ∧
    (s.asLatched ws).issue = s.issue ∧ (s.asLatched ws).train = s.train ∧ (s.asLatched ws).line = s.line ∧
    (s.asLatched ws).tracker = s.tracker ∧ (s.asLatched ws).trim = s.trim ∧ (s.asLatched ws).head = s.head ∧
    (s.asLatched ws).control = s.control ∧ (s.asLatched ws).cal = s.cal ∧ (s.asLatched ws).time = s.time ∧
    (s.asLatched ws).free = s.free ∧ (s.asLatched ws).pending = s.pending := by
  unfold State.asLatched
  have h := foldl_kept State.writeProfile
      (fun t => (t.host, t.status, t.seq, t.issue, t.train, t.line, t.tracker, t.trim, t.head, t.control, t.cal,
        t.time, t.free, t.pending))
      (by simp) (ws.filter fun w => w.seen) s
  simpa using h

@[simp] theorem State.latchProfile_frame (s : State) (ws : List LatchWrite) :
    (s.latchProfile ws).host = s.host ∧ (s.latchProfile ws).status = s.status ∧ (s.latchProfile ws).issue =
    s.issue ∧ (s.latchProfile ws).train = s.train ∧ (s.latchProfile ws).line = s.line ∧ (s.latchProfile
    ws).tracker = s.tracker ∧ (s.latchProfile ws).trim = s.trim ∧ (s.latchProfile ws).head = s.head ∧
    (s.latchProfile ws).control = s.control ∧ (s.latchProfile ws).cal = s.cal ∧ (s.latchProfile ws).time = s.time
    ∧ (s.latchProfile ws).free = s.free ∧ (s.latchProfile ws).pending = s.pending := by
  simp [State.latchProfile]

/-! ### CourseOps -/

@[simp] theorem State.closeCourse_frame (s : State) (k : Slot) :
    (s.closeCourse k).host.mask = s.host.mask ∧ (s.closeCourse k).host.readData = s.host.readData ∧ (s.closeCourse
    k).host.attention = s.host.attention ∧ (s.closeCourse k).seq.profile = s.seq.profile ∧ (s.closeCourse k).issue
    = s.issue ∧ (s.closeCourse k).train = s.train ∧ (s.closeCourse k).line = s.line ∧ (s.closeCourse k).tracker =
    s.tracker ∧ (s.closeCourse k).trim = s.trim ∧ (s.closeCourse k).head = s.head ∧ (s.closeCourse k).control =
    s.control ∧ (s.closeCourse k).cal = s.cal ∧ (s.closeCourse k).time = s.time ∧ (s.closeCourse k).free = s.free
    ∧ (s.closeCourse k).pending = s.pending := by
  simp [State.closeCourse]

@[simp] theorem State.countTerminal_frame (s : State) (i : EntryIx) (e : EntryState) :
    (s.countTerminal i e).host.mask = s.host.mask ∧ (s.countTerminal i e).host.readData = s.host.readData ∧
    (s.countTerminal i e).host.attention = s.host.attention ∧ (s.countTerminal i e).seq.profile = s.seq.profile ∧
    (s.countTerminal i e).issue = s.issue ∧ (s.countTerminal i e).train = s.train ∧ (s.countTerminal i e).line =
    s.line ∧ (s.countTerminal i e).tracker = s.tracker ∧ (s.countTerminal i e).trim = s.trim ∧ (s.countTerminal i
    e).head = s.head ∧ (s.countTerminal i e).control = s.control ∧ (s.countTerminal i e).cal = s.cal ∧
    (s.countTerminal i e).time = s.time ∧ (s.countTerminal i e).free = s.free ∧ (s.countTerminal i e).pending =
    s.pending := by
  unfold State.countTerminal
  dsimp only
  repeat' split
  all_goals simp

@[simp] theorem State.uncountTerminal_frame (s : State) (i : EntryIx) (e : EntryState) :
    (s.uncountTerminal i e).host = s.host ∧ (s.uncountTerminal i e).status = s.status ∧ (s.uncountTerminal i
    e).seq = s.seq ∧ (s.uncountTerminal i e).issue = s.issue ∧ (s.uncountTerminal i e).train = s.train ∧
    (s.uncountTerminal i e).line = s.line ∧ (s.uncountTerminal i e).tracker = s.tracker ∧ (s.uncountTerminal i
    e).trim = s.trim ∧ (s.uncountTerminal i e).head = s.head ∧ (s.uncountTerminal i e).control = s.control ∧
    (s.uncountTerminal i e).cal = s.cal ∧ (s.uncountTerminal i e).time = s.time ∧ (s.uncountTerminal i e).free =
    s.free ∧ (s.uncountTerminal i e).pending = s.pending := by
  unfold State.uncountTerminal
  repeat' split
  all_goals simp

@[simp] theorem State.cancelEntry_frame (s : State) (i : EntryIx) :
    (s.cancelEntry i).host.mask = s.host.mask ∧ (s.cancelEntry i).host.readData = s.host.readData ∧ (s.cancelEntry
    i).host.attention = s.host.attention ∧ (s.cancelEntry i).seq.profile = s.seq.profile ∧ (s.cancelEntry i).issue
    = s.issue ∧ (s.cancelEntry i).train = s.train ∧ (s.cancelEntry i).line = s.line ∧ (s.cancelEntry i).tracker =
    s.tracker ∧ (s.cancelEntry i).trim = s.trim ∧ (s.cancelEntry i).head = s.head ∧ (s.cancelEntry i).control =
    s.control ∧ (s.cancelEntry i).cal = s.cal ∧ (s.cancelEntry i).time = s.time ∧ (s.cancelEntry i).free = s.free
    ∧ (s.cancelEntry i).pending = s.pending := by
  simp [State.cancelEntry]

@[simp] theorem State.cancelIfClosing_frame (s : State) (i : EntryIx) :
    (s.cancelIfClosing i).host.mask = s.host.mask ∧ (s.cancelIfClosing i).host.readData = s.host.readData ∧
    (s.cancelIfClosing i).host.attention = s.host.attention ∧ (s.cancelIfClosing i).seq.profile = s.seq.profile ∧
    (s.cancelIfClosing i).issue = s.issue ∧ (s.cancelIfClosing i).train = s.train ∧ (s.cancelIfClosing i).line =
    s.line ∧ (s.cancelIfClosing i).tracker = s.tracker ∧ (s.cancelIfClosing i).trim = s.trim ∧ (s.cancelIfClosing
    i).head = s.head ∧ (s.cancelIfClosing i).control = s.control ∧ (s.cancelIfClosing i).cal = s.cal ∧
    (s.cancelIfClosing i).time = s.time ∧ (s.cancelIfClosing i).free = s.free ∧ (s.cancelIfClosing i).pending =
    s.pending := by
  unfold State.cancelIfClosing
  repeat' split
  all_goals simp

@[simp] theorem State.returnToPosted_frame (s : State) (i : EntryIx) :
    (s.returnToPosted i).host.mask = s.host.mask ∧ (s.returnToPosted i).host.readData = s.host.readData ∧
    (s.returnToPosted i).host.attention = s.host.attention ∧ (s.returnToPosted i).seq.profile = s.seq.profile ∧
    (s.returnToPosted i).issue = s.issue ∧ (s.returnToPosted i).train = s.train ∧ (s.returnToPosted i).line =
    s.line ∧ (s.returnToPosted i).tracker = s.tracker ∧ (s.returnToPosted i).trim = s.trim ∧ (s.returnToPosted
    i).head = s.head ∧ (s.returnToPosted i).control = s.control ∧ (s.returnToPosted i).cal = s.cal ∧
    (s.returnToPosted i).time = s.time ∧ (s.returnToPosted i).free = s.free ∧ (s.returnToPosted i).pending =
    s.pending := by
  simp [State.returnToPosted]

@[simp] theorem State.cancelOpenEntry_frame (s : State) (i : EntryIx) :
    (s.cancelOpenEntry i).host.mask = s.host.mask ∧ (s.cancelOpenEntry i).host.readData = s.host.readData ∧
    (s.cancelOpenEntry i).host.attention = s.host.attention ∧ (s.cancelOpenEntry i).seq.profile = s.seq.profile ∧
    (s.cancelOpenEntry i).issue = s.issue ∧ (s.cancelOpenEntry i).train = s.train ∧ (s.cancelOpenEntry i).line =
    s.line ∧ (s.cancelOpenEntry i).tracker = s.tracker ∧ (s.cancelOpenEntry i).trim = s.trim ∧ (s.cancelOpenEntry
    i).head = s.head ∧ (s.cancelOpenEntry i).control = s.control ∧ (s.cancelOpenEntry i).cal = s.cal ∧
    (s.cancelOpenEntry i).time = s.time ∧ (s.cancelOpenEntry i).free = s.free ∧ (s.cancelOpenEntry i).pending =
    s.pending := by
  unfold State.cancelOpenEntry
  split <;> simp

@[simp] theorem State.requestClose_frame (s : State) (k : Slot) :
    (s.requestClose k).host.mask = s.host.mask ∧ (s.requestClose k).host.readData = s.host.readData ∧
    (s.requestClose k).host.attention = s.host.attention ∧ (s.requestClose k).seq.profile = s.seq.profile ∧
    (s.requestClose k).issue = s.issue ∧ (s.requestClose k).train = s.train ∧ (s.requestClose k).line = s.line ∧
    (s.requestClose k).tracker = s.tracker ∧ (s.requestClose k).trim = s.trim ∧ (s.requestClose k).head = s.head ∧
    (s.requestClose k).control = s.control ∧ (s.requestClose k).cal = s.cal ∧ (s.requestClose k).time = s.time ∧
    (s.requestClose k).free = s.free ∧ (s.requestClose k).pending = s.pending := by
  have h := foldl_kept State.cancelOpenEntry
      (fun t => (t.host.mask, t.host.readData, t.host.attention, t.seq.profile, t.issue, t.train, t.line, t.tracker,
        t.trim, t.head, t.control, t.cal, t.time, t.free, t.pending))
      (by simp) (s.courseEntries k) (s.withSeq { s.seq with closeMark := true })
  simpa [State.requestClose] using h

@[simp] theorem State.lateBookWrite_frame (s : State) (w : LateWrite) :
    (s.lateBookWrite w).host.mask = s.host.mask ∧ (s.lateBookWrite w).host.readData = s.host.readData ∧
    (s.lateBookWrite w).host.attention = s.host.attention ∧ (s.lateBookWrite w).seq = s.seq ∧ (s.lateBookWrite
    w).issue = s.issue ∧ (s.lateBookWrite w).train = s.train ∧ (s.lateBookWrite w).line = s.line ∧
    (s.lateBookWrite w).tracker = s.tracker ∧ (s.lateBookWrite w).trim = s.trim ∧ (s.lateBookWrite w).head =
    s.head ∧ (s.lateBookWrite w).control = s.control ∧ (s.lateBookWrite w).cal = s.cal ∧ (s.lateBookWrite w).time
    = s.time ∧ (s.lateBookWrite w).free = s.free ∧ (s.lateBookWrite w).pending = s.pending := by
  unfold State.lateBookWrite
  repeat' split
  all_goals simp

@[simp] theorem State.lateWrites_frame (s : State) (k : Slot) (ws : List LateWrite) (f : CourseFigures) :
    (s.lateWrites k ws f).1.host.mask = s.host.mask ∧ (s.lateWrites k ws f).1.host.readData = s.host.readData ∧
    (s.lateWrites k ws f).1.host.attention = s.host.attention ∧ (s.lateWrites k ws f).1.seq = s.seq ∧
    (s.lateWrites k ws f).1.issue = s.issue ∧ (s.lateWrites k ws f).1.train = s.train ∧ (s.lateWrites k ws
    f).1.line = s.line ∧ (s.lateWrites k ws f).1.tracker = s.tracker ∧ (s.lateWrites k ws f).1.trim = s.trim ∧
    (s.lateWrites k ws f).1.head = s.head ∧ (s.lateWrites k ws f).1.control = s.control ∧ (s.lateWrites k ws
    f).1.cal = s.cal ∧ (s.lateWrites k ws f).1.time = s.time ∧ (s.lateWrites k ws f).1.free = s.free ∧
    (s.lateWrites k ws f).1.pending = s.pending := by
  induction ws generalizing s f with
  | nil => simp [State.lateWrites]
  | cons w ws ih => simp [State.lateWrites, ih]

@[simp] theorem State.closeInvalid_frame (s : State) (k : Slot) :
    (s.closeInvalid k).host.mask = s.host.mask ∧ (s.closeInvalid k).host.readData = s.host.readData ∧
    (s.closeInvalid k).host.attention = s.host.attention ∧ (s.closeInvalid k).seq.profile = s.seq.profile ∧
    (s.closeInvalid k).issue = s.issue ∧ (s.closeInvalid k).train = s.train ∧ (s.closeInvalid k).line = s.line ∧
    (s.closeInvalid k).tracker = s.tracker ∧ (s.closeInvalid k).trim = s.trim ∧ (s.closeInvalid k).head = s.head ∧
    (s.closeInvalid k).control = s.control ∧ (s.closeInvalid k).cal = s.cal ∧ (s.closeInvalid k).time = s.time ∧
    (s.closeInvalid k).free = s.free ∧ (s.closeInvalid k).pending = s.pending := by
  simp [State.closeInvalid]

@[simp] theorem State.openActive_frame (s : State) (k : Slot) (f : CourseFigures) :
    (s.openActive k f).host.mask = s.host.mask ∧ (s.openActive k f).host.readData = s.host.readData ∧
    (s.openActive k f).host.attention = s.host.attention ∧ (s.openActive k f).seq.profile = s.seq.profile ∧
    (s.openActive k f).issue = s.issue ∧ (s.openActive k f).train = s.train ∧ (s.openActive k f).line = s.line ∧
    (s.openActive k f).tracker = s.tracker ∧ (s.openActive k f).trim = s.trim ∧ (s.openActive k f).head = s.head ∧
    (s.openActive k f).control = s.control ∧ (s.openActive k f).cal = s.cal ∧ (s.openActive k f).time = s.time ∧
    (s.openActive k f).free = s.free ∧ (s.openActive k f).pending = s.pending := by
  unfold State.openActive
  dsimp only
  repeat' split
  all_goals simp

@[simp] theorem State.activate_frame (s : State) (k : Slot) (late : List LateWrite) :
    (s.activate k late).host.mask = s.host.mask ∧ (s.activate k late).host.readData = s.host.readData ∧
    (s.activate k late).host.attention = s.host.attention ∧ (s.activate k late).seq.profile = s.seq.profile ∧
    (s.activate k late).issue = s.issue ∧ (s.activate k late).train = s.train ∧ (s.activate k late).line = s.line
    ∧ (s.activate k late).tracker = s.tracker ∧ (s.activate k late).trim = s.trim ∧ (s.activate k late).head =
    s.head ∧ (s.activate k late).control = s.control ∧ (s.activate k late).cal = s.cal ∧ (s.activate k late).time
    = s.time ∧ (s.activate k late).free = s.free ∧ (s.activate k late).pending = s.pending := by
  unfold State.activate
  split <;> simp

/-! ### TrimOps -/

@[simp] theorem State.endAttempt_frame (s : State) :
    (s.endAttempt).host = s.host ∧ (s.endAttempt).book = s.book ∧ (s.endAttempt).seq = s.seq ∧
    (s.endAttempt).issue = s.issue ∧ (s.endAttempt).train = s.train ∧ (s.endAttempt).line = s.line ∧
    (s.endAttempt).tracker = s.tracker ∧ (s.endAttempt).trim.setPoint = s.trim.setPoint ∧
    (s.endAttempt).trim.driveEnable = s.trim.driveEnable ∧ (s.endAttempt).trim.offset = s.trim.offset ∧
    (s.endAttempt).trim.range = s.trim.range ∧ (s.endAttempt).trim.sending = s.trim.sending ∧
    (s.endAttempt).trim.outputPending = s.trim.outputPending ∧ (s.endAttempt).trim.nextFrame = s.trim.nextFrame ∧
    (s.endAttempt).trim.lastFrame = s.trim.lastFrame ∧ (s.endAttempt).head.binCount = s.head.binCount ∧
    (s.endAttempt).head.lastTransit = s.head.lastTransit ∧ (s.endAttempt).head.lastVoidRelease =
    s.head.lastVoidRelease ∧ (s.endAttempt).control = s.control ∧ (s.endAttempt).cal = s.cal ∧ (s.endAttempt).time
    = s.time ∧ (s.endAttempt).free = s.free ∧ (s.endAttempt).pending = s.pending := by
  simp [State.endAttempt]

@[simp] theorem State.zeroSettle_frame (s : State) :
    (s.zeroSettle).host = s.host ∧ (s.zeroSettle).book = s.book ∧ (s.zeroSettle).status = s.status ∧
    (s.zeroSettle).seq = s.seq ∧ (s.zeroSettle).issue = s.issue ∧ (s.zeroSettle).train = s.train ∧
    (s.zeroSettle).line = s.line ∧ (s.zeroSettle).tracker = s.tracker ∧ (s.zeroSettle).trim.setPoint =
    s.trim.setPoint ∧ (s.zeroSettle).trim.driveEnable = s.trim.driveEnable ∧ (s.zeroSettle).trim.offset =
    s.trim.offset ∧ (s.zeroSettle).trim.range = s.trim.range ∧ (s.zeroSettle).trim.sending = s.trim.sending ∧
    (s.zeroSettle).trim.outputPending = s.trim.outputPending ∧ (s.zeroSettle).trim.nextFrame = s.trim.nextFrame ∧
    (s.zeroSettle).trim.lastFrame = s.trim.lastFrame ∧ (s.zeroSettle).head = s.head ∧ (s.zeroSettle).control =
    s.control ∧ (s.zeroSettle).cal = s.cal ∧ (s.zeroSettle).time = s.time ∧ (s.zeroSettle).free = s.free ∧
    (s.zeroSettle).pending = s.pending := by
  simp [State.zeroSettle]

@[simp] theorem State.takeCalibration_frame (s : State) (o r : Pose) :
    (s.takeCalibration o r).host = s.host ∧ (s.takeCalibration o r).book = s.book ∧ (s.takeCalibration o r).status
    = s.status ∧ (s.takeCalibration o r).seq = s.seq ∧ (s.takeCalibration o r).issue = s.issue ∧
    (s.takeCalibration o r).train = s.train ∧ (s.takeCalibration o r).line = s.line ∧ (s.takeCalibration o
    r).tracker = s.tracker ∧ (s.takeCalibration o r).head = s.head ∧ (s.takeCalibration o r).control = s.control ∧
    (s.takeCalibration o r).cal = s.cal ∧ (s.takeCalibration o r).time = s.time ∧ (s.takeCalibration o r).free =
    s.free ∧ (s.takeCalibration o r).pending = s.pending := by
  simp [State.takeCalibration]

@[simp] theorem State.testSaturation_frame (s : State) (a : Attempt) (e : Pose) :
    (s.testSaturation a e).host.mask = s.host.mask ∧ (s.testSaturation a e).host.readData = s.host.readData ∧
    (s.testSaturation a e).host.attention = s.host.attention ∧ (s.testSaturation a e).book = s.book ∧
    (s.testSaturation a e).seq = s.seq ∧ (s.testSaturation a e).issue = s.issue ∧ (s.testSaturation a e).train =
    s.train ∧ (s.testSaturation a e).line = s.line ∧ (s.testSaturation a e).tracker = s.tracker ∧
    (s.testSaturation a e).trim.setPoint = s.trim.setPoint ∧ (s.testSaturation a e).trim.driveEnable =
    s.trim.driveEnable ∧ (s.testSaturation a e).trim.offset = s.trim.offset ∧ (s.testSaturation a e).trim.range =
    s.trim.range ∧ (s.testSaturation a e).trim.sending = s.trim.sending ∧ (s.testSaturation a
    e).trim.outputPending = s.trim.outputPending ∧ (s.testSaturation a e).trim.nextFrame = s.trim.nextFrame ∧
    (s.testSaturation a e).trim.lastFrame = s.trim.lastFrame ∧ (s.testSaturation a e).head = s.head ∧
    (s.testSaturation a e).control = s.control ∧ (s.testSaturation a e).cal = s.cal ∧ (s.testSaturation a e).time
    = s.time ∧ (s.testSaturation a e).free = s.free ∧ (s.testSaturation a e).pending = s.pending := by
  unfold State.testSaturation
  dsimp only
  repeat' split
  all_goals simp

@[simp] theorem State.decideRelease_frame (s : State) (a : Attempt) (d : Pose) :
    (s.decideRelease a d).host = s.host ∧ (s.decideRelease a d).book = s.book ∧ (s.decideRelease a d).seq = s.seq
    ∧ (s.decideRelease a d).issue = s.issue ∧ (s.decideRelease a d).train = s.train ∧ (s.decideRelease a d).line =
    s.line ∧ (s.decideRelease a d).tracker = s.tracker ∧ (s.decideRelease a d).trim.setPoint = s.trim.setPoint ∧
    (s.decideRelease a d).trim.driveEnable = s.trim.driveEnable ∧ (s.decideRelease a d).trim.offset =
    s.trim.offset ∧ (s.decideRelease a d).trim.range = s.trim.range ∧ (s.decideRelease a d).trim.sending =
    s.trim.sending ∧ (s.decideRelease a d).trim.outputPending = s.trim.outputPending ∧ (s.decideRelease a
    d).trim.nextFrame = s.trim.nextFrame ∧ (s.decideRelease a d).trim.lastFrame = s.trim.lastFrame ∧
    (s.decideRelease a d).head.binCount = s.head.binCount ∧ (s.decideRelease a d).head.lastTransit =
    s.head.lastTransit ∧ (s.decideRelease a d).head.lastVoidRelease = s.head.lastVoidRelease ∧ (s.decideRelease a
    d).control = s.control ∧ (s.decideRelease a d).cal = s.cal ∧ (s.decideRelease a d).time = s.time ∧
    (s.decideRelease a d).free = s.free ∧ (s.decideRelease a d).pending = s.pending := by
  simp [State.decideRelease]

@[simp] theorem State.decideProbe_frame (s : State) (a : Attempt) (gz sz : Int) :
    (s.decideProbe a gz sz).host = s.host ∧ (s.decideProbe a gz sz).book = s.book ∧ (s.decideProbe a gz sz).seq =
    s.seq ∧ (s.decideProbe a gz sz).issue = s.issue ∧ (s.decideProbe a gz sz).train = s.train ∧ (s.decideProbe a
    gz sz).line = s.line ∧ (s.decideProbe a gz sz).tracker = s.tracker ∧ (s.decideProbe a gz sz).trim.setPoint =
    s.trim.setPoint ∧ (s.decideProbe a gz sz).trim.driveEnable = s.trim.driveEnable ∧ (s.decideProbe a gz
    sz).trim.offset = s.trim.offset ∧ (s.decideProbe a gz sz).trim.range = s.trim.range ∧ (s.decideProbe a gz
    sz).trim.sending = s.trim.sending ∧ (s.decideProbe a gz sz).trim.outputPending = s.trim.outputPending ∧
    (s.decideProbe a gz sz).trim.nextFrame = s.trim.nextFrame ∧ (s.decideProbe a gz sz).trim.lastFrame =
    s.trim.lastFrame ∧ (s.decideProbe a gz sz).head.binCount = s.head.binCount ∧ (s.decideProbe a gz
    sz).head.lastTransit = s.head.lastTransit ∧ (s.decideProbe a gz sz).head.lastVoidRelease =
    s.head.lastVoidRelease ∧ (s.decideProbe a gz sz).control = s.control ∧ (s.decideProbe a gz sz).cal = s.cal ∧
    (s.decideProbe a gz sz).time = s.time ∧ (s.decideProbe a gz sz).free = s.free ∧ (s.decideProbe a gz
    sz).pending = s.pending := by
  simp [State.decideProbe]

@[simp] theorem State.waitConfirm_frame (s : State) (a : Attempt) :
    (s.waitConfirm a).host.mask = s.host.mask ∧ (s.waitConfirm a).host.readData = s.host.readData ∧ (s.waitConfirm
    a).host.attention = s.host.attention ∧ (s.waitConfirm a).book = s.book ∧ (s.waitConfirm a).seq = s.seq ∧
    (s.waitConfirm a).issue = s.issue ∧ (s.waitConfirm a).train = s.train ∧ (s.waitConfirm a).line = s.line ∧
    (s.waitConfirm a).tracker = s.tracker ∧ (s.waitConfirm a).trim.setPoint = s.trim.setPoint ∧ (s.waitConfirm
    a).trim.driveEnable = s.trim.driveEnable ∧ (s.waitConfirm a).trim.offset = s.trim.offset ∧ (s.waitConfirm
    a).trim.range = s.trim.range ∧ (s.waitConfirm a).trim.sending = s.trim.sending ∧ (s.waitConfirm
    a).trim.outputPending = s.trim.outputPending ∧ (s.waitConfirm a).trim.nextFrame = s.trim.nextFrame ∧
    (s.waitConfirm a).trim.lastFrame = s.trim.lastFrame ∧ (s.waitConfirm a).head = s.head ∧ (s.waitConfirm
    a).control = s.control ∧ (s.waitConfirm a).cal = s.cal ∧ (s.waitConfirm a).time = s.time ∧ (s.waitConfirm
    a).free = s.free ∧ (s.waitConfirm a).pending = s.pending := by
  unfold State.waitConfirm
  split <;> simp

@[simp] theorem State.takeDecision_frame (s : State) (a : Attempt) (b : Bool) (g e : Pose) :
    (s.takeDecision a b g e).host.mask = s.host.mask ∧ (s.takeDecision a b g e).host.readData = s.host.readData ∧
    (s.takeDecision a b g e).host.attention = s.host.attention ∧ (s.takeDecision a b g e).book = s.book ∧
    (s.takeDecision a b g e).seq = s.seq ∧ (s.takeDecision a b g e).issue = s.issue ∧ (s.takeDecision a b g
    e).train = s.train ∧ (s.takeDecision a b g e).line = s.line ∧ (s.takeDecision a b g e).tracker = s.tracker ∧
    (s.takeDecision a b g e).trim.setPoint = s.trim.setPoint ∧ (s.takeDecision a b g e).trim.driveEnable =
    s.trim.driveEnable ∧ (s.takeDecision a b g e).trim.offset = s.trim.offset ∧ (s.takeDecision a b g
    e).trim.range = s.trim.range ∧ (s.takeDecision a b g e).trim.sending = s.trim.sending ∧ (s.takeDecision a b g
    e).trim.outputPending = s.trim.outputPending ∧ (s.takeDecision a b g e).trim.nextFrame = s.trim.nextFrame ∧
    (s.takeDecision a b g e).trim.lastFrame = s.trim.lastFrame ∧ (s.takeDecision a b g e).head.binCount =
    s.head.binCount ∧ (s.takeDecision a b g e).head.lastTransit = s.head.lastTransit ∧ (s.takeDecision a b g
    e).head.lastVoidRelease = s.head.lastVoidRelease ∧ (s.takeDecision a b g e).control = s.control ∧
    (s.takeDecision a b g e).cal = s.cal ∧ (s.takeDecision a b g e).time = s.time ∧ (s.takeDecision a b g e).free
    = s.free ∧ (s.takeDecision a b g e).pending = s.pending := by
  unfold State.takeDecision
  repeat' split
  all_goals simp

@[simp] theorem State.workAttempt_frame (s : State) (a : Attempt) (g e : Pose) :
    (s.workAttempt a g e).host.mask = s.host.mask ∧ (s.workAttempt a g e).host.readData = s.host.readData ∧
    (s.workAttempt a g e).host.attention = s.host.attention ∧ (s.workAttempt a g e).book = s.book ∧ (s.workAttempt
    a g e).seq = s.seq ∧ (s.workAttempt a g e).issue = s.issue ∧ (s.workAttempt a g e).train = s.train ∧
    (s.workAttempt a g e).line = s.line ∧ (s.workAttempt a g e).tracker = s.tracker ∧ (s.workAttempt a g
    e).trim.setPoint = s.trim.setPoint ∧ (s.workAttempt a g e).trim.driveEnable = s.trim.driveEnable ∧
    (s.workAttempt a g e).trim.offset = s.trim.offset ∧ (s.workAttempt a g e).trim.range = s.trim.range ∧
    (s.workAttempt a g e).trim.sending = s.trim.sending ∧ (s.workAttempt a g e).trim.outputPending =
    s.trim.outputPending ∧ (s.workAttempt a g e).trim.nextFrame = s.trim.nextFrame ∧ (s.workAttempt a g
    e).trim.lastFrame = s.trim.lastFrame ∧ (s.workAttempt a g e).head.binCount = s.head.binCount ∧ (s.workAttempt
    a g e).head.lastTransit = s.head.lastTransit ∧ (s.workAttempt a g e).head.lastVoidRelease =
    s.head.lastVoidRelease ∧ (s.workAttempt a g e).control = s.control ∧ (s.workAttempt a g e).cal = s.cal ∧
    (s.workAttempt a g e).time = s.time ∧ (s.workAttempt a g e).free = s.free ∧ (s.workAttempt a g e).pending =
    s.pending := by
  simp [State.workAttempt]

@[simp] theorem State.usableSample_frame (s : State) (h : Pose) :
    (s.usableSample h).host.mask = s.host.mask ∧ (s.usableSample h).host.readData = s.host.readData ∧
    (s.usableSample h).host.attention = s.host.attention ∧ (s.usableSample h).book = s.book ∧ (s.usableSample
    h).seq = s.seq ∧ (s.usableSample h).issue = s.issue ∧ (s.usableSample h).train = s.train ∧ (s.usableSample
    h).line = s.line ∧ (s.usableSample h).tracker = s.tracker ∧ (s.usableSample h).head.binCount = s.head.binCount
    ∧ (s.usableSample h).head.lastTransit = s.head.lastTransit ∧ (s.usableSample h).head.lastVoidRelease =
    s.head.lastVoidRelease ∧ (s.usableSample h).control = s.control ∧ (s.usableSample h).cal = s.cal ∧
    (s.usableSample h).time = s.time ∧ (s.usableSample h).free = s.free ∧ (s.usableSample h).pending = s.pending := by
  unfold State.usableSample
  split <;> simp

/-! ### IssueOps -/

@[simp] theorem State.withdrawHead_frame (s : State) (c : StationCommand) :
    (s.withdrawHead c).host = s.host ∧ (s.withdrawHead c).book = s.book ∧ (s.withdrawHead c).status = s.status ∧
    (s.withdrawHead c).seq = s.seq ∧ (s.withdrawHead c).issue = s.issue ∧ (s.withdrawHead c).train = s.train ∧
    (s.withdrawHead c).line.transaction = s.line.transaction ∧ (s.withdrawHead c).line.lastFrame =
    s.line.lastFrame ∧ (s.withdrawHead c).line.complete = s.line.complete ∧ (s.withdrawHead c).tracker = s.tracker
    ∧ (s.withdrawHead c).trim = s.trim ∧ (s.withdrawHead c).head = s.head ∧ (s.withdrawHead c).control = s.control
    ∧ (s.withdrawHead c).cal = s.cal ∧ (s.withdrawHead c).time = s.time ∧ (s.withdrawHead c).free = s.free ∧
    (s.withdrawHead c).pending = s.pending := by
  simp [State.withdrawHead]

@[simp] theorem State.dropDeferredFeed_frame (s : State) (f : Feeder) :
    (s.dropDeferredFeed f).host = s.host ∧ (s.dropDeferredFeed f).book = s.book ∧ (s.dropDeferredFeed f).seq =
    s.seq ∧ (s.dropDeferredFeed f).issue = s.issue ∧ (s.dropDeferredFeed f).train = s.train ∧ (s.dropDeferredFeed
    f).line.transaction = s.line.transaction ∧ (s.dropDeferredFeed f).line.headRequests = s.line.headRequests ∧
    (s.dropDeferredFeed f).line.lastFrame = s.line.lastFrame ∧ (s.dropDeferredFeed f).line.complete =
    s.line.complete ∧ (s.dropDeferredFeed f).tracker = s.tracker ∧ (s.dropDeferredFeed f).trim = s.trim ∧
    (s.dropDeferredFeed f).head = s.head ∧ (s.dropDeferredFeed f).control = s.control ∧ (s.dropDeferredFeed f).cal
    = s.cal ∧ (s.dropDeferredFeed f).time = s.time ∧ (s.dropDeferredFeed f).free = s.free ∧ (s.dropDeferredFeed
    f).pending = s.pending := by
  unfold State.dropDeferredFeed
  dsimp only
  repeat' split
  all_goals simp

@[simp] theorem State.clearFeed_frame (s : State) :
    (s.clearFeed).host = s.host ∧ (s.clearFeed).book = s.book ∧ (s.clearFeed).seq = s.seq ∧
    (s.clearFeed).issue.list = s.issue.list ∧ (s.clearFeed).issue.starved = s.issue.starved ∧ (s.clearFeed).train
    = s.train ∧ (s.clearFeed).line.transaction = s.line.transaction ∧ (s.clearFeed).line.headRequests =
    s.line.headRequests ∧ (s.clearFeed).line.lastFrame = s.line.lastFrame ∧ (s.clearFeed).line.complete =
    s.line.complete ∧ (s.clearFeed).tracker = s.tracker ∧ (s.clearFeed).trim = s.trim ∧ (s.clearFeed).head =
    s.head ∧ (s.clearFeed).control = s.control ∧ (s.clearFeed).cal = s.cal ∧ (s.clearFeed).time = s.time ∧
    (s.clearFeed).free = s.free ∧ (s.clearFeed).pending = s.pending := by
  unfold State.clearFeed
  split <;> simp

@[simp] theorem State.endFeed_frame (s : State) :
    (s.endFeed).host = s.host ∧ (s.endFeed).book = s.book ∧ (s.endFeed).seq = s.seq ∧ (s.endFeed).issue.starved =
    s.issue.starved ∧ (s.endFeed).train = s.train ∧ (s.endFeed).line.transaction = s.line.transaction ∧
    (s.endFeed).line.headRequests = s.line.headRequests ∧ (s.endFeed).line.lastFrame = s.line.lastFrame ∧
    (s.endFeed).line.complete = s.line.complete ∧ (s.endFeed).tracker = s.tracker ∧ (s.endFeed).trim = s.trim ∧
    (s.endFeed).head = s.head ∧ (s.endFeed).control = s.control ∧ (s.endFeed).cal = s.cal ∧ (s.endFeed).time =
    s.time ∧ (s.endFeed).free = s.free ∧ (s.endFeed).pending = s.pending := by
  unfold State.endFeed
  repeat' split
  all_goals simp

@[simp] theorem State.voidBay_frame (s : State) :
    (s.voidBay).host = s.host ∧ (s.voidBay).book = s.book ∧ (s.voidBay).seq = s.seq ∧ (s.voidBay).issue = s.issue
    ∧ (s.voidBay).train = s.train ∧ (s.voidBay).line.transaction = s.line.transaction ∧ (s.voidBay).line.lastFrame
    = s.line.lastFrame ∧ (s.voidBay).line.complete = s.line.complete ∧ (s.voidBay).tracker = s.tracker ∧
    (s.voidBay).trim = s.trim ∧ (s.voidBay).head.binCount = s.head.binCount ∧ (s.voidBay).head.lastTransit =
    s.head.lastTransit ∧ (s.voidBay).head.lastVoidRelease = s.head.lastVoidRelease ∧ (s.voidBay).control =
    s.control ∧ (s.voidBay).cal = s.cal ∧ (s.voidBay).time = s.time ∧ (s.voidBay).free = s.free ∧
    (s.voidBay).pending = s.pending := by
  unfold State.voidBay
  dsimp only
  repeat' split
  all_goals simp

@[simp] theorem State.voidGripper_frame (s : State) :
    (s.voidGripper).host = s.host ∧ (s.voidGripper).book = s.book ∧ (s.voidGripper).seq = s.seq ∧
    (s.voidGripper).issue = s.issue ∧ (s.voidGripper).train = s.train ∧ (s.voidGripper).line.transaction =
    s.line.transaction ∧ (s.voidGripper).line.lastFrame = s.line.lastFrame ∧ (s.voidGripper).line.complete =
    s.line.complete ∧ (s.voidGripper).tracker = s.tracker ∧ (s.voidGripper).trim.setPoint = s.trim.setPoint ∧
    (s.voidGripper).trim.driveEnable = s.trim.driveEnable ∧ (s.voidGripper).trim.offset = s.trim.offset ∧
    (s.voidGripper).trim.range = s.trim.range ∧ (s.voidGripper).trim.sending = s.trim.sending ∧
    (s.voidGripper).trim.outputPending = s.trim.outputPending ∧ (s.voidGripper).trim.nextFrame = s.trim.nextFrame
    ∧ (s.voidGripper).trim.lastFrame = s.trim.lastFrame ∧ (s.voidGripper).head.binCount = s.head.binCount ∧
    (s.voidGripper).head.lastTransit = s.head.lastTransit ∧ (s.voidGripper).head.lastVoidRelease =
    s.head.lastVoidRelease ∧ (s.voidGripper).control = s.control ∧ (s.voidGripper).cal = s.cal ∧
    (s.voidGripper).time = s.time ∧ (s.voidGripper).free = s.free ∧ (s.voidGripper).pending = s.pending := by
  unfold State.voidGripper
  dsimp only
  repeat' split
  all_goals simp

@[simp] theorem State.voidAtHead_frame (s : State) (i : EntryIx) :
    (s.voidAtHead i).host = s.host ∧ (s.voidAtHead i).book = s.book ∧ (s.voidAtHead i).seq = s.seq ∧ (s.voidAtHead
    i).issue = s.issue ∧ (s.voidAtHead i).train = s.train ∧ (s.voidAtHead i).line.transaction = s.line.transaction
    ∧ (s.voidAtHead i).line.lastFrame = s.line.lastFrame ∧ (s.voidAtHead i).line.complete = s.line.complete ∧
    (s.voidAtHead i).tracker = s.tracker ∧ (s.voidAtHead i).trim.setPoint = s.trim.setPoint ∧ (s.voidAtHead
    i).trim.driveEnable = s.trim.driveEnable ∧ (s.voidAtHead i).trim.offset = s.trim.offset ∧ (s.voidAtHead
    i).trim.range = s.trim.range ∧ (s.voidAtHead i).trim.sending = s.trim.sending ∧ (s.voidAtHead
    i).trim.outputPending = s.trim.outputPending ∧ (s.voidAtHead i).trim.nextFrame = s.trim.nextFrame ∧
    (s.voidAtHead i).trim.lastFrame = s.trim.lastFrame ∧ (s.voidAtHead i).head.binCount = s.head.binCount ∧
    (s.voidAtHead i).head.lastTransit = s.head.lastTransit ∧ (s.voidAtHead i).head.lastVoidRelease =
    s.head.lastVoidRelease ∧ (s.voidAtHead i).control = s.control ∧ (s.voidAtHead i).cal = s.cal ∧ (s.voidAtHead
    i).time = s.time ∧ (s.voidAtHead i).free = s.free ∧ (s.voidAtHead i).pending = s.pending := by
  unfold State.voidAtHead
  repeat' split
  all_goals simp

@[simp] theorem State.voidCarrier_frame (s : State) (i : EntryIx) :
    (s.voidCarrier i).host = s.host ∧ (s.voidCarrier i).book = s.book ∧ (s.voidCarrier i).status = s.status ∧
    (s.voidCarrier i).seq = s.seq ∧ (s.voidCarrier i).issue = s.issue ∧ (s.voidCarrier i).train.drive =
    s.train.drive ∧ (s.voidCarrier i).train.limitReached = s.train.limitReached ∧ (s.voidCarrier i).line = s.line
    ∧ (s.voidCarrier i).tracker = s.tracker ∧ (s.voidCarrier i).trim = s.trim ∧ (s.voidCarrier i).head = s.head ∧
    (s.voidCarrier i).control = s.control ∧ (s.voidCarrier i).cal = s.cal ∧ (s.voidCarrier i).time = s.time ∧
    (s.voidCarrier i).free = s.free ∧ (s.voidCarrier i).pending = s.pending := by
  simp [State.voidCarrier]

@[simp] theorem State.voidTrain_frame (s : State) :
    (s.voidTrain).host = s.host ∧ (s.voidTrain).book = s.book ∧ (s.voidTrain).seq = s.seq ∧ (s.voidTrain).issue =
    s.issue ∧ (s.voidTrain).train.drive = s.train.drive ∧ (s.voidTrain).line = s.line ∧ (s.voidTrain).tracker =
    s.tracker ∧ (s.voidTrain).trim = s.trim ∧ (s.voidTrain).head = s.head ∧ (s.voidTrain).control = s.control ∧
    (s.voidTrain).cal = s.cal ∧ (s.voidTrain).time = s.time ∧ (s.voidTrain).free = s.free ∧ (s.voidTrain).pending
    = s.pending := by
  simp [State.voidTrain]

@[simp] theorem State.voidFeed_frame (s : State) :
    (s.voidFeed).host = s.host ∧ (s.voidFeed).book = s.book ∧ (s.voidFeed).seq = s.seq ∧ (s.voidFeed).issue.list =
    s.issue.list ∧ (s.voidFeed).issue.starved = s.issue.starved ∧ (s.voidFeed).train = s.train ∧
    (s.voidFeed).line.transaction = s.line.transaction ∧ (s.voidFeed).line.headRequests = s.line.headRequests ∧
    (s.voidFeed).line.lastFrame = s.line.lastFrame ∧ (s.voidFeed).line.complete = s.line.complete ∧
    (s.voidFeed).tracker = s.tracker ∧ (s.voidFeed).trim = s.trim ∧ (s.voidFeed).head = s.head ∧
    (s.voidFeed).control = s.control ∧ (s.voidFeed).cal = s.cal ∧ (s.voidFeed).time = s.time ∧ (s.voidFeed).free =
    s.free ∧ (s.voidFeed).pending = s.pending := by
  unfold State.voidFeed
  repeat' split
  all_goals simp

@[simp] theorem State.voidBrick_frame (s : State) (r : IssueRecord) :
    (s.voidBrick r).host = s.host ∧ (s.voidBrick r).book = s.book ∧ (s.voidBrick r).seq = s.seq ∧ (s.voidBrick
    r).issue.list = s.issue.list ∧ (s.voidBrick r).issue.starved = s.issue.starved ∧ (s.voidBrick r).train.drive =
    s.train.drive ∧ (s.voidBrick r).train.limitReached = s.train.limitReached ∧ (s.voidBrick r).line.transaction =
    s.line.transaction ∧ (s.voidBrick r).line.lastFrame = s.line.lastFrame ∧ (s.voidBrick r).line.complete =
    s.line.complete ∧ (s.voidBrick r).tracker = s.tracker ∧ (s.voidBrick r).trim.setPoint = s.trim.setPoint ∧
    (s.voidBrick r).trim.driveEnable = s.trim.driveEnable ∧ (s.voidBrick r).trim.offset = s.trim.offset ∧
    (s.voidBrick r).trim.range = s.trim.range ∧ (s.voidBrick r).trim.sending = s.trim.sending ∧ (s.voidBrick
    r).trim.outputPending = s.trim.outputPending ∧ (s.voidBrick r).trim.nextFrame = s.trim.nextFrame ∧
    (s.voidBrick r).trim.lastFrame = s.trim.lastFrame ∧ (s.voidBrick r).head.binCount = s.head.binCount ∧
    (s.voidBrick r).head.lastTransit = s.head.lastTransit ∧ (s.voidBrick r).head.lastVoidRelease =
    s.head.lastVoidRelease ∧ (s.voidBrick r).control = s.control ∧ (s.voidBrick r).cal = s.cal ∧ (s.voidBrick
    r).time = s.time ∧ (s.voidBrick r).free = s.free ∧ (s.voidBrick r).pending = s.pending := by
  unfold State.voidBrick
  split <;> simp

@[simp] theorem State.displace_frame (s : State) (r : IssueRecord) :
    (s.displace r).host.mask = s.host.mask ∧ (s.displace r).host.readData = s.host.readData ∧ (s.displace
    r).host.attention = s.host.attention ∧ (s.displace r).seq.profile = s.seq.profile ∧ (s.displace
    r).issue.starved = s.issue.starved ∧ (s.displace r).train.drive = s.train.drive ∧ (s.displace
    r).train.limitReached = s.train.limitReached ∧ (s.displace r).line.transaction = s.line.transaction ∧
    (s.displace r).line.lastFrame = s.line.lastFrame ∧ (s.displace r).line.complete = s.line.complete ∧
    (s.displace r).tracker = s.tracker ∧ (s.displace r).trim.setPoint = s.trim.setPoint ∧ (s.displace
    r).trim.driveEnable = s.trim.driveEnable ∧ (s.displace r).trim.offset = s.trim.offset ∧ (s.displace
    r).trim.range = s.trim.range ∧ (s.displace r).trim.sending = s.trim.sending ∧ (s.displace
    r).trim.outputPending = s.trim.outputPending ∧ (s.displace r).trim.nextFrame = s.trim.nextFrame ∧ (s.displace
    r).trim.lastFrame = s.trim.lastFrame ∧ (s.displace r).head.binCount = s.head.binCount ∧ (s.displace
    r).head.lastTransit = s.head.lastTransit ∧ (s.displace r).head.lastVoidRelease = s.head.lastVoidRelease ∧
    (s.displace r).control = s.control ∧ (s.displace r).cal = s.cal ∧ (s.displace r).time = s.time ∧ (s.displace
    r).free = s.free ∧ (s.displace r).pending = s.pending := by
  simp [State.displace]

@[simp] theorem State.displaceAll_frame (s : State) (l : List IssueRecord) :
    (s.displaceAll l).host.mask = s.host.mask ∧ (s.displaceAll l).host.readData = s.host.readData ∧ (s.displaceAll
    l).host.attention = s.host.attention ∧ (s.displaceAll l).seq.profile = s.seq.profile ∧ (s.displaceAll
    l).issue.starved = s.issue.starved ∧ (s.displaceAll l).train.drive = s.train.drive ∧ (s.displaceAll
    l).train.limitReached = s.train.limitReached ∧ (s.displaceAll l).line.transaction = s.line.transaction ∧
    (s.displaceAll l).line.lastFrame = s.line.lastFrame ∧ (s.displaceAll l).line.complete = s.line.complete ∧
    (s.displaceAll l).tracker = s.tracker ∧ (s.displaceAll l).trim.setPoint = s.trim.setPoint ∧ (s.displaceAll
    l).trim.driveEnable = s.trim.driveEnable ∧ (s.displaceAll l).trim.offset = s.trim.offset ∧ (s.displaceAll
    l).trim.range = s.trim.range ∧ (s.displaceAll l).trim.sending = s.trim.sending ∧ (s.displaceAll
    l).trim.outputPending = s.trim.outputPending ∧ (s.displaceAll l).trim.nextFrame = s.trim.nextFrame ∧
    (s.displaceAll l).trim.lastFrame = s.trim.lastFrame ∧ (s.displaceAll l).head.binCount = s.head.binCount ∧
    (s.displaceAll l).head.lastTransit = s.head.lastTransit ∧ (s.displaceAll l).head.lastVoidRelease =
    s.head.lastVoidRelease ∧ (s.displaceAll l).control = s.control ∧ (s.displaceAll l).cal = s.cal ∧
    (s.displaceAll l).time = s.time ∧ (s.displaceAll l).free = s.free ∧ (s.displaceAll l).pending = s.pending := by
  unfold State.displaceAll
  have h := foldl_kept State.displace
      (fun t => (t.host.mask, t.host.readData, t.host.attention, t.seq.profile, t.issue.starved, t.train.drive,
        t.train.limitReached, t.line.transaction, t.line.lastFrame, t.line.complete, t.tracker, t.trim.setPoint,
        t.trim.driveEnable, t.trim.offset, t.trim.range, t.trim.sending, t.trim.outputPending, t.trim.nextFrame,
        t.trim.lastFrame, t.head.binCount, t.head.lastTransit, t.head.lastVoidRelease, t.control, t.cal, t.time,
        t.free, t.pending))
      (by simp) l s
  simpa using h

@[simp] theorem State.retry_frame (s : State) (i : EntryIx) :
    (s.retry i).host.mask = s.host.mask ∧ (s.retry i).host.readData = s.host.readData ∧ (s.retry i).host.attention
    = s.host.attention ∧ (s.retry i).seq.profile = s.seq.profile ∧ (s.retry i).issue.starved = s.issue.starved ∧
    (s.retry i).train.drive = s.train.drive ∧ (s.retry i).train.limitReached = s.train.limitReached ∧ (s.retry
    i).line.transaction = s.line.transaction ∧ (s.retry i).line.lastFrame = s.line.lastFrame ∧ (s.retry
    i).line.complete = s.line.complete ∧ (s.retry i).tracker = s.tracker ∧ (s.retry i).trim.setPoint =
    s.trim.setPoint ∧ (s.retry i).trim.driveEnable = s.trim.driveEnable ∧ (s.retry i).trim.offset = s.trim.offset
    ∧ (s.retry i).trim.range = s.trim.range ∧ (s.retry i).trim.sending = s.trim.sending ∧ (s.retry
    i).trim.outputPending = s.trim.outputPending ∧ (s.retry i).trim.nextFrame = s.trim.nextFrame ∧ (s.retry
    i).trim.lastFrame = s.trim.lastFrame ∧ (s.retry i).head.binCount = s.head.binCount ∧ (s.retry
    i).head.lastTransit = s.head.lastTransit ∧ (s.retry i).head.lastVoidRelease = s.head.lastVoidRelease ∧
    (s.retry i).control = s.control ∧ (s.retry i).cal = s.cal ∧ (s.retry i).time = s.time ∧ (s.retry i).free =
    s.free ∧ (s.retry i).pending = s.pending := by
  unfold State.retry
  dsimp only
  split <;> simp

@[simp] theorem State.failFinally_frame (s : State) (i : EntryIx) (r : Reason) :
    (s.failFinally i r).host.mask = s.host.mask ∧ (s.failFinally i r).host.readData = s.host.readData ∧
    (s.failFinally i r).host.attention = s.host.attention ∧ (s.failFinally i r).seq.profile = s.seq.profile ∧
    (s.failFinally i r).issue.feed = s.issue.feed ∧ (s.failFinally i r).issue.starved = s.issue.starved ∧
    (s.failFinally i r).train = s.train ∧ (s.failFinally i r).line = s.line ∧ (s.failFinally i r).tracker =
    s.tracker ∧ (s.failFinally i r).trim = s.trim ∧ (s.failFinally i r).head = s.head ∧ (s.failFinally i
    r).control = s.control ∧ (s.failFinally i r).cal = s.cal ∧ (s.failFinally i r).time = s.time ∧ (s.failFinally
    i r).free = s.free ∧ (s.failFinally i r).pending = s.pending := by
  simp [State.failFinally]

@[simp] theorem State.attemptFailure_frame (s : State) (i : EntryIx) (r : Reason) :
    (s.attemptFailure i r).host.mask = s.host.mask ∧ (s.attemptFailure i r).host.readData = s.host.readData ∧
    (s.attemptFailure i r).host.attention = s.host.attention ∧ (s.attemptFailure i r).seq.profile = s.seq.profile
    ∧ (s.attemptFailure i r).issue.starved = s.issue.starved ∧ (s.attemptFailure i r).train.drive = s.train.drive
    ∧ (s.attemptFailure i r).train.limitReached = s.train.limitReached ∧ (s.attemptFailure i r).line.transaction =
    s.line.transaction ∧ (s.attemptFailure i r).line.lastFrame = s.line.lastFrame ∧ (s.attemptFailure i
    r).line.complete = s.line.complete ∧ (s.attemptFailure i r).tracker = s.tracker ∧ (s.attemptFailure i
    r).trim.setPoint = s.trim.setPoint ∧ (s.attemptFailure i r).trim.driveEnable = s.trim.driveEnable ∧
    (s.attemptFailure i r).trim.offset = s.trim.offset ∧ (s.attemptFailure i r).trim.range = s.trim.range ∧
    (s.attemptFailure i r).trim.sending = s.trim.sending ∧ (s.attemptFailure i r).trim.outputPending =
    s.trim.outputPending ∧ (s.attemptFailure i r).trim.nextFrame = s.trim.nextFrame ∧ (s.attemptFailure i
    r).trim.lastFrame = s.trim.lastFrame ∧ (s.attemptFailure i r).head.binCount = s.head.binCount ∧
    (s.attemptFailure i r).head.lastTransit = s.head.lastTransit ∧ (s.attemptFailure i r).head.lastVoidRelease =
    s.head.lastVoidRelease ∧ (s.attemptFailure i r).control = s.control ∧ (s.attemptFailure i r).cal = s.cal ∧
    (s.attemptFailure i r).time = s.time ∧ (s.attemptFailure i r).free = s.free ∧ (s.attemptFailure i r).pending =
    s.pending := by
  unfold State.attemptFailure
  dsimp only
  repeat' split
  all_goals simp

@[simp] theorem State.failAttempt_frame (s : State) (i : EntryIx) (r : Reason) :
    (s.failAttempt i r).host.mask = s.host.mask ∧ (s.failAttempt i r).host.readData = s.host.readData ∧
    (s.failAttempt i r).host.attention = s.host.attention ∧ (s.failAttempt i r).seq.profile = s.seq.profile ∧
    (s.failAttempt i r).issue.starved = s.issue.starved ∧ (s.failAttempt i r).train.drive = s.train.drive ∧
    (s.failAttempt i r).train.limitReached = s.train.limitReached ∧ (s.failAttempt i r).line.transaction =
    s.line.transaction ∧ (s.failAttempt i r).line.lastFrame = s.line.lastFrame ∧ (s.failAttempt i r).line.complete
    = s.line.complete ∧ (s.failAttempt i r).tracker = s.tracker ∧ (s.failAttempt i r).trim.setPoint =
    s.trim.setPoint ∧ (s.failAttempt i r).trim.driveEnable = s.trim.driveEnable ∧ (s.failAttempt i r).trim.offset
    = s.trim.offset ∧ (s.failAttempt i r).trim.range = s.trim.range ∧ (s.failAttempt i r).trim.sending =
    s.trim.sending ∧ (s.failAttempt i r).trim.outputPending = s.trim.outputPending ∧ (s.failAttempt i
    r).trim.nextFrame = s.trim.nextFrame ∧ (s.failAttempt i r).trim.lastFrame = s.trim.lastFrame ∧ (s.failAttempt
    i r).head.binCount = s.head.binCount ∧ (s.failAttempt i r).head.lastTransit = s.head.lastTransit ∧
    (s.failAttempt i r).head.lastVoidRelease = s.head.lastVoidRelease ∧ (s.failAttempt i r).control = s.control ∧
    (s.failAttempt i r).cal = s.cal ∧ (s.failAttempt i r).time = s.time ∧ (s.failAttempt i r).free = s.free ∧
    (s.failAttempt i r).pending = s.pending := by
  simp [State.failAttempt]

@[simp] theorem State.emptyList_frame (s : State) :
    (s.emptyList).host.mask = s.host.mask ∧ (s.emptyList).host.readData = s.host.readData ∧
    (s.emptyList).host.attention = s.host.attention ∧ (s.emptyList).seq.profile = s.seq.profile ∧
    (s.emptyList).issue.starved = s.issue.starved ∧ (s.emptyList).train.drive = s.train.drive ∧
    (s.emptyList).train.limitReached = s.train.limitReached ∧ (s.emptyList).line.transaction = s.line.transaction
    ∧ (s.emptyList).line.lastFrame = s.line.lastFrame ∧ (s.emptyList).line.complete = s.line.complete ∧
    (s.emptyList).tracker = s.tracker ∧ (s.emptyList).trim.setPoint = s.trim.setPoint ∧
    (s.emptyList).trim.driveEnable = s.trim.driveEnable ∧ (s.emptyList).trim.offset = s.trim.offset ∧
    (s.emptyList).trim.range = s.trim.range ∧ (s.emptyList).trim.sending = s.trim.sending ∧
    (s.emptyList).trim.outputPending = s.trim.outputPending ∧ (s.emptyList).trim.nextFrame = s.trim.nextFrame ∧
    (s.emptyList).trim.lastFrame = s.trim.lastFrame ∧ (s.emptyList).head.binCount = s.head.binCount ∧
    (s.emptyList).head.lastTransit = s.head.lastTransit ∧ (s.emptyList).head.lastVoidRelease =
    s.head.lastVoidRelease ∧ (s.emptyList).control = s.control ∧ (s.emptyList).cal = s.cal ∧ (s.emptyList).time =
    s.time ∧ (s.emptyList).free = s.free ∧ (s.emptyList).pending = s.pending := by
  unfold State.emptyList
  have h := foldl_kept State.displace
      (fun t => (t.host.mask, t.host.readData, t.host.attention, t.seq.profile, t.issue.starved, t.train.drive,
        t.train.limitReached, t.line.transaction, t.line.lastFrame, t.line.complete, t.tracker, t.trim.setPoint,
        t.trim.driveEnable, t.trim.offset, t.trim.range, t.trim.sending, t.trim.outputPending, t.trim.nextFrame,
        t.trim.lastFrame, t.head.binCount, t.head.lastTransit, t.head.lastVoidRelease, t.control, t.cal, t.time,
        t.free, t.pending))
      (by simp) s.issue.list s
  simpa using h

@[simp] theorem State.voidPlaces_frame (s : State) :
    (s.voidPlaces).host = s.host ∧ (s.voidPlaces).book = s.book ∧ (s.voidPlaces).seq = s.seq ∧
    (s.voidPlaces).issue = s.issue ∧ (s.voidPlaces).train = s.train ∧ (s.voidPlaces).line.transaction =
    s.line.transaction ∧ (s.voidPlaces).line.lastFrame = s.line.lastFrame ∧ (s.voidPlaces).line.complete =
    s.line.complete ∧ (s.voidPlaces).tracker = s.tracker ∧ (s.voidPlaces).trim.setPoint = s.trim.setPoint ∧
    (s.voidPlaces).trim.driveEnable = s.trim.driveEnable ∧ (s.voidPlaces).trim.offset = s.trim.offset ∧
    (s.voidPlaces).trim.range = s.trim.range ∧ (s.voidPlaces).trim.sending = s.trim.sending ∧
    (s.voidPlaces).trim.outputPending = s.trim.outputPending ∧ (s.voidPlaces).trim.nextFrame = s.trim.nextFrame ∧
    (s.voidPlaces).trim.lastFrame = s.trim.lastFrame ∧ (s.voidPlaces).head.binCount = s.head.binCount ∧
    (s.voidPlaces).head.lastTransit = s.head.lastTransit ∧ (s.voidPlaces).head.lastVoidRelease =
    s.head.lastVoidRelease ∧ (s.voidPlaces).control = s.control ∧ (s.voidPlaces).cal = s.cal ∧ (s.voidPlaces).time
    = s.time ∧ (s.voidPlaces).free = s.free ∧ (s.voidPlaces).pending = s.pending := by
  unfold State.voidPlaces
  dsimp only
  repeat' split
  all_goals simp

@[simp] theorem State.enterHalt_frame (s : State) :
    (s.enterHalt).host.mask = s.host.mask ∧ (s.enterHalt).host.readData = s.host.readData ∧
    (s.enterHalt).host.attention = s.host.attention ∧ (s.enterHalt).seq.profile = s.seq.profile ∧
    (s.enterHalt).issue.starved = s.issue.starved ∧ (s.enterHalt).train.drive = s.train.drive ∧
    (s.enterHalt).line.transaction = s.line.transaction ∧ (s.enterHalt).line.lastFrame = s.line.lastFrame ∧
    (s.enterHalt).line.complete = s.line.complete ∧ (s.enterHalt).tracker = s.tracker ∧
    (s.enterHalt).trim.setPoint = s.trim.setPoint ∧ (s.enterHalt).trim.driveEnable = s.trim.driveEnable ∧
    (s.enterHalt).trim.offset = s.trim.offset ∧ (s.enterHalt).trim.range = s.trim.range ∧
    (s.enterHalt).trim.sending = s.trim.sending ∧ (s.enterHalt).trim.outputPending = s.trim.outputPending ∧
    (s.enterHalt).trim.nextFrame = s.trim.nextFrame ∧ (s.enterHalt).trim.lastFrame = s.trim.lastFrame ∧
    (s.enterHalt).head.binCount = s.head.binCount ∧ (s.enterHalt).head.lastTransit = s.head.lastTransit ∧
    (s.enterHalt).head.lastVoidRelease = s.head.lastVoidRelease ∧ (s.enterHalt).control.manualRequest =
    s.control.manualRequest ∧ (s.enterHalt).control.manualGrant = s.control.manualGrant ∧
    (s.enterHalt).control.boomMoving = s.control.boomMoving ∧ (s.enterHalt).control.emergency =
    s.control.emergency ∧ (s.enterHalt).control.sensed = s.control.sensed ∧ (s.enterHalt).control.latched =
    s.control.latched ∧ (s.enterHalt).control.loaded = s.control.loaded ∧ (s.enterHalt).cal = s.cal ∧
    (s.enterHalt).time = s.time ∧ (s.enterHalt).free = s.free ∧ (s.enterHalt).pending = s.pending := by
  simp [State.enterHalt]

@[simp] theorem State.requestHalt_frame (s : State) :
    (s.requestHalt).host.mask = s.host.mask ∧ (s.requestHalt).host.readData = s.host.readData ∧
    (s.requestHalt).host.attention = s.host.attention ∧ (s.requestHalt).seq.profile = s.seq.profile ∧
    (s.requestHalt).issue.starved = s.issue.starved ∧ (s.requestHalt).train.drive = s.train.drive ∧
    (s.requestHalt).line.transaction = s.line.transaction ∧ (s.requestHalt).line.lastFrame = s.line.lastFrame ∧
    (s.requestHalt).line.complete = s.line.complete ∧ (s.requestHalt).tracker = s.tracker ∧
    (s.requestHalt).trim.setPoint = s.trim.setPoint ∧ (s.requestHalt).trim.driveEnable = s.trim.driveEnable ∧
    (s.requestHalt).trim.offset = s.trim.offset ∧ (s.requestHalt).trim.range = s.trim.range ∧
    (s.requestHalt).trim.sending = s.trim.sending ∧ (s.requestHalt).trim.outputPending = s.trim.outputPending ∧
    (s.requestHalt).trim.nextFrame = s.trim.nextFrame ∧ (s.requestHalt).trim.lastFrame = s.trim.lastFrame ∧
    (s.requestHalt).head.binCount = s.head.binCount ∧ (s.requestHalt).head.lastTransit = s.head.lastTransit ∧
    (s.requestHalt).head.lastVoidRelease = s.head.lastVoidRelease ∧ (s.requestHalt).control.manualRequest =
    s.control.manualRequest ∧ (s.requestHalt).control.manualGrant = s.control.manualGrant ∧
    (s.requestHalt).control.boomMoving = s.control.boomMoving ∧ (s.requestHalt).control.emergency =
    s.control.emergency ∧ (s.requestHalt).control.sensed = s.control.sensed ∧ (s.requestHalt).control.latched =
    s.control.latched ∧ (s.requestHalt).control.loaded = s.control.loaded ∧ (s.requestHalt).cal = s.cal ∧
    (s.requestHalt).time = s.time ∧ (s.requestHalt).free = s.free ∧ (s.requestHalt).pending = s.pending := by
  unfold State.requestHalt
  split <;> simp

@[simp] theorem State.trainFault_frame (s : State) :
    (s.trainFault).host.mask = s.host.mask ∧ (s.trainFault).host.readData = s.host.readData ∧
    (s.trainFault).host.attention = s.host.attention ∧ (s.trainFault).seq.profile = s.seq.profile ∧
    (s.trainFault).issue.starved = s.issue.starved ∧ (s.trainFault).train.drive = s.train.drive ∧
    (s.trainFault).line.transaction = s.line.transaction ∧ (s.trainFault).line.lastFrame = s.line.lastFrame ∧
    (s.trainFault).line.complete = s.line.complete ∧ (s.trainFault).tracker = s.tracker ∧
    (s.trainFault).trim.setPoint = s.trim.setPoint ∧ (s.trainFault).trim.driveEnable = s.trim.driveEnable ∧
    (s.trainFault).trim.offset = s.trim.offset ∧ (s.trainFault).trim.range = s.trim.range ∧
    (s.trainFault).trim.sending = s.trim.sending ∧ (s.trainFault).trim.outputPending = s.trim.outputPending ∧
    (s.trainFault).trim.nextFrame = s.trim.nextFrame ∧ (s.trainFault).trim.lastFrame = s.trim.lastFrame ∧
    (s.trainFault).head.binCount = s.head.binCount ∧ (s.trainFault).head.lastTransit = s.head.lastTransit ∧
    (s.trainFault).head.lastVoidRelease = s.head.lastVoidRelease ∧ (s.trainFault).control.manualRequest =
    s.control.manualRequest ∧ (s.trainFault).control.manualGrant = s.control.manualGrant ∧
    (s.trainFault).control.boomMoving = s.control.boomMoving ∧ (s.trainFault).control.emergency =
    s.control.emergency ∧ (s.trainFault).control.sensed = s.control.sensed ∧ (s.trainFault).control.latched =
    s.control.latched ∧ (s.trainFault).control.loaded = s.control.loaded ∧ (s.trainFault).cal = s.cal ∧
    (s.trainFault).time = s.time ∧ (s.trainFault).free = s.free ∧ (s.trainFault).pending = s.pending := by
  simp [State.trainFault]

end Sys2Proof.Machine
end

