-- ==== Sys2Proof/Laws/Frames2.lean ====
section
/-! SUPPORT. For each operation of the head sequencer, the station line, the tracking unit and what is re-evaluated: the blocks of the state that it leaves unchanged. -/

namespace Sys2Proof.Machine

/-! ### HeadOps -/

@[simp] theorem State.recoverLoss_frame (s : State) :
    (s.recoverLoss).host.mask = s.host.mask ∧ (s.recoverLoss).host.readData = s.host.readData ∧
    (s.recoverLoss).host.attention = s.host.attention ∧ (s.recoverLoss).seq.profile = s.seq.profile ∧
    (s.recoverLoss).issue.starved = s.issue.starved ∧ (s.recoverLoss).train.drive = s.train.drive ∧
    (s.recoverLoss).train.limitReached = s.train.limitReached ∧ (s.recoverLoss).line.transaction =
    s.line.transaction ∧ (s.recoverLoss).line.lastFrame = s.line.lastFrame ∧ (s.recoverLoss).line.complete =
    s.line.complete ∧ (s.recoverLoss).tracker = s.tracker ∧ (s.recoverLoss).trim.setPoint = s.trim.setPoint ∧
    (s.recoverLoss).trim.driveEnable = s.trim.driveEnable ∧ (s.recoverLoss).trim.offset = s.trim.offset ∧
    (s.recoverLoss).trim.range = s.trim.range ∧ (s.recoverLoss).trim.sending = s.trim.sending ∧
    (s.recoverLoss).trim.outputPending = s.trim.outputPending ∧ (s.recoverLoss).trim.nextFrame = s.trim.nextFrame
    ∧ (s.recoverLoss).trim.lastFrame = s.trim.lastFrame ∧ (s.recoverLoss).head.binCount = s.head.binCount ∧
    (s.recoverLoss).head.lastTransit = s.head.lastTransit ∧ (s.recoverLoss).head.lastVoidRelease =
    s.head.lastVoidRelease ∧ (s.recoverLoss).control = s.control ∧ (s.recoverLoss).cal = s.cal ∧
    (s.recoverLoss).time = s.time ∧ (s.recoverLoss).free = s.free ∧ (s.recoverLoss).pending = s.pending := by
  unfold State.recoverLoss
  repeat' split
  all_goals simp

@[simp] theorem State.recoverIfLost_frame (s : State) :
    (s.recoverIfLost).host.mask = s.host.mask ∧ (s.recoverIfLost).host.readData = s.host.readData ∧
    (s.recoverIfLost).host.attention = s.host.attention ∧ (s.recoverIfLost).seq.profile = s.seq.profile ∧
    (s.recoverIfLost).issue.starved = s.issue.starved ∧ (s.recoverIfLost).train.drive = s.train.drive ∧
    (s.recoverIfLost).train.limitReached = s.train.limitReached ∧ (s.recoverIfLost).line.transaction =
    s.line.transaction ∧ (s.recoverIfLost).line.lastFrame = s.line.lastFrame ∧ (s.recoverIfLost).line.complete =
    s.line.complete ∧ (s.recoverIfLost).tracker = s.tracker ∧ (s.recoverIfLost).trim.setPoint = s.trim.setPoint ∧
    (s.recoverIfLost).trim.driveEnable = s.trim.driveEnable ∧ (s.recoverIfLost).trim.offset = s.trim.offset ∧
    (s.recoverIfLost).trim.range = s.trim.range ∧ (s.recoverIfLost).trim.sending = s.trim.sending ∧
    (s.recoverIfLost).trim.outputPending = s.trim.outputPending ∧ (s.recoverIfLost).trim.nextFrame =
    s.trim.nextFrame ∧ (s.recoverIfLost).trim.lastFrame = s.trim.lastFrame ∧ (s.recoverIfLost).head.binCount =
    s.head.binCount ∧ (s.recoverIfLost).head.lastTransit = s.head.lastTransit ∧
    (s.recoverIfLost).head.lastVoidRelease = s.head.lastVoidRelease ∧ (s.recoverIfLost).control = s.control ∧
    (s.recoverIfLost).cal = s.cal ∧ (s.recoverIfLost).time = s.time ∧ (s.recoverIfLost).free = s.free ∧
    (s.recoverIfLost).pending = s.pending := by
  unfold State.recoverIfLost
  split <;> simp

@[simp] theorem State.enterLost_frame (s : State) :
    (s.enterLost).host.mask = s.host.mask ∧ (s.enterLost).host.readData = s.host.readData ∧
    (s.enterLost).host.attention = s.host.attention ∧ (s.enterLost).seq.profile = s.seq.profile ∧
    (s.enterLost).issue.starved = s.issue.starved ∧ (s.enterLost).train.drive = s.train.drive ∧
    (s.enterLost).train.limitReached = s.train.limitReached ∧ (s.enterLost).line.transaction = s.line.transaction
    ∧ (s.enterLost).line.lastFrame = s.line.lastFrame ∧ (s.enterLost).line.complete = s.line.complete ∧
    (s.enterLost).trim.setPoint = s.trim.setPoint ∧ (s.enterLost).trim.driveEnable = s.trim.driveEnable ∧
    (s.enterLost).trim.offset = s.trim.offset ∧ (s.enterLost).trim.range = s.trim.range ∧
    (s.enterLost).trim.sending = s.trim.sending ∧ (s.enterLost).trim.outputPending = s.trim.outputPending ∧
    (s.enterLost).trim.nextFrame = s.trim.nextFrame ∧ (s.enterLost).trim.lastFrame = s.trim.lastFrame ∧
    (s.enterLost).head.binCount = s.head.binCount ∧ (s.enterLost).head.lastTransit = s.head.lastTransit ∧
    (s.enterLost).head.lastVoidRelease = s.head.lastVoidRelease ∧ (s.enterLost).control = s.control ∧
    (s.enterLost).cal = s.cal ∧ (s.enterLost).time = s.time ∧ (s.enterLost).free = s.free ∧ (s.enterLost).pending
    = s.pending := by
  simp [State.enterLost]

@[simp] theorem State.expireLossIfDue_frame (s : State) :
    (s.expireLossIfDue).host.mask = s.host.mask ∧ (s.expireLossIfDue).host.readData = s.host.readData ∧
    (s.expireLossIfDue).host.attention = s.host.attention ∧ (s.expireLossIfDue).seq.profile = s.seq.profile ∧
    (s.expireLossIfDue).issue.starved = s.issue.starved ∧ (s.expireLossIfDue).train.drive = s.train.drive ∧
    (s.expireLossIfDue).train.limitReached = s.train.limitReached ∧ (s.expireLossIfDue).line.transaction =
    s.line.transaction ∧ (s.expireLossIfDue).line.lastFrame = s.line.lastFrame ∧ (s.expireLossIfDue).line.complete
    = s.line.complete ∧ (s.expireLossIfDue).trim.setPoint = s.trim.setPoint ∧ (s.expireLossIfDue).trim.driveEnable
    = s.trim.driveEnable ∧ (s.expireLossIfDue).trim.offset = s.trim.offset ∧ (s.expireLossIfDue).trim.range =
    s.trim.range ∧ (s.expireLossIfDue).trim.sending = s.trim.sending ∧ (s.expireLossIfDue).trim.outputPending =
    s.trim.outputPending ∧ (s.expireLossIfDue).trim.nextFrame = s.trim.nextFrame ∧
    (s.expireLossIfDue).trim.lastFrame = s.trim.lastFrame ∧ (s.expireLossIfDue).head.binCount = s.head.binCount ∧
    (s.expireLossIfDue).head.lastTransit = s.head.lastTransit ∧ (s.expireLossIfDue).head.lastVoidRelease =
    s.head.lastVoidRelease ∧ (s.expireLossIfDue).control = s.control ∧ (s.expireLossIfDue).cal = s.cal ∧
    (s.expireLossIfDue).time = s.time ∧ (s.expireLossIfDue).free = s.free ∧ (s.expireLossIfDue).pending =
    s.pending := by
  unfold State.expireLossIfDue
  repeat' split
  all_goals simp

@[simp] theorem State.spreadDone_frame (s : State) :
    (s.spreadDone).host = s.host ∧ (s.spreadDone).book = s.book ∧ (s.spreadDone).seq = s.seq ∧
    (s.spreadDone).issue = s.issue ∧ (s.spreadDone).train = s.train ∧ (s.spreadDone).line = s.line ∧
    (s.spreadDone).tracker = s.tracker ∧ (s.spreadDone).trim = s.trim ∧ (s.spreadDone).head.binCount =
    s.head.binCount ∧ (s.spreadDone).head.lastTransit = s.head.lastTransit ∧ (s.spreadDone).head.lastVoidRelease =
    s.head.lastVoidRelease ∧ (s.spreadDone).control = s.control ∧ (s.spreadDone).cal = s.cal ∧ (s.spreadDone).time
    = s.time ∧ (s.spreadDone).free = s.free ∧ (s.spreadDone).pending = s.pending := by
  unfold State.spreadDone
  dsimp only
  repeat' split
  all_goals simp

@[simp] theorem State.stampTransit_frame (s : State) (t : Option Word) :
    (s.stampTransit t).host = s.host ∧ (s.stampTransit t).book = s.book ∧ (s.stampTransit t).status = s.status ∧
    (s.stampTransit t).seq = s.seq ∧ (s.stampTransit t).issue = s.issue ∧ (s.stampTransit t).train = s.train ∧
    (s.stampTransit t).line = s.line ∧ (s.stampTransit t).tracker = s.tracker ∧ (s.stampTransit t).trim = s.trim ∧
    (s.stampTransit t).control = s.control ∧ (s.stampTransit t).cal = s.cal ∧ (s.stampTransit t).time = s.time ∧
    (s.stampTransit t).free = s.free ∧ (s.stampTransit t).pending = s.pending := by
  unfold State.stampTransit
  split <;> simp

@[simp] theorem State.moveToGripper_frame (s : State) (c : Content) :
    (s.moveToGripper c).host = s.host ∧ (s.moveToGripper c).book = s.book ∧ (s.moveToGripper c).status = s.status
    ∧ (s.moveToGripper c).seq = s.seq ∧ (s.moveToGripper c).issue = s.issue ∧ (s.moveToGripper c).train = s.train
    ∧ (s.moveToGripper c).line = s.line ∧ (s.moveToGripper c).tracker = s.tracker ∧ (s.moveToGripper c).trim =
    s.trim ∧ (s.moveToGripper c).head.binCount = s.head.binCount ∧ (s.moveToGripper c).head.lastTransit =
    s.head.lastTransit ∧ (s.moveToGripper c).head.lastVoidRelease = s.head.lastVoidRelease ∧ (s.moveToGripper
    c).control = s.control ∧ (s.moveToGripper c).cal = s.cal ∧ (s.moveToGripper c).time = s.time ∧
    (s.moveToGripper c).free = s.free ∧ (s.moveToGripper c).pending = s.pending := by
  simp [State.moveToGripper]

@[simp] theorem State.setApplied_frame (s : State) (i : EntryIx) (z : Int) :
    (s.setApplied i z).host = s.host ∧ (s.setApplied i z).status = s.status ∧ (s.setApplied i z).seq = s.seq ∧
    (s.setApplied i z).issue = s.issue ∧ (s.setApplied i z).train = s.train ∧ (s.setApplied i z).line = s.line ∧
    (s.setApplied i z).tracker = s.tracker ∧ (s.setApplied i z).trim = s.trim ∧ (s.setApplied i z).head = s.head ∧
    (s.setApplied i z).control = s.control ∧ (s.setApplied i z).cal = s.cal ∧ (s.setApplied i z).time = s.time ∧
    (s.setApplied i z).free = s.free ∧ (s.setApplied i z).pending = s.pending := by
  simp [State.setApplied]

@[simp] theorem State.handOverAttempt_frame (s : State) (i : EntryIx) (z : Int) :
    (s.handOverAttempt i z).host = s.host ∧ (s.handOverAttempt i z).book = s.book ∧ (s.handOverAttempt i z).seq =
    s.seq ∧ (s.handOverAttempt i z).issue = s.issue ∧ (s.handOverAttempt i z).train = s.train ∧ (s.handOverAttempt
    i z).line = s.line ∧ (s.handOverAttempt i z).tracker = s.tracker ∧ (s.handOverAttempt i z).trim.setPoint =
    s.trim.setPoint ∧ (s.handOverAttempt i z).trim.driveEnable = s.trim.driveEnable ∧ (s.handOverAttempt i
    z).trim.offset = s.trim.offset ∧ (s.handOverAttempt i z).trim.range = s.trim.range ∧ (s.handOverAttempt i
    z).trim.sending = s.trim.sending ∧ (s.handOverAttempt i z).trim.outputPending = s.trim.outputPending ∧
    (s.handOverAttempt i z).trim.nextFrame = s.trim.nextFrame ∧ (s.handOverAttempt i z).trim.lastFrame =
    s.trim.lastFrame ∧ (s.handOverAttempt i z).head = s.head ∧ (s.handOverAttempt i z).control = s.control ∧
    (s.handOverAttempt i z).cal = s.cal ∧ (s.handOverAttempt i z).time = s.time ∧ (s.handOverAttempt i z).free =
    s.free ∧ (s.handOverAttempt i z).pending = s.pending := by
  unfold State.handOverAttempt
  split <;> simp

@[simp] theorem State.takeDone_frame (s : State) :
    (s.takeDone).host.mask = s.host.mask ∧ (s.takeDone).host.readData = s.host.readData ∧
    (s.takeDone).host.attention = s.host.attention ∧ (s.takeDone).seq.profile = s.seq.profile ∧
    (s.takeDone).issue.starved = s.issue.starved ∧ (s.takeDone).train.drive = s.train.drive ∧
    (s.takeDone).train.limitReached = s.train.limitReached ∧ (s.takeDone).line.transaction = s.line.transaction ∧
    (s.takeDone).line.lastFrame = s.line.lastFrame ∧ (s.takeDone).line.complete = s.line.complete ∧
    (s.takeDone).tracker = s.tracker ∧ (s.takeDone).trim.setPoint = s.trim.setPoint ∧
    (s.takeDone).trim.driveEnable = s.trim.driveEnable ∧ (s.takeDone).trim.offset = s.trim.offset ∧
    (s.takeDone).trim.range = s.trim.range ∧ (s.takeDone).trim.sending = s.trim.sending ∧
    (s.takeDone).trim.outputPending = s.trim.outputPending ∧ (s.takeDone).trim.nextFrame = s.trim.nextFrame ∧
    (s.takeDone).trim.lastFrame = s.trim.lastFrame ∧ (s.takeDone).control = s.control ∧ (s.takeDone).cal = s.cal ∧
    (s.takeDone).time = s.time ∧ (s.takeDone).free = s.free ∧ (s.takeDone).pending = s.pending := by
  unfold State.takeDone
  split <;> simp

@[simp] theorem State.clearProbeFields_frame (s : State) (i : EntryIx) :
    (s.clearProbeFields i).host = s.host ∧ (s.clearProbeFields i).status = s.status ∧ (s.clearProbeFields i).seq =
    s.seq ∧ (s.clearProbeFields i).issue = s.issue ∧ (s.clearProbeFields i).train = s.train ∧ (s.clearProbeFields
    i).line = s.line ∧ (s.clearProbeFields i).tracker = s.tracker ∧ (s.clearProbeFields i).trim = s.trim ∧
    (s.clearProbeFields i).head = s.head ∧ (s.clearProbeFields i).control = s.control ∧ (s.clearProbeFields i).cal
    = s.cal ∧ (s.clearProbeFields i).time = s.time ∧ (s.clearProbeFields i).free = s.free ∧ (s.clearProbeFields
    i).pending = s.pending := by
  simp [State.clearProbeFields]

@[simp] theorem State.clearDeviation_frame (s : State) (i : EntryIx) :
    (s.clearDeviation i).host = s.host ∧ (s.clearDeviation i).status = s.status ∧ (s.clearDeviation i).seq = s.seq
    ∧ (s.clearDeviation i).issue = s.issue ∧ (s.clearDeviation i).train = s.train ∧ (s.clearDeviation i).line =
    s.line ∧ (s.clearDeviation i).tracker = s.tracker ∧ (s.clearDeviation i).trim = s.trim ∧ (s.clearDeviation
    i).head = s.head ∧ (s.clearDeviation i).control = s.control ∧ (s.clearDeviation i).cal = s.cal ∧
    (s.clearDeviation i).time = s.time ∧ (s.clearDeviation i).free = s.free ∧ (s.clearDeviation i).pending =
    s.pending := by
  simp [State.clearDeviation]

@[simp] theorem State.setDeviation_frame (s : State) (i : EntryIx) (d : Pose) :
    (s.setDeviation i d).host = s.host ∧ (s.setDeviation i d).status = s.status ∧ (s.setDeviation i d).seq = s.seq
    ∧ (s.setDeviation i d).issue = s.issue ∧ (s.setDeviation i d).train = s.train ∧ (s.setDeviation i d).line =
    s.line ∧ (s.setDeviation i d).tracker = s.tracker ∧ (s.setDeviation i d).trim = s.trim ∧ (s.setDeviation i
    d).head = s.head ∧ (s.setDeviation i d).control = s.control ∧ (s.setDeviation i d).cal = s.cal ∧
    (s.setDeviation i d).time = s.time ∧ (s.setDeviation i d).free = s.free ∧ (s.setDeviation i d).pending =
    s.pending := by
  simp [State.setDeviation]

@[simp] theorem State.setSamples_frame (s : State) (i : EntryIx) (n : Nat) :
    (s.setSamples i n).host = s.host ∧ (s.setSamples i n).status = s.status ∧ (s.setSamples i n).seq = s.seq ∧
    (s.setSamples i n).issue = s.issue ∧ (s.setSamples i n).train = s.train ∧ (s.setSamples i n).line = s.line ∧
    (s.setSamples i n).tracker = s.tracker ∧ (s.setSamples i n).trim = s.trim ∧ (s.setSamples i n).head = s.head ∧
    (s.setSamples i n).control = s.control ∧ (s.setSamples i n).cal = s.cal ∧ (s.setSamples i n).time = s.time ∧
    (s.setSamples i n).free = s.free ∧ (s.setSamples i n).pending = s.pending := by
  simp [State.setSamples]

@[simp] theorem State.clearGripper_frame (s : State) :
    (s.clearGripper).host = s.host ∧ (s.clearGripper).book = s.book ∧ (s.clearGripper).seq = s.seq ∧
    (s.clearGripper).issue = s.issue ∧ (s.clearGripper).train = s.train ∧ (s.clearGripper).line = s.line ∧
    (s.clearGripper).tracker = s.tracker ∧ (s.clearGripper).trim.setPoint = s.trim.setPoint ∧
    (s.clearGripper).trim.driveEnable = s.trim.driveEnable ∧ (s.clearGripper).trim.offset = s.trim.offset ∧
    (s.clearGripper).trim.range = s.trim.range ∧ (s.clearGripper).trim.sending = s.trim.sending ∧
    (s.clearGripper).trim.outputPending = s.trim.outputPending ∧ (s.clearGripper).trim.nextFrame =
    s.trim.nextFrame ∧ (s.clearGripper).trim.lastFrame = s.trim.lastFrame ∧ (s.clearGripper).head.binCount =
    s.head.binCount ∧ (s.clearGripper).head.lastTransit = s.head.lastTransit ∧
    (s.clearGripper).head.lastVoidRelease = s.head.lastVoidRelease ∧ (s.clearGripper).control = s.control ∧
    (s.clearGripper).cal = s.cal ∧ (s.clearGripper).time = s.time ∧ (s.clearGripper).free = s.free ∧
    (s.clearGripper).pending = s.pending := by
  simp [State.clearGripper]

@[simp] theorem State.releaseDone_frame (s : State) :
    (s.releaseDone).host.mask = s.host.mask ∧ (s.releaseDone).host.readData = s.host.readData ∧
    (s.releaseDone).host.attention = s.host.attention ∧ (s.releaseDone).seq.profile = s.seq.profile ∧
    (s.releaseDone).issue.feed = s.issue.feed ∧ (s.releaseDone).issue.starved = s.issue.starved ∧
    (s.releaseDone).train = s.train ∧ (s.releaseDone).line = s.line ∧ (s.releaseDone).tracker = s.tracker ∧
    (s.releaseDone).trim.setPoint = s.trim.setPoint ∧ (s.releaseDone).trim.driveEnable = s.trim.driveEnable ∧
    (s.releaseDone).trim.offset = s.trim.offset ∧ (s.releaseDone).trim.range = s.trim.range ∧
    (s.releaseDone).trim.sending = s.trim.sending ∧ (s.releaseDone).trim.outputPending = s.trim.outputPending ∧
    (s.releaseDone).trim.nextFrame = s.trim.nextFrame ∧ (s.releaseDone).trim.lastFrame = s.trim.lastFrame ∧
    (s.releaseDone).control = s.control ∧ (s.releaseDone).cal = s.cal ∧ (s.releaseDone).time = s.time ∧
    (s.releaseDone).free = s.free ∧ (s.releaseDone).pending = s.pending := by
  unfold State.releaseDone
  dsimp only
  repeat' split
  all_goals simp

@[simp] theorem State.setProbe_frame (s : State) (i : EntryIx) (a b : Int) :
    (s.setProbe i a b).host = s.host ∧ (s.setProbe i a b).status = s.status ∧ (s.setProbe i a b).seq = s.seq ∧
    (s.setProbe i a b).issue = s.issue ∧ (s.setProbe i a b).train = s.train ∧ (s.setProbe i a b).line = s.line ∧
    (s.setProbe i a b).tracker = s.tracker ∧ (s.setProbe i a b).trim = s.trim ∧ (s.setProbe i a b).head = s.head ∧
    (s.setProbe i a b).control = s.control ∧ (s.setProbe i a b).cal = s.cal ∧ (s.setProbe i a b).time = s.time ∧
    (s.setProbe i a b).free = s.free ∧ (s.setProbe i a b).pending = s.pending := by
  simp [State.setProbe]

@[simp] theorem State.probeDone_frame (s : State) (n : Nat) :
    (s.probeDone n).host.mask = s.host.mask ∧ (s.probeDone n).host.readData = s.host.readData ∧ (s.probeDone
    n).host.attention = s.host.attention ∧ (s.probeDone n).seq.profile = s.seq.profile ∧ (s.probeDone
    n).issue.feed = s.issue.feed ∧ (s.probeDone n).issue.starved = s.issue.starved ∧ (s.probeDone n).train =
    s.train ∧ (s.probeDone n).line = s.line ∧ (s.probeDone n).tracker = s.tracker ∧ (s.probeDone n).trim.setPoint
    = s.trim.setPoint ∧ (s.probeDone n).trim.driveEnable = s.trim.driveEnable ∧ (s.probeDone n).trim.offset =
    s.trim.offset ∧ (s.probeDone n).trim.range = s.trim.range ∧ (s.probeDone n).trim.sending = s.trim.sending ∧
    (s.probeDone n).trim.outputPending = s.trim.outputPending ∧ (s.probeDone n).trim.nextFrame = s.trim.nextFrame
    ∧ (s.probeDone n).trim.lastFrame = s.trim.lastFrame ∧ (s.probeDone n).control = s.control ∧ (s.probeDone
    n).cal = s.cal ∧ (s.probeDone n).time = s.time ∧ (s.probeDone n).free = s.free ∧ (s.probeDone n).pending =
    s.pending := by
  unfold State.probeDone
  dsimp only
  repeat' split
  all_goals simp

@[simp] theorem State.countEject_frame (s : State) :
    (s.countEject).host.mask = s.host.mask ∧ (s.countEject).host.readData = s.host.readData ∧
    (s.countEject).host.attention = s.host.attention ∧ (s.countEject).book = s.book ∧ (s.countEject).seq = s.seq ∧
    (s.countEject).issue = s.issue ∧ (s.countEject).train = s.train ∧ (s.countEject).line = s.line ∧
    (s.countEject).tracker = s.tracker ∧ (s.countEject).trim = s.trim ∧ (s.countEject).control = s.control ∧
    (s.countEject).cal = s.cal ∧ (s.countEject).time = s.time ∧ (s.countEject).free = s.free ∧
    (s.countEject).pending = s.pending := by
  unfold State.countEject
  dsimp only
  repeat' split
  all_goals simp

@[simp] theorem State.ejectDone_frame (s : State) (p : HeadPlace) :
    (s.ejectDone p).host.mask = s.host.mask ∧ (s.ejectDone p).host.readData = s.host.readData ∧ (s.ejectDone
    p).host.attention = s.host.attention ∧ (s.ejectDone p).book = s.book ∧ (s.ejectDone p).seq = s.seq ∧
    (s.ejectDone p).issue = s.issue ∧ (s.ejectDone p).train = s.train ∧ (s.ejectDone p).line = s.line ∧
    (s.ejectDone p).tracker = s.tracker ∧ (s.ejectDone p).trim = s.trim ∧ (s.ejectDone p).control = s.control ∧
    (s.ejectDone p).cal = s.cal ∧ (s.ejectDone p).time = s.time ∧ (s.ejectDone p).free = s.free ∧ (s.ejectDone
    p).pending = s.pending := by
  unfold State.ejectDone
  split <;> simp

@[simp] theorem State.operationDone_frame (s : State) (c : StationCommand) (n : Nat) :
    (s.operationDone c n).host.mask = s.host.mask ∧ (s.operationDone c n).host.readData = s.host.readData ∧
    (s.operationDone c n).host.attention = s.host.attention ∧ (s.operationDone c n).seq.profile = s.seq.profile ∧
    (s.operationDone c n).issue.starved = s.issue.starved ∧ (s.operationDone c n).train.drive = s.train.drive ∧
    (s.operationDone c n).train.limitReached = s.train.limitReached ∧ (s.operationDone c n).line.transaction =
    s.line.transaction ∧ (s.operationDone c n).line.lastFrame = s.line.lastFrame ∧ (s.operationDone c
    n).line.complete = s.line.complete ∧ (s.operationDone c n).tracker = s.tracker ∧ (s.operationDone c
    n).trim.setPoint = s.trim.setPoint ∧ (s.operationDone c n).trim.driveEnable = s.trim.driveEnable ∧
    (s.operationDone c n).trim.offset = s.trim.offset ∧ (s.operationDone c n).trim.range = s.trim.range ∧
    (s.operationDone c n).trim.sending = s.trim.sending ∧ (s.operationDone c n).trim.outputPending =
    s.trim.outputPending ∧ (s.operationDone c n).trim.nextFrame = s.trim.nextFrame ∧ (s.operationDone c
    n).trim.lastFrame = s.trim.lastFrame ∧ (s.operationDone c n).control = s.control ∧ (s.operationDone c n).cal =
    s.cal ∧ (s.operationDone c n).time = s.time ∧ (s.operationDone c n).free = s.free ∧ (s.operationDone c
    n).pending = s.pending := by
  unfold State.operationDone
  split <;> simp

@[simp] theorem State.failContent_frame (s : State) (c : Content) :
    (s.failContent c).host.mask = s.host.mask ∧ (s.failContent c).host.readData = s.host.readData ∧ (s.failContent
    c).host.attention = s.host.attention ∧ (s.failContent c).seq.profile = s.seq.profile ∧ (s.failContent
    c).issue.starved = s.issue.starved ∧ (s.failContent c).train.drive = s.train.drive ∧ (s.failContent
    c).train.limitReached = s.train.limitReached ∧ (s.failContent c).line.transaction = s.line.transaction ∧
    (s.failContent c).line.lastFrame = s.line.lastFrame ∧ (s.failContent c).line.complete = s.line.complete ∧
    (s.failContent c).tracker = s.tracker ∧ (s.failContent c).trim.setPoint = s.trim.setPoint ∧ (s.failContent
    c).trim.driveEnable = s.trim.driveEnable ∧ (s.failContent c).trim.offset = s.trim.offset ∧ (s.failContent
    c).trim.range = s.trim.range ∧ (s.failContent c).trim.sending = s.trim.sending ∧ (s.failContent
    c).trim.outputPending = s.trim.outputPending ∧ (s.failContent c).trim.nextFrame = s.trim.nextFrame ∧
    (s.failContent c).trim.lastFrame = s.trim.lastFrame ∧ (s.failContent c).head.binCount = s.head.binCount ∧
    (s.failContent c).head.lastTransit = s.head.lastTransit ∧ (s.failContent c).head.lastVoidRelease =
    s.head.lastVoidRelease ∧ (s.failContent c).control = s.control ∧ (s.failContent c).cal = s.cal ∧
    (s.failContent c).time = s.time ∧ (s.failContent c).free = s.free ∧ (s.failContent c).pending = s.pending := by
  unfold State.failContent
  split <;> simp

@[simp] theorem State.operationFailed_frame (s : State) (c : StationCommand) :
    (s.operationFailed c).host.mask = s.host.mask ∧ (s.operationFailed c).host.readData = s.host.readData ∧
    (s.operationFailed c).host.attention = s.host.attention ∧ (s.operationFailed c).seq.profile = s.seq.profile ∧
    (s.operationFailed c).issue.starved = s.issue.starved ∧ (s.operationFailed c).train.drive = s.train.drive ∧
    (s.operationFailed c).train.limitReached = s.train.limitReached ∧ (s.operationFailed c).line.transaction =
    s.line.transaction ∧ (s.operationFailed c).line.lastFrame = s.line.lastFrame ∧ (s.operationFailed
    c).line.complete = s.line.complete ∧ (s.operationFailed c).tracker = s.tracker ∧ (s.operationFailed
    c).trim.setPoint = s.trim.setPoint ∧ (s.operationFailed c).trim.driveEnable = s.trim.driveEnable ∧
    (s.operationFailed c).trim.offset = s.trim.offset ∧ (s.operationFailed c).trim.range = s.trim.range ∧
    (s.operationFailed c).trim.sending = s.trim.sending ∧ (s.operationFailed c).trim.outputPending =
    s.trim.outputPending ∧ (s.operationFailed c).trim.nextFrame = s.trim.nextFrame ∧ (s.operationFailed
    c).trim.lastFrame = s.trim.lastFrame ∧ (s.operationFailed c).head.binCount = s.head.binCount ∧
    (s.operationFailed c).head.lastTransit = s.head.lastTransit ∧ (s.operationFailed c).head.lastVoidRelease =
    s.head.lastVoidRelease ∧ (s.operationFailed c).control = s.control ∧ (s.operationFailed c).cal = s.cal ∧
    (s.operationFailed c).time = s.time ∧ (s.operationFailed c).free = s.free ∧ (s.operationFailed c).pending =
    s.pending := by
  unfold State.operationFailed
  split <;> simp

@[simp] theorem State.headStationFault_frame (s : State) (c : Option StationCommand) :
    (s.headStationFault c).host.mask = s.host.mask ∧ (s.headStationFault c).host.readData = s.host.readData ∧
    (s.headStationFault c).host.attention = s.host.attention ∧ (s.headStationFault c).seq.profile = s.seq.profile
    ∧ (s.headStationFault c).issue.starved = s.issue.starved ∧ (s.headStationFault c).train.drive = s.train.drive
    ∧ (s.headStationFault c).line.transaction = s.line.transaction ∧ (s.headStationFault c).line.lastFrame =
    s.line.lastFrame ∧ (s.headStationFault c).line.complete = s.line.complete ∧ (s.headStationFault c).tracker =
    s.tracker ∧ (s.headStationFault c).trim.setPoint = s.trim.setPoint ∧ (s.headStationFault c).trim.driveEnable =
    s.trim.driveEnable ∧ (s.headStationFault c).trim.offset = s.trim.offset ∧ (s.headStationFault c).trim.range =
    s.trim.range ∧ (s.headStationFault c).trim.sending = s.trim.sending ∧ (s.headStationFault
    c).trim.outputPending = s.trim.outputPending ∧ (s.headStationFault c).trim.nextFrame = s.trim.nextFrame ∧
    (s.headStationFault c).trim.lastFrame = s.trim.lastFrame ∧ (s.headStationFault c).head.binCount =
    s.head.binCount ∧ (s.headStationFault c).head.lastTransit = s.head.lastTransit ∧ (s.headStationFault
    c).head.lastVoidRelease = s.head.lastVoidRelease ∧ (s.headStationFault c).control.manualRequest =
    s.control.manualRequest ∧ (s.headStationFault c).control.manualGrant = s.control.manualGrant ∧
    (s.headStationFault c).control.boomMoving = s.control.boomMoving ∧ (s.headStationFault c).control.emergency =
    s.control.emergency ∧ (s.headStationFault c).control.sensed = s.control.sensed ∧ (s.headStationFault
    c).control.latched = s.control.latched ∧ (s.headStationFault c).control.loaded = s.control.loaded ∧
    (s.headStationFault c).cal = s.cal ∧ (s.headStationFault c).time = s.time ∧ (s.headStationFault c).free =
    s.free ∧ (s.headStationFault c).pending = s.pending := by
  unfold State.headStationFault
  split <;> simp

@[simp] theorem State.placeHead_frame (s : State) (c : StationCommand) :
    (s.placeHead c).host = s.host ∧ (s.placeHead c).book = s.book ∧ (s.placeHead c).status = s.status ∧
    (s.placeHead c).seq = s.seq ∧ (s.placeHead c).issue = s.issue ∧ (s.placeHead c).train = s.train ∧ (s.placeHead
    c).line.transaction = s.line.transaction ∧ (s.placeHead c).line.lastFrame = s.line.lastFrame ∧ (s.placeHead
    c).line.complete = s.line.complete ∧ (s.placeHead c).tracker = s.tracker ∧ (s.placeHead c).trim = s.trim ∧
    (s.placeHead c).head = s.head ∧ (s.placeHead c).control = s.control ∧ (s.placeHead c).cal = s.cal ∧
    (s.placeHead c).time = s.time ∧ (s.placeHead c).free = s.free ∧ (s.placeHead c).pending = s.pending := by
  simp [State.placeHead]

@[simp] theorem State.spreaderRequest_frame (s : State) :
    (s.spreaderRequest).host = s.host ∧ (s.spreaderRequest).book = s.book ∧ (s.spreaderRequest).seq = s.seq ∧
    (s.spreaderRequest).issue = s.issue ∧ (s.spreaderRequest).train = s.train ∧
    (s.spreaderRequest).line.transaction = s.line.transaction ∧ (s.spreaderRequest).line.lastFrame =
    s.line.lastFrame ∧ (s.spreaderRequest).line.complete = s.line.complete ∧ (s.spreaderRequest).tracker =
    s.tracker ∧ (s.spreaderRequest).trim = s.trim ∧ (s.spreaderRequest).head.binCount = s.head.binCount ∧
    (s.spreaderRequest).head.lastTransit = s.head.lastTransit ∧ (s.spreaderRequest).head.lastVoidRelease =
    s.head.lastVoidRelease ∧ (s.spreaderRequest).control = s.control ∧ (s.spreaderRequest).cal = s.cal ∧
    (s.spreaderRequest).time = s.time ∧ (s.spreaderRequest).free = s.free ∧ (s.spreaderRequest).pending =
    s.pending := by
  unfold State.spreaderRequest
  split <;> simp

@[simp] theorem State.gripperRequest_frame (s : State) :
    (s.gripperRequest).host = s.host ∧ (s.gripperRequest).book = s.book ∧ (s.gripperRequest).seq = s.seq ∧
    (s.gripperRequest).issue = s.issue ∧ (s.gripperRequest).train = s.train ∧ (s.gripperRequest).line.transaction
    = s.line.transaction ∧ (s.gripperRequest).line.lastFrame = s.line.lastFrame ∧ (s.gripperRequest).line.complete
    = s.line.complete ∧ (s.gripperRequest).tracker = s.tracker ∧ (s.gripperRequest).trim = s.trim ∧
    (s.gripperRequest).head.binCount = s.head.binCount ∧ (s.gripperRequest).head.lastTransit = s.head.lastTransit
    ∧ (s.gripperRequest).head.lastVoidRelease = s.head.lastVoidRelease ∧ (s.gripperRequest).control = s.control ∧
    (s.gripperRequest).cal = s.cal ∧ (s.gripperRequest).time = s.time ∧ (s.gripperRequest).free = s.free ∧
    (s.gripperRequest).pending = s.pending := by
  unfold State.gripperRequest
  repeat' split
  all_goals simp

@[simp] theorem State.takeUpProbe_frame (s : State) :
    (s.takeUpProbe).host.mask = s.host.mask ∧ (s.takeUpProbe).host.readData = s.host.readData ∧
    (s.takeUpProbe).host.attention = s.host.attention ∧ (s.takeUpProbe).seq.profile = s.seq.profile ∧
    (s.takeUpProbe).issue.starved = s.issue.starved ∧ (s.takeUpProbe).train.drive = s.train.drive ∧
    (s.takeUpProbe).train.limitReached = s.train.limitReached ∧ (s.takeUpProbe).line.transaction =
    s.line.transaction ∧ (s.takeUpProbe).line.lastFrame = s.line.lastFrame ∧ (s.takeUpProbe).line.complete =
    s.line.complete ∧ (s.takeUpProbe).tracker = s.tracker ∧ (s.takeUpProbe).trim.setPoint = s.trim.setPoint ∧
    (s.takeUpProbe).trim.driveEnable = s.trim.driveEnable ∧ (s.takeUpProbe).trim.offset = s.trim.offset ∧
    (s.takeUpProbe).trim.range = s.trim.range ∧ (s.takeUpProbe).trim.sending = s.trim.sending ∧
    (s.takeUpProbe).trim.outputPending = s.trim.outputPending ∧ (s.takeUpProbe).trim.nextFrame = s.trim.nextFrame
    ∧ (s.takeUpProbe).trim.lastFrame = s.trim.lastFrame ∧ (s.takeUpProbe).head.binCount = s.head.binCount ∧
    (s.takeUpProbe).head.lastTransit = s.head.lastTransit ∧ (s.takeUpProbe).head.lastVoidRelease =
    s.head.lastVoidRelease ∧ (s.takeUpProbe).control = s.control ∧ (s.takeUpProbe).cal = s.cal ∧
    (s.takeUpProbe).time = s.time ∧ (s.takeUpProbe).free = s.free ∧ (s.takeUpProbe).pending = s.pending := by
  unfold State.takeUpProbe
  repeat' split
  all_goals simp

/-! ### LineOps -/

@[simp] theorem State.schedulePoll_frame (s : State) (p : Position) (b : Bool) :
    (s.schedulePoll p b).host = s.host ∧ (s.schedulePoll p b).book = s.book ∧ (s.schedulePoll p b).seq = s.seq ∧
    (s.schedulePoll p b).issue = s.issue ∧ (s.schedulePoll p b).train = s.train ∧ (s.schedulePoll p
    b).line.transaction = s.line.transaction ∧ (s.schedulePoll p b).line.headRequests = s.line.headRequests ∧
    (s.schedulePoll p b).line.lastFrame = s.line.lastFrame ∧ (s.schedulePoll p b).line.complete = s.line.complete
    ∧ (s.schedulePoll p b).tracker = s.tracker ∧ (s.schedulePoll p b).trim = s.trim ∧ (s.schedulePoll p b).head =
    s.head ∧ (s.schedulePoll p b).control = s.control ∧ (s.schedulePoll p b).cal = s.cal ∧ (s.schedulePoll p
    b).time = s.time ∧ (s.schedulePoll p b).free = s.free ∧ (s.schedulePoll p b).pending = s.pending := by
  simp [State.schedulePoll]

@[simp] theorem State.withdrawIfNotReady_frame (s : State) (p : Position) :
    (s.withdrawIfNotReady p).host = s.host ∧ (s.withdrawIfNotReady p).book = s.book ∧ (s.withdrawIfNotReady p).seq
    = s.seq ∧ (s.withdrawIfNotReady p).issue.starved = s.issue.starved ∧ (s.withdrawIfNotReady p).train = s.train
    ∧ (s.withdrawIfNotReady p).line.transaction = s.line.transaction ∧ (s.withdrawIfNotReady p).line.headRequests
    = s.line.headRequests ∧ (s.withdrawIfNotReady p).line.lastFrame = s.line.lastFrame ∧ (s.withdrawIfNotReady
    p).line.complete = s.line.complete ∧ (s.withdrawIfNotReady p).tracker = s.tracker ∧ (s.withdrawIfNotReady
    p).trim = s.trim ∧ (s.withdrawIfNotReady p).head = s.head ∧ (s.withdrawIfNotReady p).control = s.control ∧
    (s.withdrawIfNotReady p).cal = s.cal ∧ (s.withdrawIfNotReady p).time = s.time ∧ (s.withdrawIfNotReady p).free
    = s.free ∧ (s.withdrawIfNotReady p).pending = s.pending := by
  unfold State.withdrawIfNotReady
  repeat' split
  all_goals simp

@[simp] theorem State.changeStation_frame (s : State) (p : Position) (x : Station) :
    (s.changeStation p x).host = s.host ∧ (s.changeStation p x).book = s.book ∧ (s.changeStation p x).seq = s.seq
    ∧ (s.changeStation p x).issue.starved = s.issue.starved ∧ (s.changeStation p x).train = s.train ∧
    (s.changeStation p x).line.transaction = s.line.transaction ∧ (s.changeStation p x).line.headRequests =
    s.line.headRequests ∧ (s.changeStation p x).line.lastFrame = s.line.lastFrame ∧ (s.changeStation p
    x).line.complete = s.line.complete ∧ (s.changeStation p x).tracker = s.tracker ∧ (s.changeStation p x).trim =
    s.trim ∧ (s.changeStation p x).head = s.head ∧ (s.changeStation p x).control = s.control ∧ (s.changeStation p
    x).cal = s.cal ∧ (s.changeStation p x).time = s.time ∧ (s.changeStation p x).free = s.free ∧ (s.changeStation
    p x).pending = s.pending := by
  simp [State.changeStation]

@[simp] theorem State.sendFrame_frame (s : State) (p : Position) (c : StationCommand) :
    (s.sendFrame p c).host = s.host ∧ (s.sendFrame p c).book = s.book ∧ (s.sendFrame p c).status = s.status ∧
    (s.sendFrame p c).seq = s.seq ∧ (s.sendFrame p c).issue = s.issue ∧ (s.sendFrame p c).train = s.train ∧
    (s.sendFrame p c).tracker = s.tracker ∧ (s.sendFrame p c).trim = s.trim ∧ (s.sendFrame p c).head = s.head ∧
    (s.sendFrame p c).control = s.control ∧ (s.sendFrame p c).cal = s.cal ∧ (s.sendFrame p c).time = s.time ∧
    (s.sendFrame p c).free = s.free ∧ (s.sendFrame p c).pending = s.pending := by
  simp [State.sendFrame]

@[simp] theorem State.markEjecting_frame (s : State) (c : StationCommand) :
    (s.markEjecting c).host = s.host ∧ (s.markEjecting c).book = s.book ∧ (s.markEjecting c).seq = s.seq ∧
    (s.markEjecting c).issue = s.issue ∧ (s.markEjecting c).train = s.train ∧ (s.markEjecting c).line = s.line ∧
    (s.markEjecting c).tracker = s.tracker ∧ (s.markEjecting c).trim = s.trim ∧ (s.markEjecting c).head.binCount =
    s.head.binCount ∧ (s.markEjecting c).head.lastTransit = s.head.lastTransit ∧ (s.markEjecting
    c).head.lastVoidRelease = s.head.lastVoidRelease ∧ (s.markEjecting c).control = s.control ∧ (s.markEjecting
    c).cal = s.cal ∧ (s.markEjecting c).time = s.time ∧ (s.markEjecting c).free = s.free ∧ (s.markEjecting
    c).pending = s.pending := by
  unfold State.markEjecting
  split <;> simp

@[simp] theorem State.grantHead_frame (s : State) (c : StationCommand) :
    (s.grantHead c).host = s.host ∧ (s.grantHead c).book = s.book ∧ (s.grantHead c).seq = s.seq ∧ (s.grantHead
    c).issue = s.issue ∧ (s.grantHead c).train = s.train ∧ (s.grantHead c).tracker = s.tracker ∧ (s.grantHead
    c).trim = s.trim ∧ (s.grantHead c).head.binCount = s.head.binCount ∧ (s.grantHead c).head.lastTransit =
    s.head.lastTransit ∧ (s.grantHead c).head.lastVoidRelease = s.head.lastVoidRelease ∧ (s.grantHead c).control =
    s.control ∧ (s.grantHead c).cal = s.cal ∧ (s.grantHead c).time = s.time ∧ (s.grantHead c).free = s.free ∧
    (s.grantHead c).pending = s.pending := by
  simp [State.grantHead]

@[simp] theorem State.grantFeed_frame (s : State) (f : FeedPending) :
    (s.grantFeed f).host = s.host ∧ (s.grantFeed f).book = s.book ∧ (s.grantFeed f).status = s.status ∧
    (s.grantFeed f).seq = s.seq ∧ (s.grantFeed f).issue.list = s.issue.list ∧ (s.grantFeed f).issue.starved =
    s.issue.starved ∧ (s.grantFeed f).train = s.train ∧ (s.grantFeed f).tracker = s.tracker ∧ (s.grantFeed f).trim
    = s.trim ∧ (s.grantFeed f).head = s.head ∧ (s.grantFeed f).control = s.control ∧ (s.grantFeed f).cal = s.cal ∧
    (s.grantFeed f).time = s.time ∧ (s.grantFeed f).free = s.free ∧ (s.grantFeed f).pending = s.pending := by
  simp [State.grantFeed]

@[simp] theorem State.grantPoll_frame (s : State) (p : Position) :
    (s.grantPoll p).host = s.host ∧ (s.grantPoll p).book = s.book ∧ (s.grantPoll p).seq = s.seq ∧ (s.grantPoll
    p).issue = s.issue ∧ (s.grantPoll p).train = s.train ∧ (s.grantPoll p).tracker = s.tracker ∧ (s.grantPoll
    p).trim = s.trim ∧ (s.grantPoll p).head = s.head ∧ (s.grantPoll p).control = s.control ∧ (s.grantPoll p).cal =
    s.cal ∧ (s.grantPoll p).time = s.time ∧ (s.grantPoll p).free = s.free ∧ (s.grantPoll p).pending = s.pending := by
  simp [State.grantPoll]

@[simp] theorem State.grantLine_frame (s : State) :
    (s.grantLine).host = s.host ∧ (s.grantLine).book = s.book ∧ (s.grantLine).seq = s.seq ∧
    (s.grantLine).issue.list = s.issue.list ∧ (s.grantLine).issue.starved = s.issue.starved ∧ (s.grantLine).train
    = s.train ∧ (s.grantLine).tracker = s.tracker ∧ (s.grantLine).trim = s.trim ∧ (s.grantLine).head.binCount =
    s.head.binCount ∧ (s.grantLine).head.lastTransit = s.head.lastTransit ∧ (s.grantLine).head.lastVoidRelease =
    s.head.lastVoidRelease ∧ (s.grantLine).control = s.control ∧ (s.grantLine).cal = s.cal ∧ (s.grantLine).time =
    s.time ∧ (s.grantLine).free = s.free ∧ (s.grantLine).pending = s.pending := by
  unfold State.grantLine
  repeat' split
  all_goals simp

@[simp] theorem State.freeLine_frame (s : State) :
    (s.freeLine).host = s.host ∧ (s.freeLine).book = s.book ∧ (s.freeLine).status = s.status ∧ (s.freeLine).seq =
    s.seq ∧ (s.freeLine).issue = s.issue ∧ (s.freeLine).train = s.train ∧ (s.freeLine).tracker = s.tracker ∧
    (s.freeLine).trim = s.trim ∧ (s.freeLine).head = s.head ∧ (s.freeLine).control = s.control ∧ (s.freeLine).cal
    = s.cal ∧ (s.freeLine).time = s.time ∧ (s.freeLine).free = s.free ∧ (s.freeLine).pending = s.pending := by
  simp [State.freeLine]

@[simp] theorem State.resend_frame (s : State) (t : Transaction) :
    (s.resend t).host = s.host ∧ (s.resend t).book = s.book ∧ (s.resend t).seq = s.seq ∧ (s.resend t).issue =
    s.issue ∧ (s.resend t).train = s.train ∧ (s.resend t).tracker = s.tracker ∧ (s.resend t).trim = s.trim ∧
    (s.resend t).head = s.head ∧ (s.resend t).control = s.control ∧ (s.resend t).cal = s.cal ∧ (s.resend t).time =
    s.time ∧ (s.resend t).free = s.free ∧ (s.resend t).pending = s.pending := by
  simp [State.resend]

@[simp] theorem State.endSentFeed_frame (s : State) (p : Position) :
    (s.endSentFeed p).host = s.host ∧ (s.endSentFeed p).book = s.book ∧ (s.endSentFeed p).seq = s.seq ∧
    (s.endSentFeed p).issue.starved = s.issue.starved ∧ (s.endSentFeed p).train = s.train ∧ (s.endSentFeed
    p).line.transaction = s.line.transaction ∧ (s.endSentFeed p).line.headRequests = s.line.headRequests ∧
    (s.endSentFeed p).line.lastFrame = s.line.lastFrame ∧ (s.endSentFeed p).line.complete = s.line.complete ∧
    (s.endSentFeed p).tracker = s.tracker ∧ (s.endSentFeed p).trim = s.trim ∧ (s.endSentFeed p).head = s.head ∧
    (s.endSentFeed p).control = s.control ∧ (s.endSentFeed p).cal = s.cal ∧ (s.endSentFeed p).time = s.time ∧
    (s.endSentFeed p).free = s.free ∧ (s.endSentFeed p).pending = s.pending := by
  unfold State.endSentFeed
  repeat' split
  all_goals simp

@[simp] theorem State.secondFailure_frame (s : State) (t : Transaction) :
    (s.secondFailure t).host.mask = s.host.mask ∧ (s.secondFailure t).host.readData = s.host.readData ∧
    (s.secondFailure t).host.attention = s.host.attention ∧ (s.secondFailure t).seq.profile = s.seq.profile ∧
    (s.secondFailure t).issue.starved = s.issue.starved ∧ (s.secondFailure t).train.drive = s.train.drive ∧
    (s.secondFailure t).tracker = s.tracker ∧ (s.secondFailure t).trim.setPoint = s.trim.setPoint ∧
    (s.secondFailure t).trim.driveEnable = s.trim.driveEnable ∧ (s.secondFailure t).trim.offset = s.trim.offset ∧
    (s.secondFailure t).trim.range = s.trim.range ∧ (s.secondFailure t).trim.sending = s.trim.sending ∧
    (s.secondFailure t).trim.outputPending = s.trim.outputPending ∧ (s.secondFailure t).trim.nextFrame =
    s.trim.nextFrame ∧ (s.secondFailure t).trim.lastFrame = s.trim.lastFrame ∧ (s.secondFailure t).head.binCount =
    s.head.binCount ∧ (s.secondFailure t).head.lastTransit = s.head.lastTransit ∧ (s.secondFailure
    t).head.lastVoidRelease = s.head.lastVoidRelease ∧ (s.secondFailure t).control.manualRequest =
    s.control.manualRequest ∧ (s.secondFailure t).control.manualGrant = s.control.manualGrant ∧ (s.secondFailure
    t).control.boomMoving = s.control.boomMoving ∧ (s.secondFailure t).control.emergency = s.control.emergency ∧
    (s.secondFailure t).control.sensed = s.control.sensed ∧ (s.secondFailure t).control.latched =
    s.control.latched ∧ (s.secondFailure t).control.loaded = s.control.loaded ∧ (s.secondFailure t).cal = s.cal ∧
    (s.secondFailure t).time = s.time ∧ (s.secondFailure t).free = s.free ∧ (s.secondFailure t).pending =
    s.pending := by
  unfold State.secondFailure
  dsimp only
  repeat' split
  all_goals simp

@[simp] theorem State.failTransaction_frame (s : State) (t : Transaction) :
    (s.failTransaction t).host.mask = s.host.mask ∧ (s.failTransaction t).host.readData = s.host.readData ∧
    (s.failTransaction t).host.attention = s.host.attention ∧ (s.failTransaction t).seq.profile = s.seq.profile ∧
    (s.failTransaction t).issue.starved = s.issue.starved ∧ (s.failTransaction t).train.drive = s.train.drive ∧
    (s.failTransaction t).tracker = s.tracker ∧ (s.failTransaction t).trim.setPoint = s.trim.setPoint ∧
    (s.failTransaction t).trim.driveEnable = s.trim.driveEnable ∧ (s.failTransaction t).trim.offset =
    s.trim.offset ∧ (s.failTransaction t).trim.range = s.trim.range ∧ (s.failTransaction t).trim.sending =
    s.trim.sending ∧ (s.failTransaction t).trim.outputPending = s.trim.outputPending ∧ (s.failTransaction
    t).trim.nextFrame = s.trim.nextFrame ∧ (s.failTransaction t).trim.lastFrame = s.trim.lastFrame ∧
    (s.failTransaction t).head.binCount = s.head.binCount ∧ (s.failTransaction t).head.lastTransit =
    s.head.lastTransit ∧ (s.failTransaction t).head.lastVoidRelease = s.head.lastVoidRelease ∧ (s.failTransaction
    t).control.manualRequest = s.control.manualRequest ∧ (s.failTransaction t).control.manualGrant =
    s.control.manualGrant ∧ (s.failTransaction t).control.boomMoving = s.control.boomMoving ∧ (s.failTransaction
    t).control.emergency = s.control.emergency ∧ (s.failTransaction t).control.sensed = s.control.sensed ∧
    (s.failTransaction t).control.latched = s.control.latched ∧ (s.failTransaction t).control.loaded =
    s.control.loaded ∧ (s.failTransaction t).cal = s.cal ∧ (s.failTransaction t).time = s.time ∧
    (s.failTransaction t).free = s.free ∧ (s.failTransaction t).pending = s.pending := by
  unfold State.failTransaction
  split <;> simp

@[simp] theorem State.acceptFeed_frame (s : State) (p : Position) :
    (s.acceptFeed p).host = s.host ∧ (s.acceptFeed p).book = s.book ∧ (s.acceptFeed p).status = s.status ∧
    (s.acceptFeed p).seq = s.seq ∧ (s.acceptFeed p).issue.list = s.issue.list ∧ (s.acceptFeed p).issue.starved =
    s.issue.starved ∧ (s.acceptFeed p).train = s.train ∧ (s.acceptFeed p).line = s.line ∧ (s.acceptFeed p).tracker
    = s.tracker ∧ (s.acceptFeed p).trim = s.trim ∧ (s.acceptFeed p).head = s.head ∧ (s.acceptFeed p).control =
    s.control ∧ (s.acceptFeed p).cal = s.cal ∧ (s.acceptFeed p).time = s.time ∧ (s.acceptFeed p).free = s.free ∧
    (s.acceptFeed p).pending = s.pending := by
  unfold State.acceptFeed
  repeat' split
  all_goals simp

@[simp] theorem State.commandAccepted_frame (s : State) (p : Position) (c : StationCommand) :
    (s.commandAccepted p c).host = s.host ∧ (s.commandAccepted p c).book = s.book ∧ (s.commandAccepted p c).seq =
    s.seq ∧ (s.commandAccepted p c).issue.starved = s.issue.starved ∧ (s.commandAccepted p c).train = s.train ∧
    (s.commandAccepted p c).line.transaction = s.line.transaction ∧ (s.commandAccepted p c).line.headRequests =
    s.line.headRequests ∧ (s.commandAccepted p c).line.lastFrame = s.line.lastFrame ∧ (s.commandAccepted p
    c).line.complete = s.line.complete ∧ (s.commandAccepted p c).tracker = s.tracker ∧ (s.commandAccepted p
    c).trim = s.trim ∧ (s.commandAccepted p c).head = s.head ∧ (s.commandAccepted p c).control = s.control ∧
    (s.commandAccepted p c).cal = s.cal ∧ (s.commandAccepted p c).time = s.time ∧ (s.commandAccepted p c).free =
    s.free ∧ (s.commandAccepted p c).pending = s.pending := by
  simp [State.commandAccepted]

@[simp] theorem State.busyFeed_frame (s : State) (p : Position) (c : StationCommand) :
    (s.busyFeed p c).host = s.host ∧ (s.busyFeed p c).book = s.book ∧ (s.busyFeed p c).seq = s.seq ∧ (s.busyFeed p
    c).issue.list = s.issue.list ∧ (s.busyFeed p c).issue.starved = s.issue.starved ∧ (s.busyFeed p c).train =
    s.train ∧ (s.busyFeed p c).line.transaction = s.line.transaction ∧ (s.busyFeed p c).line.headRequests =
    s.line.headRequests ∧ (s.busyFeed p c).line.lastFrame = s.line.lastFrame ∧ (s.busyFeed p c).line.complete =
    s.line.complete ∧ (s.busyFeed p c).tracker = s.tracker ∧ (s.busyFeed p c).trim = s.trim ∧ (s.busyFeed p
    c).head = s.head ∧ (s.busyFeed p c).control = s.control ∧ (s.busyFeed p c).cal = s.cal ∧ (s.busyFeed p c).time
    = s.time ∧ (s.busyFeed p c).free = s.free ∧ (s.busyFeed p c).pending = s.pending := by
  unfold State.busyFeed
  repeat' split
  all_goals simp

@[simp] theorem State.commandBusy_frame (s : State) (p : Position) (c : StationCommand) :
    (s.commandBusy p c).host = s.host ∧ (s.commandBusy p c).book = s.book ∧ (s.commandBusy p c).seq = s.seq ∧
    (s.commandBusy p c).issue.starved = s.issue.starved ∧ (s.commandBusy p c).train = s.train ∧ (s.commandBusy p
    c).line.transaction = s.line.transaction ∧ (s.commandBusy p c).line.headRequests = s.line.headRequests ∧
    (s.commandBusy p c).line.lastFrame = s.line.lastFrame ∧ (s.commandBusy p c).line.complete = s.line.complete ∧
    (s.commandBusy p c).tracker = s.tracker ∧ (s.commandBusy p c).trim = s.trim ∧ (s.commandBusy p c).head =
    s.head ∧ (s.commandBusy p c).control = s.control ∧ (s.commandBusy p c).cal = s.cal ∧ (s.commandBusy p c).time
    = s.time ∧ (s.commandBusy p c).free = s.free ∧ (s.commandBusy p c).pending = s.pending := by
  unfold State.commandBusy
  split <;> simp

@[simp] theorem State.commandError_frame (s : State) (p : Position) (c : StationCommand) (e : Half) :
    (s.commandError p c e).host.mask = s.host.mask ∧ (s.commandError p c e).host.readData = s.host.readData ∧
    (s.commandError p c e).host.attention = s.host.attention ∧ (s.commandError p c e).seq.profile = s.seq.profile
    ∧ (s.commandError p c e).issue.starved = s.issue.starved ∧ (s.commandError p c e).train.drive = s.train.drive
    ∧ (s.commandError p c e).tracker = s.tracker ∧ (s.commandError p c e).trim.setPoint = s.trim.setPoint ∧
    (s.commandError p c e).trim.driveEnable = s.trim.driveEnable ∧ (s.commandError p c e).trim.offset =
    s.trim.offset ∧ (s.commandError p c e).trim.range = s.trim.range ∧ (s.commandError p c e).trim.sending =
    s.trim.sending ∧ (s.commandError p c e).trim.outputPending = s.trim.outputPending ∧ (s.commandError p c
    e).trim.nextFrame = s.trim.nextFrame ∧ (s.commandError p c e).trim.lastFrame = s.trim.lastFrame ∧
    (s.commandError p c e).head.binCount = s.head.binCount ∧ (s.commandError p c e).head.lastTransit =
    s.head.lastTransit ∧ (s.commandError p c e).head.lastVoidRelease = s.head.lastVoidRelease ∧ (s.commandError p
    c e).control.manualRequest = s.control.manualRequest ∧ (s.commandError p c e).control.manualGrant =
    s.control.manualGrant ∧ (s.commandError p c e).control.boomMoving = s.control.boomMoving ∧ (s.commandError p c
    e).control.emergency = s.control.emergency ∧ (s.commandError p c e).control.sensed = s.control.sensed ∧
    (s.commandError p c e).control.latched = s.control.latched ∧ (s.commandError p c e).control.loaded =
    s.control.loaded ∧ (s.commandError p c e).cal = s.cal ∧ (s.commandError p c e).time = s.time ∧ (s.commandError
    p c e).free = s.free ∧ (s.commandError p c e).pending = s.pending := by
  unfold State.commandError
  dsimp only
  repeat' split
  all_goals simp

@[simp] theorem State.replaceHead_frame (s : State) (c : StationCommand) :
    (s.replaceHead c).host = s.host ∧ (s.replaceHead c).book = s.book ∧ (s.replaceHead c).seq = s.seq ∧
    (s.replaceHead c).issue = s.issue ∧ (s.replaceHead c).train = s.train ∧ (s.replaceHead c).line.transaction =
    s.line.transaction ∧ (s.replaceHead c).line.lastFrame = s.line.lastFrame ∧ (s.replaceHead c).line.complete =
    s.line.complete ∧ (s.replaceHead c).tracker = s.tracker ∧ (s.replaceHead c).trim = s.trim ∧ (s.replaceHead
    c).head.binCount = s.head.binCount ∧ (s.replaceHead c).head.lastTransit = s.head.lastTransit ∧ (s.replaceHead
    c).head.lastVoidRelease = s.head.lastVoidRelease ∧ (s.replaceHead c).control = s.control ∧ (s.replaceHead
    c).cal = s.cal ∧ (s.replaceHead c).time = s.time ∧ (s.replaceHead c).free = s.free ∧ (s.replaceHead c).pending
    = s.pending := by
  unfold State.replaceHead
  repeat' split
  all_goals simp

@[simp] theorem State.replaceDeferred_frame (s : State) (p : Position) :
    (s.replaceDeferred p).host = s.host ∧ (s.replaceDeferred p).book = s.book ∧ (s.replaceDeferred p).seq = s.seq
    ∧ (s.replaceDeferred p).issue = s.issue ∧ (s.replaceDeferred p).train = s.train ∧ (s.replaceDeferred
    p).line.transaction = s.line.transaction ∧ (s.replaceDeferred p).line.lastFrame = s.line.lastFrame ∧
    (s.replaceDeferred p).line.complete = s.line.complete ∧ (s.replaceDeferred p).tracker = s.tracker ∧
    (s.replaceDeferred p).trim = s.trim ∧ (s.replaceDeferred p).head.binCount = s.head.binCount ∧
    (s.replaceDeferred p).head.lastTransit = s.head.lastTransit ∧ (s.replaceDeferred p).head.lastVoidRelease =
    s.head.lastVoidRelease ∧ (s.replaceDeferred p).control = s.control ∧ (s.replaceDeferred p).cal = s.cal ∧
    (s.replaceDeferred p).time = s.time ∧ (s.replaceDeferred p).free = s.free ∧ (s.replaceDeferred p).pending =
    s.pending := by
  unfold State.replaceDeferred
  dsimp only
  repeat' split
  all_goals simp

@[simp] theorem State.reportSettled_frame (s : State) (p : Position) (r : Settlement) (n : Nat) (b : Bool) :
    (s.reportSettled p r n b).host.mask = s.host.mask ∧ (s.reportSettled p r n b).host.readData = s.host.readData
    ∧ (s.reportSettled p r n b).host.attention = s.host.attention ∧ (s.reportSettled p r n b).seq.profile =
    s.seq.profile ∧ (s.reportSettled p r n b).issue.starved = s.issue.starved ∧ (s.reportSettled p r n
    b).train.drive = s.train.drive ∧ (s.reportSettled p r n b).line.transaction = s.line.transaction ∧
    (s.reportSettled p r n b).line.lastFrame = s.line.lastFrame ∧ (s.reportSettled p r n b).line.complete =
    s.line.complete ∧ (s.reportSettled p r n b).tracker = s.tracker ∧ (s.reportSettled p r n b).trim.setPoint =
    s.trim.setPoint ∧ (s.reportSettled p r n b).trim.driveEnable = s.trim.driveEnable ∧ (s.reportSettled p r n
    b).trim.offset = s.trim.offset ∧ (s.reportSettled p r n b).trim.range = s.trim.range ∧ (s.reportSettled p r n
    b).trim.sending = s.trim.sending ∧ (s.reportSettled p r n b).trim.outputPending = s.trim.outputPending ∧
    (s.reportSettled p r n b).trim.nextFrame = s.trim.nextFrame ∧ (s.reportSettled p r n b).trim.lastFrame =
    s.trim.lastFrame ∧ (s.reportSettled p r n b).control.manualRequest = s.control.manualRequest ∧
    (s.reportSettled p r n b).control.manualGrant = s.control.manualGrant ∧ (s.reportSettled p r n
    b).control.boomMoving = s.control.boomMoving ∧ (s.reportSettled p r n b).control.emergency =
    s.control.emergency ∧ (s.reportSettled p r n b).control.sensed = s.control.sensed ∧ (s.reportSettled p r n
    b).control.latched = s.control.latched ∧ (s.reportSettled p r n b).control.loaded = s.control.loaded ∧
    (s.reportSettled p r n b).cal = s.cal ∧ (s.reportSettled p r n b).time = s.time ∧ (s.reportSettled p r n
    b).free = s.free ∧ (s.reportSettled p r n b).pending = s.pending := by
  unfold State.reportSettled
  repeat' split
  all_goals simp

@[simp] theorem State.queryStatus_frame (s : State) (p : Position) (d : QueryData) :
    (s.queryStatus p d).host.mask = s.host.mask ∧ (s.queryStatus p d).host.readData = s.host.readData ∧
    (s.queryStatus p d).host.attention = s.host.attention ∧ (s.queryStatus p d).seq.profile = s.seq.profile ∧
    (s.queryStatus p d).issue.starved = s.issue.starved ∧ (s.queryStatus p d).train.drive = s.train.drive ∧
    (s.queryStatus p d).tracker = s.tracker ∧ (s.queryStatus p d).trim.setPoint = s.trim.setPoint ∧ (s.queryStatus
    p d).trim.driveEnable = s.trim.driveEnable ∧ (s.queryStatus p d).trim.offset = s.trim.offset ∧ (s.queryStatus
    p d).trim.range = s.trim.range ∧ (s.queryStatus p d).trim.sending = s.trim.sending ∧ (s.queryStatus p
    d).trim.outputPending = s.trim.outputPending ∧ (s.queryStatus p d).trim.nextFrame = s.trim.nextFrame ∧
    (s.queryStatus p d).trim.lastFrame = s.trim.lastFrame ∧ (s.queryStatus p d).control.manualRequest =
    s.control.manualRequest ∧ (s.queryStatus p d).control.manualGrant = s.control.manualGrant ∧ (s.queryStatus p
    d).control.boomMoving = s.control.boomMoving ∧ (s.queryStatus p d).control.emergency = s.control.emergency ∧
    (s.queryStatus p d).control.sensed = s.control.sensed ∧ (s.queryStatus p d).control.latched =
    s.control.latched ∧ (s.queryStatus p d).control.loaded = s.control.loaded ∧ (s.queryStatus p d).cal = s.cal ∧
    (s.queryStatus p d).time = s.time ∧ (s.queryStatus p d).free = s.free ∧ (s.queryStatus p d).pending =
    s.pending := by
  simp [State.queryStatus]

@[simp] theorem State.queryError_frame (s : State) (p : Position) (e : Half) :
    (s.queryError p e).host.mask = s.host.mask ∧ (s.queryError p e).host.readData = s.host.readData ∧
    (s.queryError p e).host.attention = s.host.attention ∧ (s.queryError p e).seq.profile = s.seq.profile ∧
    (s.queryError p e).issue.starved = s.issue.starved ∧ (s.queryError p e).train.drive = s.train.drive ∧
    (s.queryError p e).tracker = s.tracker ∧ (s.queryError p e).trim.setPoint = s.trim.setPoint ∧ (s.queryError p
    e).trim.driveEnable = s.trim.driveEnable ∧ (s.queryError p e).trim.offset = s.trim.offset ∧ (s.queryError p
    e).trim.range = s.trim.range ∧ (s.queryError p e).trim.sending = s.trim.sending ∧ (s.queryError p
    e).trim.outputPending = s.trim.outputPending ∧ (s.queryError p e).trim.nextFrame = s.trim.nextFrame ∧
    (s.queryError p e).trim.lastFrame = s.trim.lastFrame ∧ (s.queryError p e).head.binCount = s.head.binCount ∧
    (s.queryError p e).head.lastTransit = s.head.lastTransit ∧ (s.queryError p e).head.lastVoidRelease =
    s.head.lastVoidRelease ∧ (s.queryError p e).control.manualRequest = s.control.manualRequest ∧ (s.queryError p
    e).control.manualGrant = s.control.manualGrant ∧ (s.queryError p e).control.boomMoving = s.control.boomMoving
    ∧ (s.queryError p e).control.emergency = s.control.emergency ∧ (s.queryError p e).control.sensed =
    s.control.sensed ∧ (s.queryError p e).control.latched = s.control.latched ∧ (s.queryError p e).control.loaded
    = s.control.loaded ∧ (s.queryError p e).cal = s.cal ∧ (s.queryError p e).time = s.time ∧ (s.queryError p
    e).free = s.free ∧ (s.queryError p e).pending = s.pending := by
  unfold State.queryError
  dsimp only
  repeat' split
  all_goals simp

@[simp] theorem State.goodReply_frame (s : State) (t : Transaction) (r : Reply) :
    (s.goodReply t r).host.mask = s.host.mask ∧ (s.goodReply t r).host.readData = s.host.readData ∧ (s.goodReply t
    r).host.attention = s.host.attention ∧ (s.goodReply t r).seq.profile = s.seq.profile ∧ (s.goodReply t
    r).issue.starved = s.issue.starved ∧ (s.goodReply t r).train.drive = s.train.drive ∧ (s.goodReply t r).tracker
    = s.tracker ∧ (s.goodReply t r).trim.setPoint = s.trim.setPoint ∧ (s.goodReply t r).trim.driveEnable =
    s.trim.driveEnable ∧ (s.goodReply t r).trim.offset = s.trim.offset ∧ (s.goodReply t r).trim.range =
    s.trim.range ∧ (s.goodReply t r).trim.sending = s.trim.sending ∧ (s.goodReply t r).trim.outputPending =
    s.trim.outputPending ∧ (s.goodReply t r).trim.nextFrame = s.trim.nextFrame ∧ (s.goodReply t r).trim.lastFrame
    = s.trim.lastFrame ∧ (s.goodReply t r).control.manualRequest = s.control.manualRequest ∧ (s.goodReply t
    r).control.manualGrant = s.control.manualGrant ∧ (s.goodReply t r).control.boomMoving = s.control.boomMoving ∧
    (s.goodReply t r).control.emergency = s.control.emergency ∧ (s.goodReply t r).control.sensed =
    s.control.sensed ∧ (s.goodReply t r).control.latched = s.control.latched ∧ (s.goodReply t r).control.loaded =
    s.control.loaded ∧ (s.goodReply t r).cal = s.cal ∧ (s.goodReply t r).time = s.time ∧ (s.goodReply t r).free =
    s.free ∧ (s.goodReply t r).pending = s.pending := by
  unfold State.goodReply
  repeat' split
  all_goals simp

@[simp] theorem State.receiveReply_frame (s : State) (bs : List Byte) :
    (s.receiveReply bs).host.mask = s.host.mask ∧ (s.receiveReply bs).host.readData = s.host.readData ∧
    (s.receiveReply bs).host.attention = s.host.attention ∧ (s.receiveReply bs).seq.profile = s.seq.profile ∧
    (s.receiveReply bs).issue.starved = s.issue.starved ∧ (s.receiveReply bs).train.drive = s.train.drive ∧
    (s.receiveReply bs).tracker = s.tracker ∧ (s.receiveReply bs).trim.setPoint = s.trim.setPoint ∧
    (s.receiveReply bs).trim.driveEnable = s.trim.driveEnable ∧ (s.receiveReply bs).trim.offset = s.trim.offset ∧
    (s.receiveReply bs).trim.range = s.trim.range ∧ (s.receiveReply bs).trim.sending = s.trim.sending ∧
    (s.receiveReply bs).trim.outputPending = s.trim.outputPending ∧ (s.receiveReply bs).trim.nextFrame =
    s.trim.nextFrame ∧ (s.receiveReply bs).trim.lastFrame = s.trim.lastFrame ∧ (s.receiveReply
    bs).control.manualRequest = s.control.manualRequest ∧ (s.receiveReply bs).control.manualGrant =
    s.control.manualGrant ∧ (s.receiveReply bs).control.boomMoving = s.control.boomMoving ∧ (s.receiveReply
    bs).control.emergency = s.control.emergency ∧ (s.receiveReply bs).control.sensed = s.control.sensed ∧
    (s.receiveReply bs).control.latched = s.control.latched ∧ (s.receiveReply bs).control.loaded =
    s.control.loaded ∧ (s.receiveReply bs).cal = s.cal ∧ (s.receiveReply bs).time = s.time ∧ (s.receiveReply
    bs).free = s.free ∧ (s.receiveReply bs).pending = s.pending := by
  unfold State.receiveReply
  repeat' split
  all_goals simp

/-! ### TrackerOps -/

@[simp] theorem State.leaveLost_frame (s : State) :
    (s.leaveLost).host = s.host ∧ (s.leaveLost).book = s.book ∧ (s.leaveLost).status = s.status ∧
    (s.leaveLost).seq = s.seq ∧ (s.leaveLost).issue = s.issue ∧ (s.leaveLost).train = s.train ∧ (s.leaveLost).line
    = s.line ∧ (s.leaveLost).trim = s.trim ∧ (s.leaveLost).head.binCount = s.head.binCount ∧
    (s.leaveLost).head.lastTransit = s.head.lastTransit ∧ (s.leaveLost).head.lastVoidRelease =
    s.head.lastVoidRelease ∧ (s.leaveLost).control = s.control ∧ (s.leaveLost).cal = s.cal ∧ (s.leaveLost).time =
    s.time ∧ (s.leaveLost).free = s.free ∧ (s.leaveLost).pending = s.pending := by
  unfold State.leaveLost
  split <;> simp

@[simp] theorem State.takeSample_frame (s : State) (h : Pose) :
    (s.takeSample h).host.mask = s.host.mask ∧ (s.takeSample h).host.readData = s.host.readData ∧ (s.takeSample
    h).host.attention = s.host.attention ∧ (s.takeSample h).book = s.book ∧ (s.takeSample h).seq = s.seq ∧
    (s.takeSample h).issue = s.issue ∧ (s.takeSample h).train = s.train ∧ (s.takeSample h).line = s.line ∧
    (s.takeSample h).head.binCount = s.head.binCount ∧ (s.takeSample h).head.lastTransit = s.head.lastTransit ∧
    (s.takeSample h).head.lastVoidRelease = s.head.lastVoidRelease ∧ (s.takeSample h).control = s.control ∧
    (s.takeSample h).cal = s.cal ∧ (s.takeSample h).time = s.time ∧ (s.takeSample h).free = s.free ∧ (s.takeSample
    h).pending = s.pending := by
  unfold State.takeSample
  dsimp only
  repeat' split
  all_goals simp

@[simp] theorem State.takeFrame_frame (s : State) (bs : List Byte) :
    (s.takeFrame bs).host.mask = s.host.mask ∧ (s.takeFrame bs).host.readData = s.host.readData ∧ (s.takeFrame
    bs).host.attention = s.host.attention ∧ (s.takeFrame bs).book = s.book ∧ (s.takeFrame bs).seq = s.seq ∧
    (s.takeFrame bs).issue = s.issue ∧ (s.takeFrame bs).train = s.train ∧ (s.takeFrame bs).line = s.line ∧
    (s.takeFrame bs).head.binCount = s.head.binCount ∧ (s.takeFrame bs).head.lastTransit = s.head.lastTransit ∧
    (s.takeFrame bs).head.lastVoidRelease = s.head.lastVoidRelease ∧ (s.takeFrame bs).control = s.control ∧
    (s.takeFrame bs).cal = s.cal ∧ (s.takeFrame bs).time = s.time ∧ (s.takeFrame bs).free = s.free ∧ (s.takeFrame
    bs).pending = s.pending := by
  unfold State.takeFrame
  split <;> simp

@[simp] theorem State.takeByte_frame (s : State) (b : Byte) :
    (s.takeByte b).host.mask = s.host.mask ∧ (s.takeByte b).host.readData = s.host.readData ∧ (s.takeByte
    b).host.attention = s.host.attention ∧ (s.takeByte b).book = s.book ∧ (s.takeByte b).seq = s.seq ∧ (s.takeByte
    b).issue = s.issue ∧ (s.takeByte b).train = s.train ∧ (s.takeByte b).line = s.line ∧ (s.takeByte
    b).head.binCount = s.head.binCount ∧ (s.takeByte b).head.lastTransit = s.head.lastTransit ∧ (s.takeByte
    b).head.lastVoidRelease = s.head.lastVoidRelease ∧ (s.takeByte b).control = s.control ∧ (s.takeByte b).cal =
    s.cal ∧ (s.takeByte b).time = s.time ∧ (s.takeByte b).free = s.free ∧ (s.takeByte b).pending = s.pending := by
  unfold State.takeByte
  repeat' split
  all_goals simp

@[simp] theorem State.takeBytes_frame (s : State) (bs : List Byte) :
    (s.takeBytes bs).host.mask = s.host.mask ∧ (s.takeBytes bs).host.readData = s.host.readData ∧ (s.takeBytes
    bs).host.attention = s.host.attention ∧ (s.takeBytes bs).book = s.book ∧ (s.takeBytes bs).seq = s.seq ∧
    (s.takeBytes bs).issue = s.issue ∧ (s.takeBytes bs).train = s.train ∧ (s.takeBytes bs).line = s.line ∧
    (s.takeBytes bs).head.binCount = s.head.binCount ∧ (s.takeBytes bs).head.lastTransit = s.head.lastTransit ∧
    (s.takeBytes bs).head.lastVoidRelease = s.head.lastVoidRelease ∧ (s.takeBytes bs).control = s.control ∧
    (s.takeBytes bs).cal = s.cal ∧ (s.takeBytes bs).time = s.time ∧ (s.takeBytes bs).free = s.free ∧ (s.takeBytes
    bs).pending = s.pending := by
  unfold State.takeBytes
  split
  · have h := foldl_kept State.takeByte
        (fun t => (t.host.mask, t.host.readData, t.host.attention, t.book, t.seq, t.issue, t.train, t.line,
          t.head.binCount, t.head.lastTransit, t.head.lastVoidRelease, t.control, t.cal, t.time, t.free, t.pending))
        (by simp) bs s
    simpa using h
  · simp

@[simp] theorem State.byteGap_frame (s : State) :
    (s.byteGap).host = s.host ∧ (s.byteGap).book = s.book ∧ (s.byteGap).seq = s.seq ∧ (s.byteGap).issue = s.issue
    ∧ (s.byteGap).train = s.train ∧ (s.byteGap).line = s.line ∧ (s.byteGap).trim = s.trim ∧ (s.byteGap).head =
    s.head ∧ (s.byteGap).control = s.control ∧ (s.byteGap).cal = s.cal ∧ (s.byteGap).time = s.time ∧
    (s.byteGap).free = s.free ∧ (s.byteGap).pending = s.pending := by
  unfold State.byteGap
  split <;> simp

/-! ### Settle -/

@[simp] theorem State.evalStarved_frame (s : State) :
    (s.evalStarved).host.mask = s.host.mask ∧ (s.evalStarved).host.readData = s.host.readData ∧
    (s.evalStarved).host.attention = s.host.attention ∧ (s.evalStarved).book = s.book ∧ (s.evalStarved).seq =
    s.seq ∧ (s.evalStarved).issue.list = s.issue.list ∧ (s.evalStarved).issue.feed = s.issue.feed ∧
    (s.evalStarved).train = s.train ∧ (s.evalStarved).line = s.line ∧ (s.evalStarved).tracker = s.tracker ∧
    (s.evalStarved).trim = s.trim ∧ (s.evalStarved).head = s.head ∧ (s.evalStarved).control = s.control ∧
    (s.evalStarved).cal = s.cal ∧ (s.evalStarved).time = s.time ∧ (s.evalStarved).free = s.free ∧
    (s.evalStarved).pending = s.pending := by
  unfold State.evalStarved
  dsimp only
  repeat' split
  all_goals simp

@[simp] theorem State.evalDrive_frame (s : State) :
    (s.evalDrive).host = s.host ∧ (s.evalDrive).book = s.book ∧ (s.evalDrive).status = s.status ∧
    (s.evalDrive).seq = s.seq ∧ (s.evalDrive).issue = s.issue ∧ (s.evalDrive).train.queue = s.train.queue ∧
    (s.evalDrive).train.limitReached = s.train.limitReached ∧ (s.evalDrive).line = s.line ∧ (s.evalDrive).tracker
    = s.tracker ∧ (s.evalDrive).trim = s.trim ∧ (s.evalDrive).head = s.head ∧ (s.evalDrive).control = s.control ∧
    (s.evalDrive).cal = s.cal ∧ (s.evalDrive).time = s.time ∧ (s.evalDrive).free = s.free ∧ (s.evalDrive).pending
    = s.pending := by
  simp [State.evalDrive]

@[simp] theorem State.showStatus_frame (s : State) :
    (s.showStatus).host = s.host ∧ (s.showStatus).book = s.book ∧ (s.showStatus).seq = s.seq ∧
    (s.showStatus).issue = s.issue ∧ (s.showStatus).train = s.train ∧ (s.showStatus).line = s.line ∧
    (s.showStatus).tracker = s.tracker ∧ (s.showStatus).trim = s.trim ∧ (s.showStatus).head = s.head ∧
    (s.showStatus).control = s.control ∧ (s.showStatus).cal = s.cal ∧ (s.showStatus).time = s.time ∧
    (s.showStatus).free = s.free ∧ (s.showStatus).pending = s.pending := by
  simp [State.showStatus]

@[simp] theorem State.rewriteStatus_frame (s : State) :
    (s.rewriteStatus).host = s.host ∧ (s.rewriteStatus).book = s.book ∧ (s.rewriteStatus).seq = s.seq ∧
    (s.rewriteStatus).issue = s.issue ∧ (s.rewriteStatus).train = s.train ∧ (s.rewriteStatus).line = s.line ∧
    (s.rewriteStatus).tracker = s.tracker ∧ (s.rewriteStatus).trim = s.trim ∧ (s.rewriteStatus).head = s.head ∧
    (s.rewriteStatus).control = s.control ∧ (s.rewriteStatus).cal = s.cal ∧ (s.rewriteStatus).time = s.time ∧
    (s.rewriteStatus).free = s.free ∧ (s.rewriteStatus).pending = s.pending := by
  simp [State.rewriteStatus]

@[simp] theorem State.evaluate_frame (s : State) :
    (s.evaluate).host.mask = s.host.mask ∧ (s.evaluate).host.readData = s.host.readData ∧ (s.evaluate).book =
    s.book ∧ (s.evaluate).seq = s.seq ∧ (s.evaluate).issue.list = s.issue.list ∧ (s.evaluate).issue.feed =
    s.issue.feed ∧ (s.evaluate).train.queue = s.train.queue ∧ (s.evaluate).train.limitReached =
    s.train.limitReached ∧ (s.evaluate).line = s.line ∧ (s.evaluate).tracker = s.tracker ∧ (s.evaluate).trim =
    s.trim ∧ (s.evaluate).head = s.head ∧ (s.evaluate).control = s.control ∧ (s.evaluate).cal = s.cal ∧
    (s.evaluate).time = s.time ∧ (s.evaluate).free = s.free ∧ (s.evaluate).pending = s.pending := by
  simp [State.evaluate]

end Sys2Proof.Machine
end

