-- ==== Sys2Proof/Laws/Frames3.lean ====
section
/-! SUPPORT. For each operation of the command families: the blocks of the state that it leaves unchanged. -/

namespace Sys2Proof.Machine

/-! ### Control -/

@[simp] theorem State.enterState_frame (s : State) (m : MachineState) :
    (s.enterState m).host = s.host ∧ (s.enterState m).book = s.book ∧ (s.enterState m).status = s.status ∧
    (s.enterState m).seq = s.seq ∧ (s.enterState m).issue = s.issue ∧ (s.enterState m).train = s.train ∧
    (s.enterState m).line = s.line ∧ (s.enterState m).tracker = s.tracker ∧ (s.enterState m).trim = s.trim ∧
    (s.enterState m).head = s.head ∧ (s.enterState m).control.manualRequest = s.control.manualRequest ∧
    (s.enterState m).control.manualGrant = s.control.manualGrant ∧ (s.enterState m).control.boomMoving =
    s.control.boomMoving ∧ (s.enterState m).control.emergency = s.control.emergency ∧ (s.enterState
    m).control.sensed = s.control.sensed ∧ (s.enterState m).control.latched = s.control.latched ∧ (s.enterState
    m).control.loaded = s.control.loaded ∧ (s.enterState m).cal = s.cal ∧ (s.enterState m).time = s.time ∧
    (s.enterState m).free = s.free ∧ (s.enterState m).pending = s.pending := by
  simp [State.enterState]

@[simp] theorem State.endDrain_frame (s : State) :
    (s.endDrain).host = s.host ∧ (s.endDrain).book = s.book ∧ (s.endDrain).status = s.status ∧ (s.endDrain).seq =
    s.seq ∧ (s.endDrain).issue = s.issue ∧ (s.endDrain).train = s.train ∧ (s.endDrain).line = s.line ∧
    (s.endDrain).tracker = s.tracker ∧ (s.endDrain).trim = s.trim ∧ (s.endDrain).head = s.head ∧
    (s.endDrain).control.manualRequest = s.control.manualRequest ∧ (s.endDrain).control.manualGrant =
    s.control.manualGrant ∧ (s.endDrain).control.boomMoving = s.control.boomMoving ∧
    (s.endDrain).control.emergency = s.control.emergency ∧ (s.endDrain).control.sensed = s.control.sensed ∧
    (s.endDrain).control.latched = s.control.latched ∧ (s.endDrain).control.loaded = s.control.loaded ∧
    (s.endDrain).cal = s.cal ∧ (s.endDrain).time = s.time ∧ (s.endDrain).free = s.free ∧ (s.endDrain).pending =
    s.pending := by
  unfold State.endDrain
  split <;> simp

@[simp] theorem State.withdrawTake_frame (s : State) :
    (s.withdrawTake).host = s.host ∧ (s.withdrawTake).book = s.book ∧ (s.withdrawTake).seq = s.seq ∧
    (s.withdrawTake).issue = s.issue ∧ (s.withdrawTake).train = s.train ∧ (s.withdrawTake).line.transaction =
    s.line.transaction ∧ (s.withdrawTake).line.lastFrame = s.line.lastFrame ∧ (s.withdrawTake).line.complete =
    s.line.complete ∧ (s.withdrawTake).tracker = s.tracker ∧ (s.withdrawTake).trim = s.trim ∧
    (s.withdrawTake).head.binCount = s.head.binCount ∧ (s.withdrawTake).head.lastTransit = s.head.lastTransit ∧
    (s.withdrawTake).head.lastVoidRelease = s.head.lastVoidRelease ∧ (s.withdrawTake).control = s.control ∧
    (s.withdrawTake).cal = s.cal ∧ (s.withdrawTake).time = s.time ∧ (s.withdrawTake).free = s.free ∧
    (s.withdrawTake).pending = s.pending := by
  unfold State.withdrawTake
  split <;> simp

@[simp] theorem State.holdBoom_frame (s : State) (b : Bool) :
    (s.holdBoom b).host = s.host ∧ (s.holdBoom b).book = s.book ∧ (s.holdBoom b).status = s.status ∧ (s.holdBoom
    b).seq = s.seq ∧ (s.holdBoom b).issue = s.issue ∧ (s.holdBoom b).train = s.train ∧ (s.holdBoom b).line =
    s.line ∧ (s.holdBoom b).tracker = s.tracker ∧ (s.holdBoom b).trim.setPoint = s.trim.setPoint ∧ (s.holdBoom
    b).trim.driveEnable = s.trim.driveEnable ∧ (s.holdBoom b).trim.offset = s.trim.offset ∧ (s.holdBoom
    b).trim.range = s.trim.range ∧ (s.holdBoom b).trim.sending = s.trim.sending ∧ (s.holdBoom
    b).trim.outputPending = s.trim.outputPending ∧ (s.holdBoom b).trim.nextFrame = s.trim.nextFrame ∧ (s.holdBoom
    b).trim.lastFrame = s.trim.lastFrame ∧ (s.holdBoom b).head = s.head ∧ (s.holdBoom b).cal = s.cal ∧ (s.holdBoom
    b).time = s.time ∧ (s.holdBoom b).free = s.free ∧ (s.holdBoom b).pending = s.pending := by
  unfold State.holdBoom
  split <;> simp

/-! ### BookWrites -/

@[simp] theorem State.freeTerminal_frame (s : State) (i : EntryIx) (e : EntryState) :
    (s.freeTerminal i e).host.mask = s.host.mask ∧ (s.freeTerminal i e).host.readData = s.host.readData ∧
    (s.freeTerminal i e).host.attention = s.host.attention ∧ (s.freeTerminal i e).seq.profile = s.seq.profile ∧
    (s.freeTerminal i e).issue = s.issue ∧ (s.freeTerminal i e).train = s.train ∧ (s.freeTerminal i e).line =
    s.line ∧ (s.freeTerminal i e).tracker = s.tracker ∧ (s.freeTerminal i e).trim = s.trim ∧ (s.freeTerminal i
    e).head = s.head ∧ (s.freeTerminal i e).control = s.control ∧ (s.freeTerminal i e).cal = s.cal ∧
    (s.freeTerminal i e).time = s.time ∧ (s.freeTerminal i e).free = s.free ∧ (s.freeTerminal i e).pending =
    s.pending := by
  simp [State.freeTerminal]

@[simp] theorem State.postEntry_frame (s : State) (i : EntryIx) :
    (s.postEntry i).host.mask = s.host.mask ∧ (s.postEntry i).host.readData = s.host.readData ∧ (s.postEntry
    i).host.attention = s.host.attention ∧ (s.postEntry i).seq.profile = s.seq.profile ∧ (s.postEntry i).issue =
    s.issue ∧ (s.postEntry i).train = s.train ∧ (s.postEntry i).line = s.line ∧ (s.postEntry i).tracker =
    s.tracker ∧ (s.postEntry i).trim = s.trim ∧ (s.postEntry i).head = s.head ∧ (s.postEntry i).control =
    s.control ∧ (s.postEntry i).cal = s.cal ∧ (s.postEntry i).time = s.time ∧ (s.postEntry i).free = s.free ∧
    (s.postEntry i).pending = s.pending := by
  unfold State.postEntry
  split <;> simp

@[simp] theorem State.freeEntry_frame (s : State) (i : EntryIx) :
    (s.freeEntry i).host.mask = s.host.mask ∧ (s.freeEntry i).host.readData = s.host.readData ∧ (s.freeEntry
    i).host.attention = s.host.attention ∧ (s.freeEntry i).seq.profile = s.seq.profile ∧ (s.freeEntry i).issue =
    s.issue ∧ (s.freeEntry i).train = s.train ∧ (s.freeEntry i).line = s.line ∧ (s.freeEntry i).tracker =
    s.tracker ∧ (s.freeEntry i).trim = s.trim ∧ (s.freeEntry i).head = s.head ∧ (s.freeEntry i).control =
    s.control ∧ (s.freeEntry i).cal = s.cal ∧ (s.freeEntry i).time = s.time ∧ (s.freeEntry i).free = s.free ∧
    (s.freeEntry i).pending = s.pending := by
  unfold State.freeEntry
  split
  · simp
  · simp
  · split <;> simp
  · simp

@[simp] theorem State.cancelWrite_frame (s : State) (i : EntryIx) :
    (s.cancelWrite i).host.mask = s.host.mask ∧ (s.cancelWrite i).host.readData = s.host.readData ∧ (s.cancelWrite
    i).host.attention = s.host.attention ∧ (s.cancelWrite i).seq.profile = s.seq.profile ∧ (s.cancelWrite i).issue
    = s.issue ∧ (s.cancelWrite i).train = s.train ∧ (s.cancelWrite i).line = s.line ∧ (s.cancelWrite i).tracker =
    s.tracker ∧ (s.cancelWrite i).trim = s.trim ∧ (s.cancelWrite i).head = s.head ∧ (s.cancelWrite i).control =
    s.control ∧ (s.cancelWrite i).cal = s.cal ∧ (s.cancelWrite i).time = s.time ∧ (s.cancelWrite i).free = s.free
    ∧ (s.cancelWrite i).pending = s.pending := by
  unfold State.cancelWrite
  split <;> simp

@[simp] theorem State.confirmEntry_frame (s : State) (i : EntryIx) :
    (s.confirmEntry i).host.mask = s.host.mask ∧ (s.confirmEntry i).host.readData = s.host.readData ∧
    (s.confirmEntry i).host.attention = s.host.attention ∧ (s.confirmEntry i).book = s.book ∧ (s.confirmEntry
    i).seq = s.seq ∧ (s.confirmEntry i).issue = s.issue ∧ (s.confirmEntry i).train = s.train ∧ (s.confirmEntry
    i).line = s.line ∧ (s.confirmEntry i).tracker = s.tracker ∧ (s.confirmEntry i).trim = s.trim ∧ (s.confirmEntry
    i).control = s.control ∧ (s.confirmEntry i).cal = s.cal ∧ (s.confirmEntry i).time = s.time ∧ (s.confirmEntry
    i).free = s.free ∧ (s.confirmEntry i).pending = s.pending := by
  unfold State.confirmEntry
  repeat' split
  all_goals simp

/-! ### Supply -/

@[simp] theorem State.failAtTake_frame (s : State) (i : EntryIx) :
    (s.failAtTake i).host.mask = s.host.mask ∧ (s.failAtTake i).host.readData = s.host.readData ∧ (s.failAtTake
    i).host.attention = s.host.attention ∧ (s.failAtTake i).seq.profile = s.seq.profile ∧ (s.failAtTake i).issue =
    s.issue ∧ (s.failAtTake i).train = s.train ∧ (s.failAtTake i).line = s.line ∧ (s.failAtTake i).tracker =
    s.tracker ∧ (s.failAtTake i).trim = s.trim ∧ (s.failAtTake i).head = s.head ∧ (s.failAtTake i).control =
    s.control ∧ (s.failAtTake i).cal = s.cal ∧ (s.failAtTake i).time = s.time ∧ (s.failAtTake i).free = s.free ∧
    (s.failAtTake i).pending = s.pending := by
  simp [State.failAtTake]

@[simp] theorem State.appendRecord_frame (s : State) (r : IssueRecord) :
    (s.appendRecord r).host = s.host ∧ (s.appendRecord r).book = s.book ∧ (s.appendRecord r).status = s.status ∧
    (s.appendRecord r).seq = s.seq ∧ (s.appendRecord r).issue.feed = s.issue.feed ∧ (s.appendRecord
    r).issue.starved = s.issue.starved ∧ (s.appendRecord r).train = s.train ∧ (s.appendRecord r).line = s.line ∧
    (s.appendRecord r).tracker = s.tracker ∧ (s.appendRecord r).trim = s.trim ∧ (s.appendRecord r).head = s.head ∧
    (s.appendRecord r).control = s.control ∧ (s.appendRecord r).cal = s.cal ∧ (s.appendRecord r).time = s.time ∧
    (s.appendRecord r).free = s.free ∧ (s.appendRecord r).pending = s.pending := by
  simp [State.appendRecord]

@[simp] theorem State.orderFeed_frame (s : State) (i : EntryIx) (n : Nat) :
    (s.orderFeed i n).host = s.host ∧ (s.orderFeed i n).book = s.book ∧ (s.orderFeed i n).status = s.status ∧
    (s.orderFeed i n).seq = s.seq ∧ (s.orderFeed i n).issue.starved = s.issue.starved ∧ (s.orderFeed i n).train =
    s.train ∧ (s.orderFeed i n).line = s.line ∧ (s.orderFeed i n).tracker = s.tracker ∧ (s.orderFeed i n).trim =
    s.trim ∧ (s.orderFeed i n).head = s.head ∧ (s.orderFeed i n).control = s.control ∧ (s.orderFeed i n).cal =
    s.cal ∧ (s.orderFeed i n).time = s.time ∧ (s.orderFeed i n).free = s.free ∧ (s.orderFeed i n).pending =
    s.pending := by
  unfold State.orderFeed
  split <;> simp

@[simp] theorem State.issueEntry_frame (s : State) (k : Slot) (i : EntryIx) :
    (s.issueEntry k i).host.mask = s.host.mask ∧ (s.issueEntry k i).host.readData = s.host.readData ∧
    (s.issueEntry k i).host.attention = s.host.attention ∧ (s.issueEntry k i).seq.profile = s.seq.profile ∧
    (s.issueEntry k i).issue.starved = s.issue.starved ∧ (s.issueEntry k i).train = s.train ∧ (s.issueEntry k
    i).line = s.line ∧ (s.issueEntry k i).tracker = s.tracker ∧ (s.issueEntry k i).trim = s.trim ∧ (s.issueEntry k
    i).head = s.head ∧ (s.issueEntry k i).control = s.control ∧ (s.issueEntry k i).cal = s.cal ∧ (s.issueEntry k
    i).time = s.time ∧ (s.issueEntry k i).free = s.free ∧ (s.issueEntry k i).pending = s.pending := by
  unfold State.issueEntry
  split <;> simp

@[simp] theorem State.takeEntry_frame (s : State) (k : Slot) (i : EntryIx) (b : Byte) :
    (s.takeEntry k i b).host.mask = s.host.mask ∧ (s.takeEntry k i b).host.readData = s.host.readData ∧
    (s.takeEntry k i b).host.attention = s.host.attention ∧ (s.takeEntry k i b).seq.profile = s.seq.profile ∧
    (s.takeEntry k i b).issue.starved = s.issue.starved ∧ (s.takeEntry k i b).train = s.train ∧ (s.takeEntry k i
    b).line = s.line ∧ (s.takeEntry k i b).tracker = s.tracker ∧ (s.takeEntry k i b).trim = s.trim ∧ (s.takeEntry
    k i b).head = s.head ∧ (s.takeEntry k i b).control = s.control ∧ (s.takeEntry k i b).cal = s.cal ∧
    (s.takeEntry k i b).time = s.time ∧ (s.takeEntry k i b).free = s.free ∧ (s.takeEntry k i b).pending =
    s.pending := by
  unfold State.takeEntry
  repeat' split
  all_goals simp

@[simp] theorem State.appendCarrier_frame (s : State) (c d : Option EntryIx) :
    (s.appendCarrier c d).host = s.host ∧ (s.appendCarrier c d).book = s.book ∧ (s.appendCarrier c d).seq = s.seq
    ∧ (s.appendCarrier c d).issue = s.issue ∧ (s.appendCarrier c d).train.drive = s.train.drive ∧ (s.appendCarrier
    c d).train.limitReached = s.train.limitReached ∧ (s.appendCarrier c d).line = s.line ∧ (s.appendCarrier c
    d).tracker = s.tracker ∧ (s.appendCarrier c d).trim = s.trim ∧ (s.appendCarrier c d).head = s.head ∧
    (s.appendCarrier c d).control = s.control ∧ (s.appendCarrier c d).cal = s.cal ∧ (s.appendCarrier c d).time =
    s.time ∧ (s.appendCarrier c d).free = s.free ∧ (s.appendCarrier c d).pending = s.pending := by
  simp [State.appendCarrier]

@[simp] theorem State.matchBrick_frame (s : State) (f : FeedPending) :
    (s.matchBrick f).host = s.host ∧ (s.matchBrick f).seq = s.seq ∧ (s.matchBrick f).issue.starved =
    s.issue.starved ∧ (s.matchBrick f).train.drive = s.train.drive ∧ (s.matchBrick f).train.limitReached =
    s.train.limitReached ∧ (s.matchBrick f).line.transaction = s.line.transaction ∧ (s.matchBrick
    f).line.lastFrame = s.line.lastFrame ∧ (s.matchBrick f).line.complete = s.line.complete ∧ (s.matchBrick
    f).tracker = s.tracker ∧ (s.matchBrick f).trim = s.trim ∧ (s.matchBrick f).head = s.head ∧ (s.matchBrick
    f).control = s.control ∧ (s.matchBrick f).cal = s.cal ∧ (s.matchBrick f).time = s.time ∧ (s.matchBrick f).free
    = s.free ∧ (s.matchBrick f).pending = s.pending := by
  unfold State.matchBrick
  split <;> simp

@[simp] theorem State.arriveBay_frame (s : State) (c : Content) (t : Option Word) :
    (s.arriveBay c t).host = s.host ∧ (s.arriveBay c t).book = s.book ∧ (s.arriveBay c t).seq = s.seq ∧
    (s.arriveBay c t).issue = s.issue ∧ (s.arriveBay c t).train = s.train ∧ (s.arriveBay c t).line = s.line ∧
    (s.arriveBay c t).tracker = s.tracker ∧ (s.arriveBay c t).trim = s.trim ∧ (s.arriveBay c t).head.binCount =
    s.head.binCount ∧ (s.arriveBay c t).head.lastTransit = s.head.lastTransit ∧ (s.arriveBay c
    t).head.lastVoidRelease = s.head.lastVoidRelease ∧ (s.arriveBay c t).control = s.control ∧ (s.arriveBay c
    t).cal = s.cal ∧ (s.arriveBay c t).time = s.time ∧ (s.arriveBay c t).free = s.free ∧ (s.arriveBay c t).pending
    = s.pending := by
  simp [State.arriveBay]

@[simp] theorem State.popFront_frame (s : State) (c : Carrier) (l : List Carrier) :
    (s.popFront c l).host = s.host ∧ (s.popFront c l).seq = s.seq ∧ (s.popFront c l).issue.feed = s.issue.feed ∧
    (s.popFront c l).issue.starved = s.issue.starved ∧ (s.popFront c l).train.drive = s.train.drive ∧ (s.popFront
    c l).line = s.line ∧ (s.popFront c l).tracker = s.tracker ∧ (s.popFront c l).trim = s.trim ∧ (s.popFront c
    l).head.binCount = s.head.binCount ∧ (s.popFront c l).head.lastTransit = s.head.lastTransit ∧ (s.popFront c
    l).head.lastVoidRelease = s.head.lastVoidRelease ∧ (s.popFront c l).control = s.control ∧ (s.popFront c l).cal
    = s.cal ∧ (s.popFront c l).time = s.time ∧ (s.popFront c l).free = s.free ∧ (s.popFront c l).pending =
    s.pending := by
  unfold State.popFront
  split <;> simp

/-! ### CalibrationEvents -/

@[simp] theorem State.copyImage_frame (s : State) (v : Vector Word 32) :
    (s.copyImage v).host = s.host ∧ (s.copyImage v).status = s.status ∧ (s.copyImage v).seq = s.seq ∧ (s.copyImage
    v).issue = s.issue ∧ (s.copyImage v).train = s.train ∧ (s.copyImage v).line = s.line ∧ (s.copyImage v).tracker
    = s.tracker ∧ (s.copyImage v).trim = s.trim ∧ (s.copyImage v).head = s.head ∧ (s.copyImage v).control =
    s.control ∧ (s.copyImage v).cal = s.cal ∧ (s.copyImage v).time = s.time ∧ (s.copyImage v).free = s.free ∧
    (s.copyImage v).pending = s.pending := by
  unfold State.copyImage
  have h := foldl_kept (fun t (j : Fin 32) => t.setWord (imageAddr j.val) v[j])
      (fun t => (t.host, t.status, t.seq, t.issue, t.train, t.line, t.tracker, t.trim, t.head, t.control, t.cal,
        t.time, t.free, t.pending))
      (by simp) (List.finRange 32) s
  simpa using h

@[simp] theorem State.handOver_frame (s : State) (v : Vector Word 32) :
    (s.handOver v).host = s.host ∧ (s.handOver v).book = s.book ∧ (s.handOver v).status = s.status ∧ (s.handOver
    v).seq = s.seq ∧ (s.handOver v).issue = s.issue ∧ (s.handOver v).train = s.train ∧ (s.handOver v).line =
    s.line ∧ (s.handOver v).tracker = s.tracker ∧ (s.handOver v).head = s.head ∧ (s.handOver v).control =
    s.control ∧ (s.handOver v).cal = s.cal ∧ (s.handOver v).time = s.time ∧ (s.handOver v).free = s.free ∧
    (s.handOver v).pending = s.pending := by
  unfold State.handOver
  split <;> simp

@[simp] theorem State.rejectCommit_frame (s : State) :
    (s.rejectCommit).host.mask = s.host.mask ∧ (s.rejectCommit).host.readData = s.host.readData ∧
    (s.rejectCommit).host.attention = s.host.attention ∧ (s.rejectCommit).book = s.book ∧ (s.rejectCommit).seq =
    s.seq ∧ (s.rejectCommit).issue = s.issue ∧ (s.rejectCommit).train = s.train ∧ (s.rejectCommit).line = s.line ∧
    (s.rejectCommit).tracker = s.tracker ∧ (s.rejectCommit).trim = s.trim ∧ (s.rejectCommit).head = s.head ∧
    (s.rejectCommit).control = s.control ∧ (s.rejectCommit).time = s.time ∧ (s.rejectCommit).free = s.free ∧
    (s.rejectCommit).pending = s.pending := by
  simp [State.rejectCommit]

@[simp] theorem State.completeCommit_frame (s : State) :
    (s.completeCommit).host.mask = s.host.mask ∧ (s.completeCommit).host.readData = s.host.readData ∧
    (s.completeCommit).host.attention = s.host.attention ∧ (s.completeCommit).book = s.book ∧
    (s.completeCommit).seq = s.seq ∧ (s.completeCommit).issue = s.issue ∧ (s.completeCommit).train = s.train ∧
    (s.completeCommit).line = s.line ∧ (s.completeCommit).tracker = s.tracker ∧ (s.completeCommit).head = s.head ∧
    (s.completeCommit).control = s.control ∧ (s.completeCommit).time = s.time ∧ (s.completeCommit).free = s.free ∧
    (s.completeCommit).pending = s.pending := by
  simp [State.completeCommit]

end Sys2Proof.Machine
end

