-- ==== Sys2Proof/Laws/Memory.lean ====
section
/-! SUPPORT. The laws of the book's memory: a byte reads as it was last written, the other bytes are unchanged, and every
operation keeps the canonical form. -/

namespace Sys2Proof.Machine

/-! ### One byte -/

theorem Memory.read_of_wfFrom : ∀ (m : Memory) (lo x : Nat), Memory.wfFrom lo m = true → x < lo → m.read x = 0
  | [], _, _, _, _ => rfl
  | (a, b) :: m, lo, x, h, hx => by
    simp only [Memory.wfFrom, Bool.and_eq_true, decide_eq_true_eq] at h
    have ha : a ≠ x := by omega
    simp only [Memory.read, ha, if_false]
    exact Memory.read_of_wfFrom m (a + 1) x h.2 (by omega)

/-- What a byte reads after a write to a memory in canonical form. -/
theorem Memory.read_write_from : ∀ (m : Memory) (lo x y : Nat) (v : Byte), Memory.wfFrom lo m = true →
    (m.write x v).read y = if y = x then v else m.read y
  | [], _, x, y, v, _ => by
    unfold Memory.write
    by_cases hy : y = x
    · subst hy
      by_cases hv : v = 0
      · rw [if_pos hv, if_pos rfl, hv]; rfl
      · rw [if_neg hv]; simp [Memory.read]
    · have hx : ¬ x = y := fun e => hy e.symm
      by_cases hv : v = 0
      · rw [if_pos hv, if_neg hy]
      · rw [if_neg hv, if_neg hy]; simp [Memory.read, hx]
  | (a, b) :: m, lo, x, y, v, h => by
    have hw := h
    simp only [Memory.wfFrom, Bool.and_eq_true, decide_eq_true_eq] at h
    unfold Memory.write
    by_cases hxa : x < a
    · simp only [hxa, if_true]
      by_cases hv : v = 0
      · simp only [hv, if_true]
        by_cases hy : y = x
        · subst hy
          simp only [if_true]
          have : a ≠ y := by omega
          simp only [Memory.read, this, if_false]
          exact Memory.read_of_wfFrom m (a + 1) y h.2 (by omega)
        · simp [hy]
      · simp only [hv, if_false]
        by_cases hy : y = x
        · subst hy; simp [Memory.read]
        · have : ¬ x = y := fun e => hy e.symm
          simp [Memory.read, hy, this]
    · simp only [hxa, if_false]
      by_cases hxe : x = a
      · subst hxe
        simp only [if_true]
        by_cases hv : v = 0
        · simp only [hv, if_true]
          by_cases hy : y = x
          · subst hy
            simp only [if_true]
            exact Memory.read_of_wfFrom m (y + 1) y h.2 (by omega)
          · have : ¬ x = y := fun e => hy e.symm
            simp [Memory.read, hy, this]
        · simp only [hv, if_false]
          by_cases hy : y = x
          · subst hy; simp [Memory.read]
          · have : ¬ x = y := fun e => hy e.symm
            simp [Memory.read, hy, this]
      · simp only [hxe, if_false]
        have ih := Memory.read_write_from m (a + 1) x y v h.2
        by_cases hay : a = y
        · subst hay
          have : ¬ a = x := fun e => hxe e.symm
          simp [Memory.read, this]
        · simp [Memory.read, hay, ih]

/-- Read after write. -/
theorem Memory.read_write (m : Memory) (x y : Nat) (v : Byte) (h : m.wf = true) :
    (m.write x v).read y = if y = x then v else m.read y := Memory.read_write_from m 0 x y v h

/-! ### The canonical form is kept -/

theorem Memory.wfFrom_mono : ∀ (m : Memory) (lo lo' : Nat), lo' ≤ lo → Memory.wfFrom lo m = true →
    Memory.wfFrom lo' m = true
  | [], _, _, _, _ => rfl
  | (a, b) :: m, lo, lo', hl, h => by
    simp only [Memory.wfFrom, Bool.and_eq_true, decide_eq_true_eq] at h ⊢
    exact ⟨⟨⟨by omega, h.1.1.2⟩, h.1.2⟩, h.2⟩

theorem Memory.write_wfFrom : ∀ (m : Memory) (lo x : Nat) (v : Byte), Memory.wfFrom lo m = true → lo ≤ x →
    x < 0x10000 → Memory.wfFrom lo (m.write x v) = true
  | [], lo, x, v, _, hlo, hx => by
    unfold Memory.write
    by_cases hv : v = 0
    · rw [if_pos hv]; rfl
    · rw [if_neg hv]
      simp only [Memory.wfFrom, Bool.and_eq_true, decide_eq_true_eq]
      exact ⟨⟨⟨hlo, hx⟩, hv⟩, trivial⟩
  | (a, b) :: m, lo, x, v, h, hlo, hx => by
    have hw := h
    simp only [Memory.wfFrom, Bool.and_eq_true, decide_eq_true_eq] at h
    unfold Memory.write
    by_cases hxa : x < a
    · simp only [hxa, if_true]
      by_cases hv : v = 0
      · simpa [hv] using hw
      · simp only [hv, if_false]
        simp only [Memory.wfFrom, Bool.and_eq_true, decide_eq_true_eq]
        exact ⟨⟨⟨hlo, hx⟩, hv⟩, ⟨⟨by omega, h.1.1.2⟩, h.1.2⟩, h.2⟩
    · simp only [hxa, if_false]
      by_cases hxe : x = a
      · subst hxe
        simp only [if_true]
        by_cases hv : v = 0
        · simp only [hv, if_true]
          exact Memory.wfFrom_mono m (x + 1) lo (by omega) h.2
        · simp only [hv, if_false]
          simp only [Memory.wfFrom, Bool.and_eq_true, decide_eq_true_eq]
          exact ⟨⟨⟨hlo, hx⟩, hv⟩, h.2⟩
      · simp only [hxe, if_false]
        simp only [Memory.wfFrom, Bool.and_eq_true, decide_eq_true_eq]
        exact ⟨h.1, Memory.write_wfFrom m (a + 1) x v h.2 (by omega) hx⟩

theorem Memory.write_wf (m : Memory) (x : Nat) (v : Byte) (h : m.wf = true) (hx : x < 0x10000) :
    (m.write x v).wf = true := Memory.write_wfFrom m 0 x v h (Nat.zero_le x) hx

theorem Memory.writeWord_wf (m : Memory) (a : Nat) (v : Word) (h : m.wf = true) (ha : a + 4 ≤ 0x10000) :
    (m.writeWord a v).wf = true := by
  unfold Memory.writeWord
  exact Memory.write_wf _ _ _ (Memory.write_wf _ _ _ (Memory.write_wf _ _ _ (Memory.write_wf _ _ _ h (by omega))
    (by omega)) (by omega)) (by omega)

theorem Memory.returnInFlight_wfFrom : ∀ (m : Memory) (lo : Nat), Memory.wfFrom lo m = true →
    Memory.wfFrom lo m.returnInFlight = true
  | [], _, _ => rfl
  | (a, b) :: m, lo, h => by
    simp only [Memory.wfFrom, Bool.and_eq_true, decide_eq_true_eq] at h
    have ih := Memory.returnInFlight_wfFrom m (a + 1) h.2
    unfold Memory.returnInFlight at ih ⊢
    rw [List.map_cons]
    by_cases hc : 0x0800 ≤ a ∧ a % 64 = 0 ∧ 2 ≤ b.toNat ∧ b.toNat ≤ 5
    · simp only [hc, and_self, if_true, Memory.wfFrom, Bool.and_eq_true, decide_eq_true_eq]
      exact ⟨⟨h.1.1, by decide⟩, ih⟩
    · simp only [hc, if_false, Memory.wfFrom, Bool.and_eq_true, decide_eq_true_eq]
      exact ⟨h.1, ih⟩

theorem Memory.returnInFlight_wf (m : Memory) (h : m.wf = true) : m.returnInFlight.wf = true :=
  Memory.returnInFlight_wfFrom m 0 h

theorem Memory.powerOn_wf : Memory.powerOn.wf = true := by decide

/-! ### Words -/

/-- A byte after a word has been written. -/
theorem Memory.read_writeWord (m : Memory) (a y : Nat) (v : Word) (h : m.wf = true) (ha : a + 4 ≤ 0x10000) :
    (m.writeWord a v).read y =
      if y = a + 3 then v.extractLsb' 24 8 else if y = a + 2 then v.extractLsb' 16 8
      else if y = a + 1 then v.extractLsb' 8 8 else if y = a then v.extractLsb' 0 8 else m.read y := by
  have h0 := Memory.write_wf m a (v.extractLsb' 0 8) h (by omega)
  have h1 := Memory.write_wf _ (a + 1) (v.extractLsb' 8 8) h0 (by omega)
  have h2 := Memory.write_wf _ (a + 2) (v.extractLsb' 16 8) h1 (by omega)
  unfold Memory.writeWord
  rw [Memory.read_write _ _ _ _ h2, Memory.read_write _ _ _ _ h1, Memory.read_write _ _ _ _ h0, Memory.read_write _ _ _ _ h]

/-- A byte outside the word written reads as before. -/
theorem Memory.read_writeWord_other (m : Memory) (a y : Nat) (v : Word) (h : m.wf = true) (ha : a + 4 ≤ 0x10000)
    (hy : y < a ∨ a + 4 ≤ y) : (m.writeWord a v).read y = m.read y := by
  rw [Memory.read_writeWord m a y v h ha, if_neg (by omega), if_neg (by omega), if_neg (by omega), if_neg (by omega)]

/-- The four bytes of a word, joined, are the word. -/
theorem join_bytes (v : Word) :
    (v.extractLsb' 24 8 ++ (v.extractLsb' 16 8 ++ (v.extractLsb' 8 8 ++ v.extractLsb' 0 8))) = v := by
  apply BitVec.eq_of_getLsbD_eq
  intro i hi
  simp only [BitVec.getLsbD_append, BitVec.getLsbD_extractLsb']
  by_cases h3 : i < 24
  · by_cases h2 : i < 16
    · by_cases h1 : i < 8
      · simp [h1, h2, h3]
      · simp [h1, h2, h3, show i - 8 < 8 by omega, show 8 + (i - 8) = i by omega]
    · simp [h2, h3, show i - 16 < 8 by omega, show 16 + (i - 16) = i by omega]
  · simp [h3, show i - 24 < 8 by omega, show 24 + (i - 24) = i by omega]

/-- A word reads as it was written. -/
theorem Memory.readWord_writeWord (m : Memory) (a : Nat) (v : Word) (h : m.wf = true) (ha : a + 4 ≤ 0x10000) :
    (m.writeWord a v).readWord a = v := by
  unfold Memory.readWord
  simpa [Memory.read_writeWord m a _ v h ha] using join_bytes v

/-- A word that does not overlap the word written reads as before. -/
theorem Memory.readWord_writeWord_other (m : Memory) (a b : Nat) (v : Word) (h : m.wf = true) (ha : a + 4 ≤ 0x10000)
    (hb : b + 4 ≤ a ∨ a + 4 ≤ b) : (m.writeWord a v).readWord b = m.readWord b := by
  unfold Memory.readWord
  rw [Memory.read_writeWord_other m a (b + 3) v h ha (by omega), Memory.read_writeWord_other m a (b + 2) v h ha (by omega),
    Memory.read_writeWord_other m a (b + 1) v h ha (by omega), Memory.read_writeWord_other m a b v h ha (by omega)]

end Sys2Proof.Machine
end

