-- ==== Sys2Proof/Laws/Canonical.lean ====
section
/-! SUPPORT. Every operation that writes the book keeps its memory in canonical form. -/

namespace Sys2Proof.Machine

/-- The words of an entry lie in the 64 KiB window (R2). -/
@[simp] theorem entryAddr_fits (i : EntryIx) (w : Nat) (h : w < 16) : entryAddr i w + 4 ≤ 65536 := by
  unfold entryAddr
  omega

/-- The words of a course record lie in the window (R2). -/
@[simp] theorem courseAddr_fits (k : Slot) (w : Nat) (h : w < 16) : courseAddr k w + 4 ≤ 65536 := by
  unfold courseAddr
  omega

/-- The words of the calibration image lie in the window (R2). -/
@[simp] theorem imageAddr_fits (j : Fin 32) : imageAddr j.val + 4 ≤ 65536 := by
  unfold imageAddr
  omega

@[simp] theorem jogAddr_fits (a : Axis) : jogAddr a + 4 ≤ 65536 := by cases a <;> decide

@[simp] theorem profileAddr_fits (f : ProfileField) : profileAddr f + 4 ≤ 65536 := by cases f <;> decide

theorem entryWordNumber_lt (w : EntryWord) : entryWordNumber w < 16 := by cases w <;> decide

theorem courseWordNumber_lt (w : CourseWord) : courseWordNumber w < 16 := by cases w <;> decide

/-- What every step of a fold keeps true, the fold keeps true. -/
theorem foldl_holds {α : Type} (f : State → α → State) (p : State → Prop) (h : ∀ s x, p s → p (f s x)) :
    ∀ (l : List α) (s : State), p s → p (l.foldl f s)
  | [], _, hs => hs
  | x :: l, s, hs => foldl_holds f p h l (f s x) (h s x hs)

@[simp] theorem State.setWord_wf (s : State) (a : Nat) (v : Word) (ha : a + 4 ≤ 65536) (h : s.book.cells.wf = true) :
    (s.setWord a v).book.cells.wf = true := by
  exact Memory.writeWord_wf _ _ _ h ha

@[simp] theorem State.setEntryState_wf (s : State) (i : EntryIx) (e : EntryState) (h : s.book.cells.wf = true) :
    (s.setEntryState i e).book.cells.wf = true := by
  simp [State.setEntryState, h]

@[simp] theorem State.moveEntry_wf (s : State) (i : EntryIx) (e1 e2 : EntryState) (h : s.book.cells.wf = true) :
    (s.moveEntry i e1 e2).book.cells.wf = true := by
  unfold State.moveEntry
  split <;> simp [h]

@[simp] theorem State.setAttempt_wf (s : State) (i : EntryIx) (n : Nat) (r : Reason) (h : s.book.cells.wf = true) :
    (s.setAttempt i n r).book.cells.wf = true := by
  simp [State.setAttempt, h]

@[simp] theorem State.setResult_wf (s : State) (i : EntryIx) (r : ResultCode) (h : s.book.cells.wf = true) :
    (s.setResult i r).book.cells.wf = true := by
  simp [State.setResult, h]

@[simp] theorem State.finishEntry_wf (s : State) (i : EntryIx) (e : EntryState) (r : ResultCode) (h : s.book.cells.wf = true) :
    (s.finishEntry i e r).book.cells.wf = true := by
  unfold State.finishEntry
  all_goals
    try simp
    repeat first | with_reducible exact h | with_reducible refine State.setWord_wf _ _ _ (by simp) ?_ | with_reducible refine State.setEntryState_wf _ _ _ ?_ | with_reducible refine State.moveEntry_wf _ _ _ _ ?_ | with_reducible refine State.setAttempt_wf _ _ _ _ ?_ | with_reducible refine State.setResult_wf _ _ _ ?_

@[simp] theorem State.clearPartFields_wf (s : State) (i : EntryIx) (h : s.book.cells.wf = true) :
    (s.clearPartFields i).book.cells.wf = true := by
  unfold State.clearPartFields
  all_goals
    try simp
    repeat first | with_reducible exact h | with_reducible refine State.setWord_wf _ _ _ (by simp) ?_ | with_reducible refine State.setEntryState_wf _ _ _ ?_ | with_reducible refine State.moveEntry_wf _ _ _ _ ?_ | with_reducible refine State.setAttempt_wf _ _ _ _ ?_ | with_reducible refine State.setResult_wf _ _ _ ?_ | with_reducible refine State.finishEntry_wf _ _ _ _ ?_

@[simp] theorem State.setCourseState_wf (s : State) (k : Slot) (c : CourseState) (h : s.book.cells.wf = true) :
    (s.setCourseState k c).book.cells.wf = true := by
  simp [State.setCourseState, h]

@[simp] theorem State.bumpCourse_wf (s : State) (k : Slot) (h : s.book.cells.wf = true) :
    (s.bumpCourse k).book.cells.wf = true := by
  simp [State.bumpCourse, h]

@[simp] theorem State.setCourseFigures_wf (s : State) (k : Slot) (f : CourseFigures) (h : s.book.cells.wf = true) :
    (s.setCourseFigures k f).book.cells.wf = true := by
  unfold State.setCourseFigures
  all_goals
    try simp
    repeat first | with_reducible exact h | with_reducible refine State.setWord_wf _ _ _ (by simp) ?_ | with_reducible refine State.setEntryState_wf _ _ _ ?_ | with_reducible refine State.moveEntry_wf _ _ _ _ ?_ | with_reducible refine State.setAttempt_wf _ _ _ _ ?_ | with_reducible refine State.setResult_wf _ _ _ ?_ | with_reducible refine State.finishEntry_wf _ _ _ _ ?_ | with_reducible refine State.clearPartFields_wf _ _ ?_ | with_reducible refine State.setCourseState_wf _ _ _ ?_ | with_reducible refine State.bumpCourse_wf _ _ ?_

@[simp] theorem State.writeProfile_wf (s : State) (w : LatchWrite) (h : s.book.cells.wf = true) :
    (s.writeProfile w).book.cells.wf = true := by
  simp [State.writeProfile, h]

@[simp] theorem State.afterWrites_wf (s : State) (ws : List LatchWrite) (h : s.book.cells.wf = true) :
    (s.afterWrites ws).book.cells.wf = true := by
  unfold State.afterWrites
  exact foldl_holds State.writeProfile (fun t => t.book.cells.wf = true) (fun t x ht => by simp [ht]) ws _ (by simp [h])

@[simp] theorem State.asLatched_wf (s : State) (ws : List LatchWrite) (h : s.book.cells.wf = true) :
    (s.asLatched ws).book.cells.wf = true := by
  unfold State.asLatched
  exact foldl_holds State.writeProfile (fun t => t.book.cells.wf = true) (fun t x ht => by simp [ht]) (ws.filter fun w => w.seen) _ (by simp [h])

@[simp] theorem State.latchProfile_wf (s : State) (ws : List LatchWrite) (h : s.book.cells.wf = true) :
    (s.latchProfile ws).book.cells.wf = true := by
  simp [State.latchProfile, h]

@[simp] theorem State.closeCourse_wf (s : State) (k : Slot) (h : s.book.cells.wf = true) :
    (s.closeCourse k).book.cells.wf = true := by
  unfold State.closeCourse
  all_goals
    try simp
    repeat first | with_reducible exact h | with_reducible refine State.setWord_wf _ _ _ (by simp) ?_ | with_reducible refine State.setEntryState_wf _ _ _ ?_ | with_reducible refine State.moveEntry_wf _ _ _ _ ?_ | with_reducible refine State.setAttempt_wf _ _ _ _ ?_ | with_reducible refine State.setResult_wf _ _ _ ?_ | with_reducible refine State.finishEntry_wf _ _ _ _ ?_ | with_reducible refine State.clearPartFields_wf _ _ ?_ | with_reducible refine State.setCourseState_wf _ _ _ ?_ | with_reducible refine State.bumpCourse_wf _ _ ?_ | with_reducible refine State.setCourseFigures_wf _ _ _ ?_ | with_reducible refine State.writeProfile_wf _ _ ?_ | with_reducible refine State.afterWrites_wf _ _ ?_ | with_reducible refine State.asLatched_wf _ _ ?_ | with_reducible refine State.latchProfile_wf _ _ ?_

@[simp] theorem State.countTerminal_wf (s : State) (i : EntryIx) (e : EntryState) (h : s.book.cells.wf = true) :
    (s.countTerminal i e).book.cells.wf = true := by
  unfold State.countTerminal
  dsimp only
  repeat' split
  all_goals
    repeat first | with_reducible exact h | with_reducible refine State.setWord_wf _ _ _ (by simp) ?_ | with_reducible refine State.setEntryState_wf _ _ _ ?_ | with_reducible refine State.moveEntry_wf _ _ _ _ ?_ | with_reducible refine State.setAttempt_wf _ _ _ _ ?_ | with_reducible refine State.setResult_wf _ _ _ ?_ | with_reducible refine State.finishEntry_wf _ _ _ _ ?_ | with_reducible refine State.clearPartFields_wf _ _ ?_ | with_reducible refine State.setCourseState_wf _ _ _ ?_ | with_reducible refine State.bumpCourse_wf _ _ ?_ | with_reducible refine State.setCourseFigures_wf _ _ _ ?_ | with_reducible refine State.writeProfile_wf _ _ ?_ | with_reducible refine State.afterWrites_wf _ _ ?_ | with_reducible refine State.asLatched_wf _ _ ?_ | with_reducible refine State.latchProfile_wf _ _ ?_ | with_reducible refine State.closeCourse_wf _ _ ?_ | split | simp

@[simp] theorem State.uncountTerminal_wf (s : State) (i : EntryIx) (e : EntryState) (h : s.book.cells.wf = true) :
    (s.uncountTerminal i e).book.cells.wf = true := by
  unfold State.uncountTerminal
  repeat' split
  all_goals simp [h]

@[simp] theorem State.cancelEntry_wf (s : State) (i : EntryIx) (h : s.book.cells.wf = true) :
    (s.cancelEntry i).book.cells.wf = true := by
  simp [State.cancelEntry, h]

@[simp] theorem State.cancelIfClosing_wf (s : State) (i : EntryIx) (h : s.book.cells.wf = true) :
    (s.cancelIfClosing i).book.cells.wf = true := by
  unfold State.cancelIfClosing
  repeat' split
  all_goals simp [h]

@[simp] theorem State.returnToPosted_wf (s : State) (i : EntryIx) (h : s.book.cells.wf = true) :
    (s.returnToPosted i).book.cells.wf = true := by
  simp [State.returnToPosted, h]

@[simp] theorem State.cancelOpenEntry_wf (s : State) (i : EntryIx) (h : s.book.cells.wf = true) :
    (s.cancelOpenEntry i).book.cells.wf = true := by
  unfold State.cancelOpenEntry
  split <;> simp [h]

@[simp] theorem State.requestClose_wf (s : State) (k : Slot) (h : s.book.cells.wf = true) :
    (s.requestClose k).book.cells.wf = true := by
  unfold State.requestClose
  exact foldl_holds State.cancelOpenEntry (fun t => t.book.cells.wf = true) (fun t x ht => by simp [ht]) (s.courseEntries k) _ (by simp [h])

@[simp] theorem State.lateBookWrite_wf (s : State) (w : LateWrite) (h : s.book.cells.wf = true) :
    (s.lateBookWrite w).book.cells.wf = true := by
  unfold State.lateBookWrite
  repeat' split
  all_goals simp [h]

@[simp] theorem State.lateWrites_wf (s : State) (k : Slot) (ws : List LateWrite) (f : CourseFigures) (h : s.book.cells.wf = true) :
    (s.lateWrites k ws f).1.book.cells.wf = true := by
  induction ws generalizing s f with
  | nil => simpa [State.lateWrites] using h
  | cons w ws ih => simp [State.lateWrites, ih, h]

@[simp] theorem State.closeInvalid_wf (s : State) (k : Slot) (h : s.book.cells.wf = true) :
    (s.closeInvalid k).book.cells.wf = true := by
  unfold State.closeInvalid
  all_goals
    try simp
    repeat first | with_reducible exact h | with_reducible refine State.setWord_wf _ _ _ (by simp) ?_ | with_reducible refine State.setEntryState_wf _ _ _ ?_ | with_reducible refine State.moveEntry_wf _ _ _ _ ?_ | with_reducible refine State.setAttempt_wf _ _ _ _ ?_ | with_reducible refine State.setResult_wf _ _ _ ?_ | with_reducible refine State.finishEntry_wf _ _ _ _ ?_ | with_reducible refine State.clearPartFields_wf _ _ ?_ | with_reducible refine State.setCourseState_wf _ _ _ ?_ | with_reducible refine State.bumpCourse_wf _ _ ?_ | with_reducible refine State.setCourseFigures_wf _ _ _ ?_ | with_reducible refine State.writeProfile_wf _ _ ?_ | with_reducible refine State.afterWrites_wf _ _ ?_ | with_reducible refine State.asLatched_wf _ _ ?_ | with_reducible refine State.latchProfile_wf _ _ ?_ | with_reducible refine State.closeCourse_wf _ _ ?_ | with_reducible refine State.countTerminal_wf _ _ _ ?_ | with_reducible refine State.uncountTerminal_wf _ _ _ ?_ | with_reducible refine State.cancelEntry_wf _ _ ?_ | with_reducible refine State.cancelIfClosing_wf _ _ ?_ | with_reducible refine State.returnToPosted_wf _ _ ?_ | with_reducible refine State.cancelOpenEntry_wf _ _ ?_ | with_reducible refine State.requestClose_wf _ _ ?_ | with_reducible refine State.lateBookWrite_wf _ _ ?_

@[simp] theorem State.openActive_wf (s : State) (k : Slot) (f : CourseFigures) (h : s.book.cells.wf = true) :
    (s.openActive k f).book.cells.wf = true := by
  unfold State.openActive
  dsimp only
  repeat' split
  all_goals
    repeat first | with_reducible exact h | with_reducible refine State.setWord_wf _ _ _ (by simp) ?_ | with_reducible refine State.setEntryState_wf _ _ _ ?_ | with_reducible refine State.moveEntry_wf _ _ _ _ ?_ | with_reducible refine State.setAttempt_wf _ _ _ _ ?_ | with_reducible refine State.setResult_wf _ _ _ ?_ | with_reducible refine State.finishEntry_wf _ _ _ _ ?_ | with_reducible refine State.clearPartFields_wf _ _ ?_ | with_reducible refine State.setCourseState_wf _ _ _ ?_ | with_reducible refine State.bumpCourse_wf _ _ ?_ | with_reducible refine State.setCourseFigures_wf _ _ _ ?_ | with_reducible refine State.writeProfile_wf _ _ ?_ | with_reducible refine State.afterWrites_wf _ _ ?_ | with_reducible refine State.asLatched_wf _ _ ?_ | with_reducible refine State.latchProfile_wf _ _ ?_ | with_reducible refine State.closeCourse_wf _ _ ?_ | with_reducible refine State.countTerminal_wf _ _ _ ?_ | with_reducible refine State.uncountTerminal_wf _ _ _ ?_ | with_reducible refine State.cancelEntry_wf _ _ ?_ | with_reducible refine State.cancelIfClosing_wf _ _ ?_ | with_reducible refine State.returnToPosted_wf _ _ ?_ | with_reducible refine State.cancelOpenEntry_wf _ _ ?_ | with_reducible refine State.requestClose_wf _ _ ?_ | with_reducible refine State.lateBookWrite_wf _ _ ?_ | with_reducible refine State.closeInvalid_wf _ _ ?_ | split | simp

@[simp] theorem State.activate_wf (s : State) (k : Slot) (late : List LateWrite) (h : s.book.cells.wf = true) :
    (s.activate k late).book.cells.wf = true := by
  unfold State.activate
  split <;> simp [h]

@[simp] theorem State.displace_wf (s : State) (r : IssueRecord) (h : s.book.cells.wf = true) :
    (s.displace r).book.cells.wf = true := by
  simp [State.displace, h]

@[simp] theorem State.displaceAll_wf (s : State) (l : List IssueRecord) (h : s.book.cells.wf = true) :
    (s.displaceAll l).book.cells.wf = true := by
  unfold State.displaceAll
  exact foldl_holds State.displace (fun t => t.book.cells.wf = true) (fun t x ht => by simp [ht]) l _ (by simp [h])

@[simp] theorem State.retry_wf (s : State) (i : EntryIx) (h : s.book.cells.wf = true) :
    (s.retry i).book.cells.wf = true := by
  unfold State.retry
  dsimp only
  repeat' split
  all_goals simp [h]

@[simp] theorem State.failFinally_wf (s : State) (i : EntryIx) (r : Reason) (h : s.book.cells.wf = true) :
    (s.failFinally i r).book.cells.wf = true := by
  simp [State.failFinally, h]

@[simp] theorem State.attemptFailure_wf (s : State) (i : EntryIx) (r : Reason) (h : s.book.cells.wf = true) :
    (s.attemptFailure i r).book.cells.wf = true := by
  unfold State.attemptFailure
  dsimp only
  repeat' split
  all_goals simp [h]

@[simp] theorem State.failAttempt_wf (s : State) (i : EntryIx) (r : Reason) (h : s.book.cells.wf = true) :
    (s.failAttempt i r).book.cells.wf = true := by
  simp [State.failAttempt, h]

@[simp] theorem State.emptyList_wf (s : State) (h : s.book.cells.wf = true) :
    (s.emptyList).book.cells.wf = true := by
  unfold State.emptyList
  exact foldl_holds State.displace (fun t => t.book.cells.wf = true) (fun t x ht => by simp [ht]) s.issue.list _ (by simp [h])

@[simp] theorem State.enterHalt_wf (s : State) (h : s.book.cells.wf = true) :
    (s.enterHalt).book.cells.wf = true := by
  simp [State.enterHalt, h]

@[simp] theorem State.requestHalt_wf (s : State) (h : s.book.cells.wf = true) :
    (s.requestHalt).book.cells.wf = true := by
  unfold State.requestHalt
  split <;> simp [h]

@[simp] theorem State.trainFault_wf (s : State) (h : s.book.cells.wf = true) :
    (s.trainFault).book.cells.wf = true := by
  simp [State.trainFault, h]

@[simp] theorem State.recoverLoss_wf (s : State) (h : s.book.cells.wf = true) :
    (s.recoverLoss).book.cells.wf = true := by
  unfold State.recoverLoss
  repeat' split
  all_goals simp [h]

@[simp] theorem State.recoverIfLost_wf (s : State) (h : s.book.cells.wf = true) :
    (s.recoverIfLost).book.cells.wf = true := by
  unfold State.recoverIfLost
  split <;> simp [h]

@[simp] theorem State.enterLost_wf (s : State) (h : s.book.cells.wf = true) :
    (s.enterLost).book.cells.wf = true := by
  simp [State.enterLost, h]

@[simp] theorem State.expireLossIfDue_wf (s : State) (h : s.book.cells.wf = true) :
    (s.expireLossIfDue).book.cells.wf = true := by
  unfold State.expireLossIfDue
  repeat' split
  all_goals simp [h]

@[simp] theorem State.setApplied_wf (s : State) (i : EntryIx) (z : Int) (h : s.book.cells.wf = true) :
    (s.setApplied i z).book.cells.wf = true := by
  simp [State.setApplied, h]

@[simp] theorem State.takeDone_wf (s : State) (h : s.book.cells.wf = true) :
    (s.takeDone).book.cells.wf = true := by
  unfold State.takeDone
  dsimp only
  repeat' split
  all_goals
    repeat first | with_reducible exact h | with_reducible refine State.setWord_wf _ _ _ (by simp) ?_ | with_reducible refine State.setEntryState_wf _ _ _ ?_ | with_reducible refine State.moveEntry_wf _ _ _ _ ?_ | with_reducible refine State.setAttempt_wf _ _ _ _ ?_ | with_reducible refine State.setResult_wf _ _ _ ?_ | with_reducible refine State.finishEntry_wf _ _ _ _ ?_ | with_reducible refine State.clearPartFields_wf _ _ ?_ | with_reducible refine State.setCourseState_wf _ _ _ ?_ | with_reducible refine State.bumpCourse_wf _ _ ?_ | with_reducible refine State.setCourseFigures_wf _ _ _ ?_ | with_reducible refine State.writeProfile_wf _ _ ?_ | with_reducible refine State.afterWrites_wf _ _ ?_ | with_reducible refine State.asLatched_wf _ _ ?_ | with_reducible refine State.latchProfile_wf _ _ ?_ | with_reducible refine State.closeCourse_wf _ _ ?_ | with_reducible refine State.countTerminal_wf _ _ _ ?_ | with_reducible refine State.uncountTerminal_wf _ _ _ ?_ | with_reducible refine State.cancelEntry_wf _ _ ?_ | with_reducible refine State.cancelIfClosing_wf _ _ ?_ | with_reducible refine State.returnToPosted_wf _ _ ?_ | with_reducible refine State.cancelOpenEntry_wf _ _ ?_ | with_reducible refine State.requestClose_wf _ _ ?_ | with_reducible refine State.lateBookWrite_wf _ _ ?_ | with_reducible refine State.closeInvalid_wf _ _ ?_ | with_reducible refine State.openActive_wf _ _ _ ?_ | with_reducible refine State.activate_wf _ _ _ ?_ | with_reducible refine State.displace_wf _ _ ?_ | with_reducible refine State.displaceAll_wf _ _ ?_ | with_reducible refine State.retry_wf _ _ ?_ | with_reducible refine State.failFinally_wf _ _ _ ?_ | with_reducible refine State.attemptFailure_wf _ _ _ ?_ | with_reducible refine State.failAttempt_wf _ _ _ ?_ | with_reducible refine State.emptyList_wf _ ?_ | with_reducible refine State.enterHalt_wf _ ?_ | with_reducible refine State.requestHalt_wf _ ?_ | with_reducible refine State.trainFault_wf _ ?_ | with_reducible refine State.recoverLoss_wf _ ?_ | with_reducible refine State.recoverIfLost_wf _ ?_ | with_reducible refine State.enterLost_wf _ ?_ | with_reducible refine State.expireLossIfDue_wf _ ?_ | with_reducible refine State.setApplied_wf _ _ _ ?_ | split | simp

@[simp] theorem State.clearProbeFields_wf (s : State) (i : EntryIx) (h : s.book.cells.wf = true) :
    (s.clearProbeFields i).book.cells.wf = true := by
  unfold State.clearProbeFields
  all_goals
    try simp
    repeat first | with_reducible exact h | with_reducible refine State.setWord_wf _ _ _ (by simp) ?_ | with_reducible refine State.setEntryState_wf _ _ _ ?_ | with_reducible refine State.moveEntry_wf _ _ _ _ ?_ | with_reducible refine State.setAttempt_wf _ _ _ _ ?_ | with_reducible refine State.setResult_wf _ _ _ ?_ | with_reducible refine State.finishEntry_wf _ _ _ _ ?_ | with_reducible refine State.clearPartFields_wf _ _ ?_ | with_reducible refine State.setCourseState_wf _ _ _ ?_ | with_reducible refine State.bumpCourse_wf _ _ ?_ | with_reducible refine State.setCourseFigures_wf _ _ _ ?_ | with_reducible refine State.writeProfile_wf _ _ ?_ | with_reducible refine State.afterWrites_wf _ _ ?_ | with_reducible refine State.asLatched_wf _ _ ?_ | with_reducible refine State.latchProfile_wf _ _ ?_ | with_reducible refine State.closeCourse_wf _ _ ?_ | with_reducible refine State.countTerminal_wf _ _ _ ?_ | with_reducible refine State.uncountTerminal_wf _ _ _ ?_ | with_reducible refine State.cancelEntry_wf _ _ ?_ | with_reducible refine State.cancelIfClosing_wf _ _ ?_ | with_reducible refine State.returnToPosted_wf _ _ ?_ | with_reducible refine State.cancelOpenEntry_wf _ _ ?_ | with_reducible refine State.requestClose_wf _ _ ?_ | with_reducible refine State.lateBookWrite_wf _ _ ?_ | with_reducible refine State.closeInvalid_wf _ _ ?_ | with_reducible refine State.openActive_wf _ _ _ ?_ | with_reducible refine State.activate_wf _ _ _ ?_ | with_reducible refine State.displace_wf _ _ ?_ | with_reducible refine State.displaceAll_wf _ _ ?_ | with_reducible refine State.retry_wf _ _ ?_ | with_reducible refine State.failFinally_wf _ _ _ ?_ | with_reducible refine State.attemptFailure_wf _ _ _ ?_ | with_reducible refine State.failAttempt_wf _ _ _ ?_ | with_reducible refine State.emptyList_wf _ ?_ | with_reducible refine State.enterHalt_wf _ ?_ | with_reducible refine State.requestHalt_wf _ ?_ | with_reducible refine State.trainFault_wf _ ?_ | with_reducible refine State.recoverLoss_wf _ ?_ | with_reducible refine State.recoverIfLost_wf _ ?_ | with_reducible refine State.enterLost_wf _ ?_ | with_reducible refine State.expireLossIfDue_wf _ ?_ | with_reducible refine State.setApplied_wf _ _ _ ?_ | with_reducible refine State.takeDone_wf _ ?_

@[simp] theorem State.clearDeviation_wf (s : State) (i : EntryIx) (h : s.book.cells.wf = true) :
    (s.clearDeviation i).book.cells.wf = true := by
  unfold State.clearDeviation
  all_goals
    try simp
    repeat first | with_reducible exact h | with_reducible refine State.setWord_wf _ _ _ (by simp) ?_ | with_reducible refine State.setEntryState_wf _ _ _ ?_ | with_reducible refine State.moveEntry_wf _ _ _ _ ?_ | with_reducible refine State.setAttempt_wf _ _ _ _ ?_ | with_reducible refine State.setResult_wf _ _ _ ?_ | with_reducible refine State.finishEntry_wf _ _ _ _ ?_ | with_reducible refine State.clearPartFields_wf _ _ ?_ | with_reducible refine State.setCourseState_wf _ _ _ ?_ | with_reducible refine State.bumpCourse_wf _ _ ?_ | with_reducible refine State.setCourseFigures_wf _ _ _ ?_ | with_reducible refine State.writeProfile_wf _ _ ?_ | with_reducible refine State.afterWrites_wf _ _ ?_ | with_reducible refine State.asLatched_wf _ _ ?_ | with_reducible refine State.latchProfile_wf _ _ ?_ | with_reducible refine State.closeCourse_wf _ _ ?_ | with_reducible refine State.countTerminal_wf _ _ _ ?_ | with_reducible refine State.uncountTerminal_wf _ _ _ ?_ | with_reducible refine State.cancelEntry_wf _ _ ?_ | with_reducible refine State.cancelIfClosing_wf _ _ ?_ | with_reducible refine State.returnToPosted_wf _ _ ?_ | with_reducible refine State.cancelOpenEntry_wf _ _ ?_ | with_reducible refine State.requestClose_wf _ _ ?_ | with_reducible refine State.lateBookWrite_wf _ _ ?_ | with_reducible refine State.closeInvalid_wf _ _ ?_ | with_reducible refine State.openActive_wf _ _ _ ?_ | with_reducible refine State.activate_wf _ _ _ ?_ | with_reducible refine State.displace_wf _ _ ?_ | with_reducible refine State.displaceAll_wf _ _ ?_ | with_reducible refine State.retry_wf _ _ ?_ | with_reducible refine State.failFinally_wf _ _ _ ?_ | with_reducible refine State.attemptFailure_wf _ _ _ ?_ | with_reducible refine State.failAttempt_wf _ _ _ ?_ | with_reducible refine State.emptyList_wf _ ?_ | with_reducible refine State.enterHalt_wf _ ?_ | with_reducible refine State.requestHalt_wf _ ?_ | with_reducible refine State.trainFault_wf _ ?_ | with_reducible refine State.recoverLoss_wf _ ?_ | with_reducible refine State.recoverIfLost_wf _ ?_ | with_reducible refine State.enterLost_wf _ ?_ | with_reducible refine State.expireLossIfDue_wf _ ?_ | with_reducible refine State.setApplied_wf _ _ _ ?_ | with_reducible refine State.takeDone_wf _ ?_ | with_reducible refine State.clearProbeFields_wf _ _ ?_

@[simp] theorem State.setDeviation_wf (s : State) (i : EntryIx) (d : Pose) (h : s.book.cells.wf = true) :
    (s.setDeviation i d).book.cells.wf = true := by
  unfold State.setDeviation
  all_goals
    try simp
    repeat first | with_reducible exact h | with_reducible refine State.setWord_wf _ _ _ (by simp) ?_ | with_reducible refine State.setEntryState_wf _ _ _ ?_ | with_reducible refine State.moveEntry_wf _ _ _ _ ?_ | with_reducible refine State.setAttempt_wf _ _ _ _ ?_ | with_reducible refine State.setResult_wf _ _ _ ?_ | with_reducible refine State.finishEntry_wf _ _ _ _ ?_ | with_reducible refine State.clearPartFields_wf _ _ ?_ | with_reducible refine State.setCourseState_wf _ _ _ ?_ | with_reducible refine State.bumpCourse_wf _ _ ?_ | with_reducible refine State.setCourseFigures_wf _ _ _ ?_ | with_reducible refine State.writeProfile_wf _ _ ?_ | with_reducible refine State.afterWrites_wf _ _ ?_ | with_reducible refine State.asLatched_wf _ _ ?_ | with_reducible refine State.latchProfile_wf _ _ ?_ | with_reducible refine State.closeCourse_wf _ _ ?_ | with_reducible refine State.countTerminal_wf _ _ _ ?_ | with_reducible refine State.uncountTerminal_wf _ _ _ ?_ | with_reducible refine State.cancelEntry_wf _ _ ?_ | with_reducible refine State.cancelIfClosing_wf _ _ ?_ | with_reducible refine State.returnToPosted_wf _ _ ?_ | with_reducible refine State.cancelOpenEntry_wf _ _ ?_ | with_reducible refine State.requestClose_wf _ _ ?_ | with_reducible refine State.lateBookWrite_wf _ _ ?_ | with_reducible refine State.closeInvalid_wf _ _ ?_ | with_reducible refine State.openActive_wf _ _ _ ?_ | with_reducible refine State.activate_wf _ _ _ ?_ | with_reducible refine State.displace_wf _ _ ?_ | with_reducible refine State.displaceAll_wf _ _ ?_ | with_reducible refine State.retry_wf _ _ ?_ | with_reducible refine State.failFinally_wf _ _ _ ?_ | with_reducible refine State.attemptFailure_wf _ _ _ ?_ | with_reducible refine State.failAttempt_wf _ _ _ ?_ | with_reducible refine State.emptyList_wf _ ?_ | with_reducible refine State.enterHalt_wf _ ?_ | with_reducible refine State.requestHalt_wf _ ?_ | with_reducible refine State.trainFault_wf _ ?_ | with_reducible refine State.recoverLoss_wf _ ?_ | with_reducible refine State.recoverIfLost_wf _ ?_ | with_reducible refine State.enterLost_wf _ ?_ | with_reducible refine State.expireLossIfDue_wf _ ?_ | with_reducible refine State.setApplied_wf _ _ _ ?_ | with_reducible refine State.takeDone_wf _ ?_ | with_reducible refine State.clearProbeFields_wf _ _ ?_ | with_reducible refine State.clearDeviation_wf _ _ ?_

@[simp] theorem State.setSamples_wf (s : State) (i : EntryIx) (n : Nat) (h : s.book.cells.wf = true) :
    (s.setSamples i n).book.cells.wf = true := by
  simp [State.setSamples, h]

@[simp] theorem State.releaseDone_wf (s : State) (h : s.book.cells.wf = true) :
    (s.releaseDone).book.cells.wf = true := by
  unfold State.releaseDone
  dsimp only
  repeat' split
  all_goals
    repeat first | with_reducible exact h | with_reducible refine State.setWord_wf _ _ _ (by simp) ?_ | with_reducible refine State.setEntryState_wf _ _ _ ?_ | with_reducible refine State.moveEntry_wf _ _ _ _ ?_ | with_reducible refine State.setAttempt_wf _ _ _ _ ?_ | with_reducible refine State.setResult_wf _ _ _ ?_ | with_reducible refine State.finishEntry_wf _ _ _ _ ?_ | with_reducible refine State.clearPartFields_wf _ _ ?_ | with_reducible refine State.setCourseState_wf _ _ _ ?_ | with_reducible refine State.bumpCourse_wf _ _ ?_ | with_reducible refine State.setCourseFigures_wf _ _ _ ?_ | with_reducible refine State.writeProfile_wf _ _ ?_ | with_reducible refine State.afterWrites_wf _ _ ?_ | with_reducible refine State.asLatched_wf _ _ ?_ | with_reducible refine State.latchProfile_wf _ _ ?_ | with_reducible refine State.closeCourse_wf _ _ ?_ | with_reducible refine State.countTerminal_wf _ _ _ ?_ | with_reducible refine State.uncountTerminal_wf _ _ _ ?_ | with_reducible refine State.cancelEntry_wf _ _ ?_ | with_reducible refine State.cancelIfClosing_wf _ _ ?_ | with_reducible refine State.returnToPosted_wf _ _ ?_ | with_reducible refine State.cancelOpenEntry_wf _ _ ?_ | with_reducible refine State.requestClose_wf _ _ ?_ | with_reducible refine State.lateBookWrite_wf _ _ ?_ | with_reducible refine State.closeInvalid_wf _ _ ?_ | with_reducible refine State.openActive_wf _ _ _ ?_ | with_reducible refine State.activate_wf _ _ _ ?_ | with_reducible refine State.displace_wf _ _ ?_ | with_reducible refine State.displaceAll_wf _ _ ?_ | with_reducible refine State.retry_wf _ _ ?_ | with_reducible refine State.failFinally_wf _ _ _ ?_ | with_reducible refine State.attemptFailure_wf _ _ _ ?_ | with_reducible refine State.failAttempt_wf _ _ _ ?_ | with_reducible refine State.emptyList_wf _ ?_ | with_reducible refine State.enterHalt_wf _ ?_ | with_reducible refine State.requestHalt_wf _ ?_ | with_reducible refine State.trainFault_wf _ ?_ | with_reducible refine State.recoverLoss_wf _ ?_ | with_reducible refine State.recoverIfLost_wf _ ?_ | with_reducible refine State.enterLost_wf _ ?_ | with_reducible refine State.expireLossIfDue_wf _ ?_ | with_reducible refine State.setApplied_wf _ _ _ ?_ | with_reducible refine State.takeDone_wf _ ?_ | with_reducible refine State.clearProbeFields_wf _ _ ?_ | with_reducible refine State.clearDeviation_wf _ _ ?_ | with_reducible refine State.setDeviation_wf _ _ _ ?_ | with_reducible refine State.setSamples_wf _ _ _ ?_ | split | simp

@[simp] theorem State.setProbe_wf (s : State) (i : EntryIx) (a b : Int) (h : s.book.cells.wf = true) :
    (s.setProbe i a b).book.cells.wf = true := by
  unfold State.setProbe
  all_goals
    try simp
    repeat first | with_reducible exact h | with_reducible refine State.setWord_wf _ _ _ (by simp) ?_ | with_reducible refine State.setEntryState_wf _ _ _ ?_ | with_reducible refine State.moveEntry_wf _ _ _ _ ?_ | with_reducible refine State.setAttempt_wf _ _ _ _ ?_ | with_reducible refine State.setResult_wf _ _ _ ?_ | with_reducible refine State.finishEntry_wf _ _ _ _ ?_ | with_reducible refine State.clearPartFields_wf _ _ ?_ | with_reducible refine State.setCourseState_wf _ _ _ ?_ | with_reducible refine State.bumpCourse_wf _ _ ?_ | with_reducible refine State.setCourseFigures_wf _ _ _ ?_ | with_reducible refine State.writeProfile_wf _ _ ?_ | with_reducible refine State.afterWrites_wf _ _ ?_ | with_reducible refine State.asLatched_wf _ _ ?_ | with_reducible refine State.latchProfile_wf _ _ ?_ | with_reducible refine State.closeCourse_wf _ _ ?_ | with_reducible refine State.countTerminal_wf _ _ _ ?_ | with_reducible refine State.uncountTerminal_wf _ _ _ ?_ | with_reducible refine State.cancelEntry_wf _ _ ?_ | with_reducible refine State.cancelIfClosing_wf _ _ ?_ | with_reducible refine State.returnToPosted_wf _ _ ?_ | with_reducible refine State.cancelOpenEntry_wf _ _ ?_ | with_reducible refine State.requestClose_wf _ _ ?_ | with_reducible refine State.lateBookWrite_wf _ _ ?_ | with_reducible refine State.closeInvalid_wf _ _ ?_ | with_reducible refine State.openActive_wf _ _ _ ?_ | with_reducible refine State.activate_wf _ _ _ ?_ | with_reducible refine State.displace_wf _ _ ?_ | with_reducible refine State.displaceAll_wf _ _ ?_ | with_reducible refine State.retry_wf _ _ ?_ | with_reducible refine State.failFinally_wf _ _ _ ?_ | with_reducible refine State.attemptFailure_wf _ _ _ ?_ | with_reducible refine State.failAttempt_wf _ _ _ ?_ | with_reducible refine State.emptyList_wf _ ?_ | with_reducible refine State.enterHalt_wf _ ?_ | with_reducible refine State.requestHalt_wf _ ?_ | with_reducible refine State.trainFault_wf _ ?_ | with_reducible refine State.recoverLoss_wf _ ?_ | with_reducible refine State.recoverIfLost_wf _ ?_ | with_reducible refine State.enterLost_wf _ ?_ | with_reducible refine State.expireLossIfDue_wf _ ?_ | with_reducible refine State.setApplied_wf _ _ _ ?_ | with_reducible refine State.takeDone_wf _ ?_ | with_reducible refine State.clearProbeFields_wf _ _ ?_ | with_reducible refine State.clearDeviation_wf _ _ ?_ | with_reducible refine State.setDeviation_wf _ _ _ ?_ | with_reducible refine State.setSamples_wf _ _ _ ?_ | with_reducible refine State.releaseDone_wf _ ?_

@[simp] theorem State.probeDone_wf (s : State) (n : Nat) (h : s.book.cells.wf = true) :
    (s.probeDone n).book.cells.wf = true := by
  unfold State.probeDone
  dsimp only
  repeat' split
  all_goals
    repeat first | with_reducible exact h | with_reducible refine State.setWord_wf _ _ _ (by simp) ?_ | with_reducible refine State.setEntryState_wf _ _ _ ?_ | with_reducible refine State.moveEntry_wf _ _ _ _ ?_ | with_reducible refine State.setAttempt_wf _ _ _ _ ?_ | with_reducible refine State.setResult_wf _ _ _ ?_ | with_reducible refine State.finishEntry_wf _ _ _ _ ?_ | with_reducible refine State.clearPartFields_wf _ _ ?_ | with_reducible refine State.setCourseState_wf _ _ _ ?_ | with_reducible refine State.bumpCourse_wf _ _ ?_ | with_reducible refine State.setCourseFigures_wf _ _ _ ?_ | with_reducible refine State.writeProfile_wf _ _ ?_ | with_reducible refine State.afterWrites_wf _ _ ?_ | with_reducible refine State.asLatched_wf _ _ ?_ | with_reducible refine State.latchProfile_wf _ _ ?_ | with_reducible refine State.closeCourse_wf _ _ ?_ | with_reducible refine State.countTerminal_wf _ _ _ ?_ | with_reducible refine State.uncountTerminal_wf _ _ _ ?_ | with_reducible refine State.cancelEntry_wf _ _ ?_ | with_reducible refine State.cancelIfClosing_wf _ _ ?_ | with_reducible refine State.returnToPosted_wf _ _ ?_ | with_reducible refine State.cancelOpenEntry_wf _ _ ?_ | with_reducible refine State.requestClose_wf _ _ ?_ | with_reducible refine State.lateBookWrite_wf _ _ ?_ | with_reducible refine State.closeInvalid_wf _ _ ?_ | with_reducible refine State.openActive_wf _ _ _ ?_ | with_reducible refine State.activate_wf _ _ _ ?_ | with_reducible refine State.displace_wf _ _ ?_ | with_reducible refine State.displaceAll_wf _ _ ?_ | with_reducible refine State.retry_wf _ _ ?_ | with_reducible refine State.failFinally_wf _ _ _ ?_ | with_reducible refine State.attemptFailure_wf _ _ _ ?_ | with_reducible refine State.failAttempt_wf _ _ _ ?_ | with_reducible refine State.emptyList_wf _ ?_ | with_reducible refine State.enterHalt_wf _ ?_ | with_reducible refine State.requestHalt_wf _ ?_ | with_reducible refine State.trainFault_wf _ ?_ | with_reducible refine State.recoverLoss_wf _ ?_ | with_reducible refine State.recoverIfLost_wf _ ?_ | with_reducible refine State.enterLost_wf _ ?_ | with_reducible refine State.expireLossIfDue_wf _ ?_ | with_reducible refine State.setApplied_wf _ _ _ ?_ | with_reducible refine State.takeDone_wf _ ?_ | with_reducible refine State.clearProbeFields_wf _ _ ?_ | with_reducible refine State.clearDeviation_wf _ _ ?_ | with_reducible refine State.setDeviation_wf _ _ _ ?_ | with_reducible refine State.setSamples_wf _ _ _ ?_ | with_reducible refine State.releaseDone_wf _ ?_ | with_reducible refine State.setProbe_wf _ _ _ _ ?_ | split | simp

@[simp] theorem State.operationDone_wf (s : State) (c : StationCommand) (n : Nat) (h : s.book.cells.wf = true) :
    (s.operationDone c n).book.cells.wf = true := by
  unfold State.operationDone
  split <;> simp [h]

@[simp] theorem State.failContent_wf (s : State) (c : Content) (h : s.book.cells.wf = true) :
    (s.failContent c).book.cells.wf = true := by
  unfold State.failContent
  split <;> simp [h]

@[simp] theorem State.operationFailed_wf (s : State) (c : StationCommand) (h : s.book.cells.wf = true) :
    (s.operationFailed c).book.cells.wf = true := by
  unfold State.operationFailed
  split <;> simp [h]

@[simp] theorem State.headStationFault_wf (s : State) (c : Option StationCommand) (h : s.book.cells.wf = true) :
    (s.headStationFault c).book.cells.wf = true := by
  unfold State.headStationFault
  split <;> simp [h]

@[simp] theorem State.takeUpProbe_wf (s : State) (h : s.book.cells.wf = true) :
    (s.takeUpProbe).book.cells.wf = true := by
  unfold State.takeUpProbe
  dsimp only
  repeat' split
  all_goals
    repeat first | with_reducible exact h | with_reducible refine State.setWord_wf _ _ _ (by simp) ?_ | with_reducible refine State.setEntryState_wf _ _ _ ?_ | with_reducible refine State.moveEntry_wf _ _ _ _ ?_ | with_reducible refine State.setAttempt_wf _ _ _ _ ?_ | with_reducible refine State.setResult_wf _ _ _ ?_ | with_reducible refine State.finishEntry_wf _ _ _ _ ?_ | with_reducible refine State.clearPartFields_wf _ _ ?_ | with_reducible refine State.setCourseState_wf _ _ _ ?_ | with_reducible refine State.bumpCourse_wf _ _ ?_ | with_reducible refine State.setCourseFigures_wf _ _ _ ?_ | with_reducible refine State.writeProfile_wf _ _ ?_ | with_reducible refine State.afterWrites_wf _ _ ?_ | with_reducible refine State.asLatched_wf _ _ ?_ | with_reducible refine State.latchProfile_wf _ _ ?_ | with_reducible refine State.closeCourse_wf _ _ ?_ | with_reducible refine State.countTerminal_wf _ _ _ ?_ | with_reducible refine State.uncountTerminal_wf _ _ _ ?_ | with_reducible refine State.cancelEntry_wf _ _ ?_ | with_reducible refine State.cancelIfClosing_wf _ _ ?_ | with_reducible refine State.returnToPosted_wf _ _ ?_ | with_reducible refine State.cancelOpenEntry_wf _ _ ?_ | with_reducible refine State.requestClose_wf _ _ ?_ | with_reducible refine State.lateBookWrite_wf _ _ ?_ | with_reducible refine State.closeInvalid_wf _ _ ?_ | with_reducible refine State.openActive_wf _ _ _ ?_ | with_reducible refine State.activate_wf _ _ _ ?_ | with_reducible refine State.displace_wf _ _ ?_ | with_reducible refine State.displaceAll_wf _ _ ?_ | with_reducible refine State.retry_wf _ _ ?_ | with_reducible refine State.failFinally_wf _ _ _ ?_ | with_reducible refine State.attemptFailure_wf _ _ _ ?_ | with_reducible refine State.failAttempt_wf _ _ _ ?_ | with_reducible refine State.emptyList_wf _ ?_ | with_reducible refine State.enterHalt_wf _ ?_ | with_reducible refine State.requestHalt_wf _ ?_ | with_reducible refine State.trainFault_wf _ ?_ | with_reducible refine State.recoverLoss_wf _ ?_ | with_reducible refine State.recoverIfLost_wf _ ?_ | with_reducible refine State.enterLost_wf _ ?_ | with_reducible refine State.expireLossIfDue_wf _ ?_ | with_reducible refine State.setApplied_wf _ _ _ ?_ | with_reducible refine State.takeDone_wf _ ?_ | with_reducible refine State.clearProbeFields_wf _ _ ?_ | with_reducible refine State.clearDeviation_wf _ _ ?_ | with_reducible refine State.setDeviation_wf _ _ _ ?_ | with_reducible refine State.setSamples_wf _ _ _ ?_ | with_reducible refine State.releaseDone_wf _ ?_ | with_reducible refine State.setProbe_wf _ _ _ _ ?_ | with_reducible refine State.probeDone_wf _ _ ?_ | with_reducible refine State.operationDone_wf _ _ _ ?_ | with_reducible refine State.failContent_wf _ _ ?_ | with_reducible refine State.operationFailed_wf _ _ ?_ | with_reducible refine State.headStationFault_wf _ _ ?_ | split | simp

@[simp] theorem State.secondFailure_wf (s : State) (t : Transaction) (h : s.book.cells.wf = true) :
    (s.secondFailure t).book.cells.wf = true := by
  unfold State.secondFailure
  dsimp only
  repeat' split
  all_goals simp [h]

@[simp] theorem State.failTransaction_wf (s : State) (t : Transaction) (h : s.book.cells.wf = true) :
    (s.failTransaction t).book.cells.wf = true := by
  unfold State.failTransaction
  split <;> simp [h]

@[simp] theorem State.commandError_wf (s : State) (p : Position) (c : StationCommand) (e : Half) (h : s.book.cells.wf = true) :
    (s.commandError p c e).book.cells.wf = true := by
  unfold State.commandError
  dsimp only
  repeat' split
  all_goals simp [h]

@[simp] theorem State.reportSettled_wf (s : State) (p : Position) (r : Settlement) (n : Nat) (b : Bool) (h : s.book.cells.wf = true) :
    (s.reportSettled p r n b).book.cells.wf = true := by
  unfold State.reportSettled
  repeat' split
  all_goals simp [h]

@[simp] theorem State.queryStatus_wf (s : State) (p : Position) (d : QueryData) (h : s.book.cells.wf = true) :
    (s.queryStatus p d).book.cells.wf = true := by
  simp [State.queryStatus, h]

@[simp] theorem State.queryError_wf (s : State) (p : Position) (e : Half) (h : s.book.cells.wf = true) :
    (s.queryError p e).book.cells.wf = true := by
  unfold State.queryError
  dsimp only
  repeat' split
  all_goals simp [h]

@[simp] theorem State.goodReply_wf (s : State) (t : Transaction) (r : Reply) (h : s.book.cells.wf = true) :
    (s.goodReply t r).book.cells.wf = true := by
  unfold State.goodReply
  repeat' split
  all_goals simp [h]

@[simp] theorem State.receiveReply_wf (s : State) (bs : List Byte) (h : s.book.cells.wf = true) :
    (s.receiveReply bs).book.cells.wf = true := by
  unfold State.receiveReply
  repeat' split
  all_goals simp [h]

@[simp] theorem State.freeTerminal_wf (s : State) (i : EntryIx) (e : EntryState) (h : s.book.cells.wf = true) :
    (s.freeTerminal i e).book.cells.wf = true := by
  unfold State.freeTerminal
  all_goals
    try simp
    repeat first | with_reducible exact h | with_reducible refine State.setWord_wf _ _ _ (by simp) ?_ | with_reducible refine State.setEntryState_wf _ _ _ ?_ | with_reducible refine State.moveEntry_wf _ _ _ _ ?_ | with_reducible refine State.setAttempt_wf _ _ _ _ ?_ | with_reducible refine State.setResult_wf _ _ _ ?_ | with_reducible refine State.finishEntry_wf _ _ _ _ ?_ | with_reducible refine State.clearPartFields_wf _ _ ?_ | with_reducible refine State.setCourseState_wf _ _ _ ?_ | with_reducible refine State.bumpCourse_wf _ _ ?_ | with_reducible refine State.setCourseFigures_wf _ _ _ ?_ | with_reducible refine State.writeProfile_wf _ _ ?_ | with_reducible refine State.afterWrites_wf _ _ ?_ | with_reducible refine State.asLatched_wf _ _ ?_ | with_reducible refine State.latchProfile_wf _ _ ?_ | with_reducible refine State.closeCourse_wf _ _ ?_ | with_reducible refine State.countTerminal_wf _ _ _ ?_ | with_reducible refine State.uncountTerminal_wf _ _ _ ?_ | with_reducible refine State.cancelEntry_wf _ _ ?_ | with_reducible refine State.cancelIfClosing_wf _ _ ?_ | with_reducible refine State.returnToPosted_wf _ _ ?_ | with_reducible refine State.cancelOpenEntry_wf _ _ ?_ | with_reducible refine State.requestClose_wf _ _ ?_ | with_reducible refine State.lateBookWrite_wf _ _ ?_ | with_reducible refine State.closeInvalid_wf _ _ ?_ | with_reducible refine State.openActive_wf _ _ _ ?_ | with_reducible refine State.activate_wf _ _ _ ?_ | with_reducible refine State.displace_wf _ _ ?_ | with_reducible refine State.displaceAll_wf _ _ ?_ | with_reducible refine State.retry_wf _ _ ?_ | with_reducible refine State.failFinally_wf _ _ _ ?_ | with_reducible refine State.attemptFailure_wf _ _ _ ?_ | with_reducible refine State.failAttempt_wf _ _ _ ?_ | with_reducible refine State.emptyList_wf _ ?_ | with_reducible refine State.enterHalt_wf _ ?_ | with_reducible refine State.requestHalt_wf _ ?_ | with_reducible refine State.trainFault_wf _ ?_ | with_reducible refine State.recoverLoss_wf _ ?_ | with_reducible refine State.recoverIfLost_wf _ ?_ | with_reducible refine State.enterLost_wf _ ?_ | with_reducible refine State.expireLossIfDue_wf _ ?_ | with_reducible refine State.setApplied_wf _ _ _ ?_ | with_reducible refine State.takeDone_wf _ ?_ | with_reducible refine State.clearProbeFields_wf _ _ ?_ | with_reducible refine State.clearDeviation_wf _ _ ?_ | with_reducible refine State.setDeviation_wf _ _ _ ?_ | with_reducible refine State.setSamples_wf _ _ _ ?_ | with_reducible refine State.releaseDone_wf _ ?_ | with_reducible refine State.setProbe_wf _ _ _ _ ?_ | with_reducible refine State.probeDone_wf _ _ ?_ | with_reducible refine State.operationDone_wf _ _ _ ?_ | with_reducible refine State.failContent_wf _ _ ?_ | with_reducible refine State.operationFailed_wf _ _ ?_ | with_reducible refine State.headStationFault_wf _ _ ?_ | with_reducible refine State.takeUpProbe_wf _ ?_ | with_reducible refine State.secondFailure_wf _ _ ?_ | with_reducible refine State.failTransaction_wf _ _ ?_ | with_reducible refine State.commandError_wf _ _ _ _ ?_ | with_reducible refine State.reportSettled_wf _ _ _ _ _ ?_ | with_reducible refine State.queryStatus_wf _ _ _ ?_ | with_reducible refine State.queryError_wf _ _ _ ?_ | with_reducible refine State.goodReply_wf _ _ _ ?_ | with_reducible refine State.receiveReply_wf _ _ ?_

@[simp] theorem State.postEntry_wf (s : State) (i : EntryIx) (h : s.book.cells.wf = true) :
    (s.postEntry i).book.cells.wf = true := by
  unfold State.postEntry
  repeat' split
  all_goals
    try simp
    repeat first | with_reducible exact h | with_reducible refine State.setWord_wf _ _ _ (by simp) ?_ | with_reducible refine State.setEntryState_wf _ _ _ ?_ | with_reducible refine State.moveEntry_wf _ _ _ _ ?_ | with_reducible refine State.setAttempt_wf _ _ _ _ ?_ | with_reducible refine State.setResult_wf _ _ _ ?_ | with_reducible refine State.finishEntry_wf _ _ _ _ ?_ | with_reducible refine State.clearPartFields_wf _ _ ?_ | with_reducible refine State.setCourseState_wf _ _ _ ?_ | with_reducible refine State.bumpCourse_wf _ _ ?_ | with_reducible refine State.setCourseFigures_wf _ _ _ ?_ | with_reducible refine State.writeProfile_wf _ _ ?_ | with_reducible refine State.afterWrites_wf _ _ ?_ | with_reducible refine State.asLatched_wf _ _ ?_ | with_reducible refine State.latchProfile_wf _ _ ?_ | with_reducible refine State.closeCourse_wf _ _ ?_ | with_reducible refine State.countTerminal_wf _ _ _ ?_ | with_reducible refine State.uncountTerminal_wf _ _ _ ?_ | with_reducible refine State.cancelEntry_wf _ _ ?_ | with_reducible refine State.cancelIfClosing_wf _ _ ?_ | with_reducible refine State.returnToPosted_wf _ _ ?_ | with_reducible refine State.cancelOpenEntry_wf _ _ ?_ | with_reducible refine State.requestClose_wf _ _ ?_ | with_reducible refine State.lateBookWrite_wf _ _ ?_ | with_reducible refine State.closeInvalid_wf _ _ ?_ | with_reducible refine State.openActive_wf _ _ _ ?_ | with_reducible refine State.activate_wf _ _ _ ?_ | with_reducible refine State.displace_wf _ _ ?_ | with_reducible refine State.displaceAll_wf _ _ ?_ | with_reducible refine State.retry_wf _ _ ?_ | with_reducible refine State.failFinally_wf _ _ _ ?_ | with_reducible refine State.attemptFailure_wf _ _ _ ?_ | with_reducible refine State.failAttempt_wf _ _ _ ?_ | with_reducible refine State.emptyList_wf _ ?_ | with_reducible refine State.enterHalt_wf _ ?_ | with_reducible refine State.requestHalt_wf _ ?_ | with_reducible refine State.trainFault_wf _ ?_ | with_reducible refine State.recoverLoss_wf _ ?_ | with_reducible refine State.recoverIfLost_wf _ ?_ | with_reducible refine State.enterLost_wf _ ?_ | with_reducible refine State.expireLossIfDue_wf _ ?_ | with_reducible refine State.setApplied_wf _ _ _ ?_ | with_reducible refine State.takeDone_wf _ ?_ | with_reducible refine State.clearProbeFields_wf _ _ ?_ | with_reducible refine State.clearDeviation_wf _ _ ?_ | with_reducible refine State.setDeviation_wf _ _ _ ?_ | with_reducible refine State.setSamples_wf _ _ _ ?_ | with_reducible refine State.releaseDone_wf _ ?_ | with_reducible refine State.setProbe_wf _ _ _ _ ?_ | with_reducible refine State.probeDone_wf _ _ ?_ | with_reducible refine State.operationDone_wf _ _ _ ?_ | with_reducible refine State.failContent_wf _ _ ?_ | with_reducible refine State.operationFailed_wf _ _ ?_ | with_reducible refine State.headStationFault_wf _ _ ?_ | with_reducible refine State.takeUpProbe_wf _ ?_ | with_reducible refine State.secondFailure_wf _ _ ?_ | with_reducible refine State.failTransaction_wf _ _ ?_ | with_reducible refine State.commandError_wf _ _ _ _ ?_ | with_reducible refine State.reportSettled_wf _ _ _ _ _ ?_ | with_reducible refine State.queryStatus_wf _ _ _ ?_ | with_reducible refine State.queryError_wf _ _ _ ?_ | with_reducible refine State.goodReply_wf _ _ _ ?_ | with_reducible refine State.receiveReply_wf _ _ ?_ | with_reducible refine State.freeTerminal_wf _ _ _ ?_

@[simp] theorem State.freeEntry_wf (s : State) (i : EntryIx) (h : s.book.cells.wf = true) :
    (s.freeEntry i).book.cells.wf = true := by
  unfold State.freeEntry
  repeat' split
  all_goals simp [h]

@[simp] theorem State.cancelWrite_wf (s : State) (i : EntryIx) (h : s.book.cells.wf = true) :
    (s.cancelWrite i).book.cells.wf = true := by
  unfold State.cancelWrite
  split <;> simp [h]

@[simp] theorem State.failAtTake_wf (s : State) (i : EntryIx) (h : s.book.cells.wf = true) :
    (s.failAtTake i).book.cells.wf = true := by
  simp [State.failAtTake, h]

@[simp] theorem State.issueEntry_wf (s : State) (k : Slot) (i : EntryIx) (h : s.book.cells.wf = true) :
    (s.issueEntry k i).book.cells.wf = true := by
  unfold State.issueEntry
  split <;> simp [h]

@[simp] theorem State.takeEntry_wf (s : State) (k : Slot) (i : EntryIx) (b : Byte) (h : s.book.cells.wf = true) :
    (s.takeEntry k i b).book.cells.wf = true := by
  unfold State.takeEntry
  repeat' split
  all_goals simp [h]

@[simp] theorem State.matchBrick_wf (s : State) (f : FeedPending) (h : s.book.cells.wf = true) :
    (s.matchBrick f).book.cells.wf = true := by
  unfold State.matchBrick
  split <;> simp [h]

@[simp] theorem State.popFront_wf (s : State) (c : Carrier) (l : List Carrier) (h : s.book.cells.wf = true) :
    (s.popFront c l).book.cells.wf = true := by
  unfold State.popFront
  split <;> simp [h]

@[simp] theorem State.copyImage_wf (s : State) (v : Vector Word 32) (h : s.book.cells.wf = true) :
    (s.copyImage v).book.cells.wf = true := by
  unfold State.copyImage
  exact foldl_holds _ (fun t => t.book.cells.wf = true) (fun t x ht => by simp [ht]) _ s h

end Sys2Proof.Machine
end

