-- ==== Sys2Proof/Laws/Book.lean ====
section
/-! SUPPORT. Reading the book after a word of it has been written: words, bit fields, state words of entries and course
records, and the figures of a course record. -/

namespace Sys2Proof.Machine

/-! ### Words -/

/-- The word just written. -/
theorem State.word_setWord (s : State) (a : Nat) (v : Word) (h : s.book.cells.wf = true) (ha : a + 4 ≤ 65536) :
    (s.setWord a v).word a = v := Memory.readWord_writeWord _ _ _ h ha

/-- A word that lies elsewhere. -/
theorem State.word_setWord_ne (s : State) (a b : Nat) (v : Word) (h : s.book.cells.wf = true) (ha : a + 4 ≤ 65536)
    (hb : b + 4 ≤ a ∨ a + 4 ≤ b) : (s.setWord a v).word b = s.word b := Memory.readWord_writeWord_other _ _ _ _ h ha hb

/-- A byte that lies elsewhere. -/
theorem State.read_setWord_ne (s : State) (a x : Nat) (v : Word) (h : s.book.cells.wf = true) (ha : a + 4 ≤ 65536)
    (hx : x < a ∨ a + 4 ≤ x) : (s.setWord a v).book.cells.read x = s.book.cells.read x :=
  Memory.read_writeWord_other _ _ _ _ h ha hx

/-- Words depend on the book's cells alone. -/
theorem State.word_congr {s t : State} (h : t.book.cells = s.book.cells) (a : Nat) : t.word a = s.word a := by
  unfold State.word
  rw [h]

/-! ### Bit fields -/

theorem field_eq (v : Word) (lo n : Nat) : field v lo n = v.toNat / 2 ^ lo % 2 ^ n := by
  unfold field
  rw [BitVec.extractLsb'_toNat, Nat.shiftRight_eq_div_pow]

theorem field_lt (v : Word) (lo n : Nat) : field v lo n < 2 ^ n := by
  rw [field_eq]
  exact Nat.mod_lt _ (Nat.two_pow_pos n)

theorem field_packHalves_low (lo hi : Nat) (h : lo < 65536) : field (packHalves lo hi) 0 16 = lo := by
  rw [field_eq]
  unfold packHalves
  rw [BitVec.toNat_ofNat]
  omega

theorem field_packHalves_high (lo hi : Nat) (h : hi < 65536) : field (packHalves lo hi) 16 16 = hi := by
  rw [field_eq]
  unfold packHalves
  rw [BitVec.toNat_ofNat]
  omega

/-! ### State words -/

@[simp] theorem entryStateOf_code (e : EntryState) : entryStateOf (entryCodeOf e) = some e := by cases e <;> decide

@[simp] theorem courseStateOf_code (c : CourseState) : courseStateOf (courseCodeOf c) = some c := by cases c <;> decide

theorem low_byte (b : Byte) : (b.zeroExtend 32 : Word).extractLsb' 0 8 = b := by
  apply BitVec.eq_of_getLsbD_eq
  intro i hi
  simp [hi]
  omega

theorem State.entryState_setEntryState (s : State) (i : EntryIx) (e : EntryState) (h : s.book.cells.wf = true) :
    (s.setEntryState i e).entryState i = some e := by
  unfold State.setEntryState State.entryState State.entryCode
  rw [State.word_setWord _ _ _ h (by simp), low_byte, entryStateOf_code]

theorem State.courseState_setCourseState (s : State) (k : Slot) (c : CourseState) (h : s.book.cells.wf = true) :
    (s.setCourseState k c).courseState k = some c := by
  unfold State.setCourseState State.courseState State.courseCode
  rw [State.word_setWord _ _ _ h (by simp), low_byte, courseStateOf_code]

theorem State.entryState_congr {s t : State} {i : EntryIx} (h : t.word (entryAddr i 0) = s.word (entryAddr i 0)) :
    t.entryState i = s.entryState i := by
  unfold State.entryState State.entryCode
  rw [h]

theorem State.courseState_congr {s t : State} {k : Slot} (h : t.word (courseAddr k 1) = s.word (courseAddr k 1)) :
    t.courseState k = s.courseState k := by
  unfold State.courseState State.courseCode
  rw [h]

/-! ### The figures of a course record -/

theorem narrowSum_fits (s : State) (n : Nat) (x : Int) (h1 : -2147483648 ≤ x) (h2 : x < 2147483648) :
    (s.narrowSum n x).toInt = x := by
  unfold State.narrowSum
  rw [if_pos ⟨h1, by omega⟩, BitVec.toInt_ofInt]
  exact Int.bmod_eq_of_le (by omega) (by omega)

theorem zc_fits (x : Int) (h1 : -2147483648 ≤ x) (h2 : x < 2147483648) : (BitVec.ofInt 32 x).toInt = x := by
  rw [BitVec.toInt_ofInt]
  exact Int.bmod_eq_of_le (by omega) (by omega)

theorem narrowDevSum_fits (s : State) (x : Int) (h1 : -2147483648 ≤ x) (h2 : x < 2147483648) :
    (s.narrowDevSum x).toInt = x := narrowSum_fits s 1 x h1 h2

theorem narrowAppliedSum_fits (s : State) (x : Int) (h1 : -2147483648 ≤ x) (h2 : x < 2147483648) :
    (s.narrowAppliedSum x).toInt = x := narrowSum_fits s 3 x h1 h2

/-- Zc of a record whose applied-probe sum fits its field is that of the sum itself (R42). -/
theorem State.probeZc_fits (s : State) (f : CourseFigures) (h1 : -2147483648 ≤ f.appliedSum)
    (h2 : f.appliedSum < 2147483648) : s.probeZc f = computeZc f.appliedSum f.applied s.seq.profile.zmax := by
  rw [State.probeZc, narrowAppliedSum_fits s _ h1 h2]

/-- Figures that depend on the same eight words are the same. -/
theorem State.courseFigures_congr {s t : State} {k : Slot}
    (h : ∀ w, 6 ≤ w → w ≤ 13 → t.word (courseAddr k w) = s.word (courseAddr k w)) :
    t.courseFigures k = s.courseFigures k := by
  unfold State.courseFigures
  rw [h 6 (by omega) (by omega), h 7 (by omega) (by omega), h 8 (by omega) (by omega), h 9 (by omega) (by omega),
    h 10 (by omega) (by omega), h 11 (by omega) (by omega), h 12 (by omega) (by omega), h 13 (by omega) (by omega)]

/-- The eight words that hold the figures, after they have been written. -/
theorem State.word_setCourseFigures (s : State) (k : Slot) (f : CourseFigures) (h : s.book.cells.wf = true) :
    (s.setCourseFigures k f).word (courseAddr k 6) = packHalves f.remaining f.laid ∧
    (s.setCourseFigures k f).word (courseAddr k 7) = packHalves f.probed f.failed ∧
    (s.setCourseFigures k f).word (courseAddr k 8) = packHalves f.cancelled f.applied ∧
    (s.setCourseFigures k f).word (courseAddr k 9) = s.narrowDevSum f.devSum ∧
    (s.setCourseFigures k f).word (courseAddr k 10) = packHalves f.maxX f.maxY ∧
    (s.setCourseFigures k f).word (courseAddr k 11) = packHalves f.maxZ f.maxYaw ∧
    (s.setCourseFigures k f).word (courseAddr k 12) = s.narrowAppliedSum f.appliedSum ∧
    (s.setCourseFigures k f).word (courseAddr k 13) = BitVec.ofInt 32 f.zc := by
  have fit : ∀ w, w < 16 → courseAddr k w + 4 ≤ 65536 := fun w hw => courseAddr_fits k w hw
  have ne : ∀ v w, v < w → courseAddr k v + 4 ≤ courseAddr k w ∨ courseAddr k w + 4 ≤ courseAddr k v := by
    intro v w hvw
    unfold courseAddr
    omega
  have h6 := State.setWord_wf s _ (packHalves f.remaining f.laid) (fit 6 (by omega)) h
  have h7 := State.setWord_wf _ _ (packHalves f.probed f.failed) (fit 7 (by omega)) h6
  have h8 := State.setWord_wf _ _ (packHalves f.cancelled f.applied) (fit 8 (by omega)) h7
  have h9 := State.setWord_wf _ _ (s.narrowDevSum f.devSum) (fit 9 (by omega)) h8
  have h10 := State.setWord_wf _ _ (packHalves f.maxX f.maxY) (fit 10 (by omega)) h9
  have h11 := State.setWord_wf _ _ (packHalves f.maxZ f.maxYaw) (fit 11 (by omega)) h10
  have h12 := State.setWord_wf _ _ (s.narrowAppliedSum f.appliedSum) (fit 12 (by omega)) h11
  unfold State.setCourseFigures
  refine ⟨?_, ?_, ?_, ?_, ?_, ?_, ?_, ?_⟩
  · rw [State.word_setWord_ne _ _ _ _ h12 (fit 13 (by omega)) (ne 6 13 (by omega)),
      State.word_setWord_ne _ _ _ _ h11 (fit 12 (by omega)) (ne 6 12 (by omega)),
      State.word_setWord_ne _ _ _ _ h10 (fit 11 (by omega)) (ne 6 11 (by omega)),
      State.word_setWord_ne _ _ _ _ h9 (fit 10 (by omega)) (ne 6 10 (by omega)),
      State.word_setWord_ne _ _ _ _ h8 (fit 9 (by omega)) (ne 6 9 (by omega)),
      State.word_setWord_ne _ _ _ _ h7 (fit 8 (by omega)) (ne 6 8 (by omega)),
      State.word_setWord_ne _ _ _ _ h6 (fit 7 (by omega)) (ne 6 7 (by omega)),
      State.word_setWord _ _ _ h (fit 6 (by omega))]
  · rw [State.word_setWord_ne _ _ _ _ h12 (fit 13 (by omega)) (ne 7 13 (by omega)),
      State.word_setWord_ne _ _ _ _ h11 (fit 12 (by omega)) (ne 7 12 (by omega)),
      State.word_setWord_ne _ _ _ _ h10 (fit 11 (by omega)) (ne 7 11 (by omega)),
      State.word_setWord_ne _ _ _ _ h9 (fit 10 (by omega)) (ne 7 10 (by omega)),
      State.word_setWord_ne _ _ _ _ h8 (fit 9 (by omega)) (ne 7 9 (by omega)),
      State.word_setWord_ne _ _ _ _ h7 (fit 8 (by omega)) (ne 7 8 (by omega)),
      State.word_setWord _ _ _ h6 (fit 7 (by omega))]
  · rw [State.word_setWord_ne _ _ _ _ h12 (fit 13 (by omega)) (ne 8 13 (by omega)),
      State.word_setWord_ne _ _ _ _ h11 (fit 12 (by omega)) (ne 8 12 (by omega)),
      State.word_setWord_ne _ _ _ _ h10 (fit 11 (by omega)) (ne 8 11 (by omega)),
      State.word_setWord_ne _ _ _ _ h9 (fit 10 (by omega)) (ne 8 10 (by omega)),
      State.word_setWord_ne _ _ _ _ h8 (fit 9 (by omega)) (ne 8 9 (by omega)),
      State.word_setWord _ _ _ h7 (fit 8 (by omega))]
  · rw [State.word_setWord_ne _ _ _ _ h12 (fit 13 (by omega)) (ne 9 13 (by omega)),
      State.word_setWord_ne _ _ _ _ h11 (fit 12 (by omega)) (ne 9 12 (by omega)),
      State.word_setWord_ne _ _ _ _ h10 (fit 11 (by omega)) (ne 9 11 (by omega)),
      State.word_setWord_ne _ _ _ _ h9 (fit 10 (by omega)) (ne 9 10 (by omega)),
      State.word_setWord _ _ _ h8 (fit 9 (by omega))]
  · rw [State.word_setWord_ne _ _ _ _ h12 (fit 13 (by omega)) (ne 10 13 (by omega)),
      State.word_setWord_ne _ _ _ _ h11 (fit 12 (by omega)) (ne 10 12 (by omega)),
      State.word_setWord_ne _ _ _ _ h10 (fit 11 (by omega)) (ne 10 11 (by omega)),
      State.word_setWord _ _ _ h9 (fit 10 (by omega))]
  · rw [State.word_setWord_ne _ _ _ _ h12 (fit 13 (by omega)) (ne 11 13 (by omega)),
      State.word_setWord_ne _ _ _ _ h11 (fit 12 (by omega)) (ne 11 12 (by omega)),
      State.word_setWord _ _ _ h10 (fit 11 (by omega))]
  · rw [State.word_setWord_ne _ _ _ _ h12 (fit 13 (by omega)) (ne 12 13 (by omega)),
      State.word_setWord _ _ _ h11 (fit 12 (by omega))]
  · rw [State.word_setWord _ _ _ h12 (fit 13 (by omega))]

/-- Figures that fit their fields read back as written. -/
theorem State.courseFigures_setCourseFigures (s : State) (k : Slot) (f : CourseFigures) (h : s.book.cells.wf = true)
    (h1 : f.remaining < 65536) (h2 : f.laid < 65536) (h3 : f.probed < 65536) (h4 : f.failed < 65536)
    (h5 : f.cancelled < 65536) (h6 : f.applied < 65536) (h7 : f.maxX < 65536) (h8 : f.maxY < 65536)
    (h9 : f.maxZ < 65536) (h10 : f.maxYaw < 65536) (d1 : -2147483648 ≤ f.devSum) (d2 : f.devSum < 2147483648)
    (a1 : -2147483648 ≤ f.appliedSum) (a2 : f.appliedSum < 2147483648) (z1 : -2147483648 ≤ f.zc)
    (z2 : f.zc < 2147483648) : (s.setCourseFigures k f).courseFigures k = f := by
  obtain ⟨w6, w7, w8, w9, w10, w11, w12, w13⟩ := s.word_setCourseFigures k f h
  unfold State.courseFigures
  rw [w6, w7, w8, w9, w10, w11, w12, w13, field_packHalves_low _ _ h1, field_packHalves_high _ _ h2,
    field_packHalves_low _ _ h3, field_packHalves_high _ _ h4, field_packHalves_low _ _ h5,
    field_packHalves_high _ _ h6, field_packHalves_low _ _ h7, field_packHalves_high _ _ h8,
    field_packHalves_low _ _ h9, field_packHalves_high _ _ h10, narrowDevSum_fits _ _ d1 d2, narrowAppliedSum_fits _ _ a1 a2,
    zc_fits _ z1 z2]

/-- Words outside the eight are kept when the figures are written. -/
theorem State.read_setCourseFigures_ne (s : State) (k : Slot) (f : CourseFigures) (x : Nat)
    (h : s.book.cells.wf = true) (hx : x < courseAddr k 6 ∨ courseAddr k 13 + 4 ≤ x) :
    (s.setCourseFigures k f).book.cells.read x = s.book.cells.read x := by
  have fit : ∀ w, w < 16 → courseAddr k w + 4 ≤ 65536 := fun w hw => courseAddr_fits k w hw
  have out : ∀ w, 6 ≤ w → w ≤ 13 → x < courseAddr k w ∨ courseAddr k w + 4 ≤ x := by
    intro w h6 h13
    unfold courseAddr at hx ⊢
    omega
  have h6 := State.setWord_wf s _ (packHalves f.remaining f.laid) (fit 6 (by omega)) h
  have h7 := State.setWord_wf _ _ (packHalves f.probed f.failed) (fit 7 (by omega)) h6
  have h8 := State.setWord_wf _ _ (packHalves f.cancelled f.applied) (fit 8 (by omega)) h7
  have h9 := State.setWord_wf _ _ (s.narrowDevSum f.devSum) (fit 9 (by omega)) h8
  have h10 := State.setWord_wf _ _ (packHalves f.maxX f.maxY) (fit 10 (by omega)) h9
  have h11 := State.setWord_wf _ _ (packHalves f.maxZ f.maxYaw) (fit 11 (by omega)) h10
  have h12 := State.setWord_wf _ _ (s.narrowAppliedSum f.appliedSum) (fit 12 (by omega)) h11
  unfold State.setCourseFigures
  rw [State.read_setWord_ne _ _ _ _ h12 (fit 13 (by omega)) (out 13 (by omega) (by omega)),
    State.read_setWord_ne _ _ _ _ h11 (fit 12 (by omega)) (out 12 (by omega) (by omega)),
    State.read_setWord_ne _ _ _ _ h10 (fit 11 (by omega)) (out 11 (by omega) (by omega)),
    State.read_setWord_ne _ _ _ _ h9 (fit 10 (by omega)) (out 10 (by omega) (by omega)),
    State.read_setWord_ne _ _ _ _ h8 (fit 9 (by omega)) (out 9 (by omega) (by omega)),
    State.read_setWord_ne _ _ _ _ h7 (fit 8 (by omega)) (out 8 (by omega) (by omega)),
    State.read_setWord_ne _ _ _ _ h6 (fit 7 (by omega)) (out 7 (by omega) (by omega)),
    State.read_setWord_ne _ _ _ _ h (fit 6 (by omega)) (out 6 (by omega) (by omega))]

end Sys2Proof.Machine
end

