-- ==== Sys2Proof/Laws/Finish.lean ====
section
/-! SUPPORT. What closing a command does: it re-evaluates the starved condition, the drive, the interrupt and the status
block, uses the free value of the command, and changes nothing else. -/

namespace Sys2Proof.Machine

@[simp] theorem finish_frame (old s : State) :
    (finish old s).host.mask = s.host.mask ∧ (finish old s).host.readData = s.host.readData ∧
    (finish old s).book = s.book ∧ (finish old s).seq = s.seq ∧
    (finish old s).issue.list = s.issue.list ∧ (finish old s).issue.feed = s.issue.feed ∧
    (finish old s).train.queue = s.train.queue ∧ (finish old s).train.limitReached = s.train.limitReached ∧
    (finish old s).line = s.line ∧
    (finish old s).tracker = s.tracker ∧ (finish old s).trim = s.trim ∧ (finish old s).head = s.head ∧
    (finish old s).control = s.control ∧ (finish old s).cal = s.cal ∧ (finish old s).time = s.time ∧
    (finish old s).pending = s.pending := by
  simp [finish, State.spendFree]

@[simp] theorem finishReset_frame (old s : State) :
    (finishReset old s).host.mask = s.host.mask ∧ (finishReset old s).host.readData = s.host.readData ∧
    (finishReset old s).book = s.book ∧ (finishReset old s).seq = s.seq ∧
    (finishReset old s).issue.list = s.issue.list ∧ (finishReset old s).issue.feed = s.issue.feed ∧
    (finishReset old s).train.queue = s.train.queue ∧
    (finishReset old s).train.limitReached = s.train.limitReached ∧ (finishReset old s).line = s.line ∧
    (finishReset old s).tracker = s.tracker ∧ (finishReset old s).trim = s.trim ∧
    (finishReset old s).head = s.head ∧ (finishReset old s).control = s.control ∧
    (finishReset old s).cal = s.cal ∧ (finishReset old s).time = s.time ∧
    (finishReset old s).pending = s.pending := by
  simp [finishReset, State.spendFree]

/-- What the evaluation at the end of an event makes of the outputs (R58, R73, R190). -/
theorem evaluate_outputs (s : State) :
    s.evaluate.issue.starved = s.starvedNow ∧ s.evaluate.train.drive = s.driveWanted ∧
      s.evaluate.host.attention = attentionLevel s.evaluate.host ∧
      s.evaluate.host.cause = if s.starvedNow && !s.issue.starved then s.host.cause ||| causeMask .supplyStarved
        else s.host.cause := by
  have hd : (s.evalStarved).driveWanted = s.driveWanted := by
    unfold State.driveWanted
    simp
  have hs : (s.evalStarved).issue.starved = s.starvedNow := by
    unfold State.evalStarved
    dsimp only
    split <;> simp
  have hc : (s.evalStarved).host.cause = if s.starvedNow && !s.issue.starved then s.host.cause ||| causeMask .supplyStarved
      else s.host.cause := by
    unfold State.evalStarved
    dsimp only
    split <;> simp [State.raise]
  refine ⟨?_, ?_, ?_, ?_⟩
  · simpa [State.evaluate] using hs
  · simpa [State.evaluate, State.evalDrive, State.evalAttention] using hd
  · simp [State.evaluate, State.evalAttention, attentionLevel]
  · simpa [State.evaluate, State.evalAttention, State.evalDrive] using hc

/-- The starved condition does not depend on what the evaluation changes. -/
theorem starvedNow_congr (s t : State) (hb : t.book.cells = s.book.cells) (hs : t.seq = s.seq)
    (hl : t.issue.list = s.issue.list) (hf : t.issue.feed = s.issue.feed) (hq : t.train.queue = s.train.queue)
    (hn : t.line = s.line) (hh : t.head = s.head) (hc : t.control = s.control) : t.starvedNow = s.starvedNow := by
  unfold State.starvedNow State.refeedWanted State.layWanted State.feederAvailable State.feederReady State.mayTake
    State.layRoom State.candidate State.notBegun State.inIssueList State.courseEntries State.courseFirst
    State.courseCount State.courseStrict State.entryKind State.kindWord State.entryState State.entryCode State.word
  rw [hb, hs, hl, hf, hq, hn, hh, hc]

/-- The outputs after a command is closed (R58, R73, R190). -/
theorem finish_outputs (old s : State) :
    (finish old s).issue.starved = s.starvedNow ∧ (finish old s).train.drive = s.driveWanted ∧
      (finish old s).host.attention = attentionLevel (finish old s).host ∧
      (finish old s).host.cause = if s.starvedNow && !s.issue.starved then s.host.cause ||| causeMask .supplyStarved
        else s.host.cause := by
  have h := evaluate_outputs s
  simpa [finish, State.spendFree] using h

theorem finishReset_outputs (old s : State) :
    (finishReset old s).issue.starved = s.starvedNow ∧ (finishReset old s).train.drive = s.driveWanted ∧
      (finishReset old s).host.attention = attentionLevel (finishReset old s).host ∧
      (finishReset old s).host.cause = if s.starvedNow && !s.issue.starved then s.host.cause ||| causeMask .supplyStarved
        else s.host.cause := by
  have h := evaluate_outputs s
  simpa [finishReset, State.spendFree] using h

/-- A command closed leaves the status block showing the state it leaves (R20). -/
theorem finish_status (old s : State) : (finish old s).status.fields = (finish old s).statusNow := by
  have h : (finish old s).statusNow = s.evaluate.statusNow := by
    unfold State.statusNow State.supply
    simp [finish, State.spendFree]
  rw [h]
  simp only [finish, State.spendFree, State.withFree_status, State.showStatus, State.updateStatus, State.withStatus_status,
    StatusBlock.update]
  split
  · exact Eq.symm ‹_›
  · rfl

end Sys2Proof.Machine
end

