-- ==== Sys2Proof/Laws/Claims.lean ====
section
/-! SUPPORT. How frames and causes pass through the closing of a command. -/

namespace Sys2Proof

open Sys2Proof.Machine

/-! ### Causes -/

theorem causeBit_lt (c : Cause) : causeBit c < 17 := by cases c <;> decide

theorem causeBit_inj {c d : Cause} (h : causeBit c = causeBit d) : c = d := by
  cases c <;> cases d <;> first | rfl | exact absurd h (by decide)

theorem causeMask_bit (c d : Cause) : (causeMask c).getLsbD (causeBit d) = decide (d = c) := by
  cases c <;> cases d <;> decide

@[simp] theorem hasCause_raise (s : State) (c d : Cause) :
    hasCause (s.raise c) d = (hasCause s d || decide (d = c)) := by
  simp [hasCause, State.raise, causeMask_bit]

theorem hasCause_congr {s t : State} (h : t.host.cause = s.host.cause) (c : Cause) : hasCause t c = hasCause s c := by
  simp [hasCause, h]

/-- Every other cause passes the closing of a command unchanged. -/
theorem hasCause_finish (old u : State) (c : Cause) :
    hasCause (finish old u) c =
      (hasCause u c || (decide (c = .supplyStarved) && (u.starvedNow && !u.issue.starved))) := by
  unfold hasCause
  rw [(finish_outputs old u).2.2.2]
  split <;> rename_i h
  · simp [causeMask_bit, h]
  · simp [h]

theorem starved_finish (old u : State) : (finish old u).issue.starved = u.starvedNow := (finish_outputs old u).1

/-- The causes of a command whose work has kept the starved mark as it was. -/
theorem causesKeptBut_finish {cs : List Cause} {s u : State} (h : ∀ c, c ∉ cs → hasCause u c = hasCause s c)
    (hs : u.issue.starved = s.issue.starved) : CausesKeptBut cs s (finish s u) := by
  refine ⟨fun c hc hne => ?_, fun hc => ?_⟩
  · rw [hasCause_finish, h c hc]
    simp [hne]
  · rw [hasCause_finish, h _ hc]
    simp [starvedAnew, starved_finish, hs]

theorem hasCause_finish_of (old u : State) (c : Cause) (h : hasCause u c = true) : hasCause (finish old u) c = true := by
  rw [hasCause_finish, h]
  rfl

/-! ### Frames -/

theorem keptBut_finish {bs : List Block} {s u : State} (h : KeptBut bs s u) : KeptBut bs s (finish s u) := by
  intro b hb
  have := h b hb
  cases b <;> simpa [Block.kept] using this

theorem keptBut_refl (bs : List Block) (s : State) : KeptBut bs s s := by
  intro b _
  cases b <;> simp [Block.kept]

end Sys2Proof
end

