-- ==== Sys2Proof/Laws/Courses.lean ====
section
/-! SUPPORT. What counting an entry, closing a course and cancelling an entry do, and what of the book they keep. -/

namespace Sys2Proof.Machine

/-! ### Words are kept with their bytes -/

theorem State.word_of_read {s t : State} {a : Nat}
    (h : ∀ x, a ≤ x → x < a + 4 → t.book.cells.read x = s.book.cells.read x) : t.word a = s.word a := by
  unfold State.word Memory.readWord
  rw [h (a + 3) (by omega) (by omega), h (a + 2) (by omega) (by omega), h (a + 1) (by omega) (by omega),
    h a (by omega) (by omega)]

/-! ### Closing (R38) -/

/-- Bytes outside the record are kept when it is counted up or closed. -/
theorem State.bumpCourse_read (s : State) (k : Slot) (x : Nat) (h : s.book.cells.wf = true)
    (hx : x < courseAddr k 0 ∨ courseAddr k 0 + 4 ≤ x) : (s.bumpCourse k).book.cells.read x = s.book.cells.read x :=
  State.read_setWord_ne _ _ _ _ h (by simp) hx

theorem State.bumpCourse_word (s : State) (k : Slot) (a : Nat) (h : s.book.cells.wf = true)
    (ha : a + 4 ≤ courseAddr k 0 ∨ courseAddr k 0 + 4 ≤ a) : (s.bumpCourse k).word a = s.word a :=
  State.word_setWord_ne _ _ _ _ h (by simp) ha

theorem State.bumpCourse_count (s : State) (k : Slot) (h : s.book.cells.wf = true) :
    (s.bumpCourse k).word (courseAddr k 0) = s.word (courseAddr k 0) + 2 := State.word_setWord _ _ _ h (by simp)

theorem State.setCourseState_word (s : State) (k : Slot) (c : CourseState) (a : Nat) (h : s.book.cells.wf = true)
    (ha : a + 4 ≤ courseAddr k 1 ∨ courseAddr k 1 + 4 ≤ a) : (s.setCourseState k c).word a = s.word a :=
  State.word_setWord_ne _ _ _ _ h (by simp) ha

theorem State.closeCourse_read (s : State) (k : Slot) (x : Nat) (h : s.book.cells.wf = true)
    (hx : x < courseAddr k 0 ∨ courseAddr k 0 + 64 ≤ x) : (s.closeCourse k).book.cells.read x = s.book.cells.read x := by
  have h1 := State.setWord_wf s (courseAddr k 15) s.time (by simp) h
  have h2 := State.setCourseState_wf _ k .closed h1
  have e : (s.closeCourse k).book.cells =
      (((s.setWord (courseAddr k 15) s.time).setCourseState k .closed).bumpCourse k).book.cells := by
    simp [State.closeCourse]
  rw [e, State.bumpCourse_read _ _ _ h2 (by omega)]
  unfold State.setCourseState
  rw [State.read_setWord_ne _ _ _ _ h1 (by simp) (by unfold courseAddr at *; omega),
    State.read_setWord_ne _ _ _ _ h (by simp) (by unfold courseAddr at *; omega)]

/-- What closing a course leaves (R38). -/
theorem State.closeCourse_spec (s : State) (k : Slot) (h : s.book.cells.wf = true) :
    (s.closeCourse k).courseFigures k = s.courseFigures k ∧ (s.closeCourse k).courseState k = some .closed ∧
    (s.closeCourse k).word (courseAddr k 15) = s.time ∧
    (s.closeCourse k).word (courseAddr k 0) = s.word (courseAddr k 0) + 2 ∧
    (s.closeCourse k).seq = { s.seq with
      active := none, closeMark := false, lastLaid := BitVec.ofNat 16 (s.courseFigures k).laid
      lastSum := BitVec.ofInt 32 (s.courseFigures k).devSum, pointer := s.seq.pointer + 1 } ∧
    (s.closeCourse k).host.cause = s.host.cause ||| causeMask .courseClosed := by
  have h1 := State.setWord_wf s (courseAddr k 15) s.time (by simp) h
  have h2 := State.setCourseState_wf _ k .closed h1
  have ne : ∀ v w, v ≠ w → courseAddr k v + 4 ≤ courseAddr k w ∨ courseAddr k w + 4 ≤ courseAddr k v := by
    intro v w hvw
    unfold courseAddr
    omega
  have e : (s.closeCourse k).book.cells =
      (((s.setWord (courseAddr k 15) s.time).setCourseState k .closed).bumpCourse k).book.cells := by
    simp [State.closeCourse]
  have w : ∀ a, (s.closeCourse k).word a =
      (((s.setWord (courseAddr k 15) s.time).setCourseState k .closed).bumpCourse k).word a := State.word_congr e
  have keep : ∀ v, v ≠ 0 → v ≠ 1 → v ≠ 15 → (s.closeCourse k).word (courseAddr k v) = s.word (courseAddr k v) := by
    intro v h0 h1' h15
    rw [w]
    rw [State.bumpCourse_word _ _ _ h2 (ne v 0 h0), State.setCourseState_word _ _ _ _ h1 (ne v 1 h1'),
      State.word_setWord_ne _ _ _ _ h (by simp) (ne v 15 h15)]
  refine ⟨?_, ?_, ?_, ?_, ?_, ?_⟩
  · exact State.courseFigures_congr fun v h6 h13 => keep v (by omega) (by omega) (by omega)
  · rw [State.courseState_congr (s := (s.setWord (courseAddr k 15) s.time).setCourseState k .closed),
      State.courseState_setCourseState _ _ _ h1]
    rw [w]
    exact State.word_setWord_ne _ _ _ _ h2 (by simp) (ne 1 0 (by omega))
  · rw [w]
    rw [State.bumpCourse_word _ _ _ h2 (ne 15 0 (by omega)), State.setCourseState_word _ _ _ _ h1 (ne 15 1 (by omega)),
      State.word_setWord _ _ _ h (by simp)]
  · rw [w]
    rw [State.bumpCourse_count _ _ h2, State.setCourseState_word _ _ _ _ h1 (ne 0 1 (by omega)),
      State.word_setWord_ne _ _ _ _ h (by simp) (ne 0 15 (by omega))]
  · simp [State.closeCourse]
  · simp [State.closeCourse, State.raise]

/-! ### Counting (R33, R34) -/

/-- Figures written in one update of the record. -/
theorem State.update_spec (s : State) (k : Slot) (f : CourseFigures) (h : s.book.cells.wf = true) (hf : FiguresFit f) :
    ((s.setCourseFigures k f).bumpCourse k).courseFigures k = f ∧
    ((s.setCourseFigures k f).bumpCourse k).courseState k = s.courseState k ∧
    ((s.setCourseFigures k f).bumpCourse k).word (courseAddr k 0) = s.word (courseAddr k 0) + 2 := by
  have h1 := State.setCourseFigures_wf s k f h
  have ne : ∀ v, v ≠ 0 → courseAddr k v + 4 ≤ courseAddr k 0 ∨ courseAddr k 0 + 4 ≤ courseAddr k v := by
    intro v hv
    unfold courseAddr
    omega
  obtain ⟨⟨a1, a2, a3, a4, a5, a6, a7, a8, a9, a10⟩, ⟨d1, d2⟩, ⟨b1, b2⟩, z1, z2⟩ := hf
  have fig := s.courseFigures_setCourseFigures k f h a1 a2 a3 a4 a5 a6 a7 a8 a9 a10 d1 d2 b1 b2 z1 z2
  have low : ∀ v, v < 6 → (s.setCourseFigures k f).word (courseAddr k v) = s.word (courseAddr k v) := by
    intro v hv
    refine State.word_of_read fun x hx1 hx2 => State.read_setCourseFigures_ne _ _ _ _ h ?_
    unfold courseAddr at *
    omega
  refine ⟨?_, ?_, ?_⟩
  · rw [← fig]
    exact State.courseFigures_congr fun v h6 h13 => by
      rw [fig]
      exact State.word_setWord_ne _ _ _ _ h1 (by simp) (ne v (by omega))
  · refine State.courseState_congr ?_
    rw [← low 1 (by omega)]
    exact State.word_setWord_ne _ _ _ _ h1 (by simp) (ne 1 (by omega))
  · unfold State.bumpCourse
    rw [State.word_setWord _ _ _ h1 (by simp), low 0 (by omega)]

theorem State.update_read (s : State) (k : Slot) (f : CourseFigures) (x : Nat) (h : s.book.cells.wf = true)
    (hx : x < courseAddr k 0 ∨ courseAddr k 0 + 64 ≤ x) :
    ((s.setCourseFigures k f).bumpCourse k).book.cells.read x = s.book.cells.read x := by
  rw [State.bumpCourse_read _ _ _ (State.setCourseFigures_wf s k f h) (by omega),
    State.read_setCourseFigures_ne _ _ _ _ h (by unfold courseAddr at *; omega)]

/-- Outside the range of the active course nothing is counted (R33). -/
theorem State.countTerminal_uncounted (s : State) (i : EntryIx) (e : EntryState) (h : Uncounted s i) :
    s.countTerminal i e = s := by
  unfold State.countTerminal
  split
  · rfl
  · rename_i k hk
    rw [if_neg]
    intro hi
    exact h k ⟨hk, hi⟩

/-- The figures that counting an entry of the active course writes (R33, R42). -/
def State.countedFigures (s : State) (k : Slot) (i : EntryIx) (e : EntryState) : CourseFigures :=
  s.recomputeZc k i e
    (s.countIn i e { s.courseFigures k with remaining := (s.courseFigures k).remaining - 1 })

/-- Counting an entry of the active course: its record takes the figures, and closes when nothing remains (R33, R38). -/
theorem State.countTerminal_spec (s : State) (k : Slot) (i : EntryIx) (e : EntryState) (h : s.book.cells.wf = true)
    (ha : InActive s k i) (hf : FiguresFit (s.countedFigures k i e)) :
    TakesFigures k (s.countedFigures k i e) s (s.countTerminal i e) := by
  have e1 : s.countTerminal i e =
      if (s.countedFigures k i e).remaining = 0 then
        ((s.setCourseFigures k (s.countedFigures k i e)).bumpCourse k).closeCourse k
      else (s.setCourseFigures k (s.countedFigures k i e)).bumpCourse k := by
    unfold State.countTerminal
    rw [ha.1]
    simp only [ha.2, if_true]
    rfl
  generalize s.countedFigures k i e = f at *
  obtain ⟨u1, u2, u3⟩ := s.update_spec k f h hf
  have wf1 := State.bumpCourse_wf _ k (State.setCourseFigures_wf s k f h)
  have hs : ((s.setCourseFigures k f).bumpCourse k).seq = s.seq := by simp
  have ht : ((s.setCourseFigures k f).bumpCourse k).time = s.time := by simp
  rw [e1]
  refine ⟨?_, ?_, ?_⟩
  · split
    · rw [(State.closeCourse_spec _ k wf1).1, u1]
    · exact u1
  · intro hr
    rw [if_neg hr]
    exact ⟨hs, u2, u3, by simp [hasCause]⟩
  · intro hr
    rw [if_pos hr]
    obtain ⟨c1, c2, c3, c4, c5, c6⟩ := State.closeCourse_spec _ k wf1
    refine ⟨?_, c2, ?_, ?_, ?_⟩
    · rw [c5, hs, u1]
    · rw [c3, ht]
    · rw [c4, u3, BitVec.add_assoc]
      rfl
    · simp [hasCause, c6, causeMask_bit]

/-- Counting keeps every byte outside the active course's record. -/
theorem State.countTerminal_read (s : State) (i : EntryIx) (e : EntryState) (x : Nat) (h : s.book.cells.wf = true)
    (hx : ∀ k, InActive s k i → x < courseAddr k 0 ∨ courseAddr k 0 + 64 ≤ x) :
    (s.countTerminal i e).book.cells.read x = s.book.cells.read x := by
  unfold State.countTerminal
  split
  · rfl
  · rename_i k hk
    split
    · rename_i hi
      have wf1 := fun f => State.bumpCourse_wf _ k (State.setCourseFigures_wf s k f h)
      dsimp only
      split
      · rw [State.closeCourse_read _ _ _ (wf1 _) (hx k ⟨hk, hi⟩), State.update_read _ _ _ _ h (hx k ⟨hk, hi⟩)]
      · rw [State.update_read _ _ _ _ h (hx k ⟨hk, hi⟩)]
    · rfl

/-- Counting keeps the words of every entry. -/
theorem State.countTerminal_entryWord (s : State) (i j : EntryIx) (e : EntryState) (w : Nat)
    (h : s.book.cells.wf = true) : (s.countTerminal i e).word (entryAddr j w) = s.word (entryAddr j w) :=
  State.word_of_read fun x h1 h2 => State.countTerminal_read _ _ _ _ h fun k _ => by
    unfold entryAddr courseAddr at *
    omega

/-! ### Making an entry terminal (R6) -/

theorem State.finishEntry_read (s : State) (i : EntryIx) (e : EntryState) (r : ResultCode) (x : Nat)
    (h : s.book.cells.wf = true) (hx : ∀ a ∈ terminalWords i, x < a.1 ∨ a.1 + a.2 ≤ x) :
    (s.finishEntry i e r).book.cells.read x = s.book.cells.read x := by
  have h1 := State.setResult_wf s i r h
  have h2 := State.setWord_wf _ (entryAddr i 13) s.time (by simp) h1
  have x0 := hx (entryAddr i 0, 4) (by simp [terminalWords])
  have x7 := hx (entryAddr i 7, 4) (by simp [terminalWords])
  have x13 := hx (entryAddr i 13, 4) (by simp [terminalWords])
  unfold State.finishEntry State.setEntryState
  rw [State.read_setWord_ne _ _ _ _ h2 (by simp) x0, State.read_setWord_ne _ _ _ _ h1 (by simp) x13]
  unfold State.setResult
  rw [State.read_setWord_ne _ _ _ _ h (by simp) x7]

/-- The 4-bit field written into a word reads back, and the bits below it stand. -/
theorem putField_result (v : Word) (n : Nat) (hn : n < 16) :
    field (putField v 16 4 n) 16 4 = n ∧ field (putField v 16 4 n) 0 16 = field v 0 16 := by
  have key : ∀ m : Fin 16, ∀ j : Fin 4,
      (BitVec.ofNat 32 (m.val % 2 ^ 4 * 2 ^ 16)).getLsbD (16 + j.val) = m.val.testBit j.val := by decide
  have low : ∀ m : Fin 16, ∀ j : Fin 16, (BitVec.ofNat 32 (m.val % 2 ^ 4 * 2 ^ 16)).getLsbD j.val = false := by decide
  have mask : ∀ j : Fin 4, (fieldMask 16 4).getLsbD (16 + j.val) = true := by decide
  have mlow : ∀ j : Fin 16, (fieldMask 16 4).getLsbD j.val = false := by decide
  constructor
  · have : (putField v 16 4 n).extractLsb' 16 4 = BitVec.ofNat 4 n := by
      apply BitVec.eq_of_getLsbD_eq
      intro j hj
      rw [BitVec.getLsbD_extractLsb', putField, BitVec.getLsbD_or, BitVec.getLsbD_and, BitVec.getLsbD_not,
        mask ⟨j, hj⟩, key ⟨n, hn⟩ ⟨j, hj⟩, BitVec.getLsbD_ofNat]
      simp [hj]
    unfold field
    rw [this, BitVec.toNat_ofNat]
    omega
  · have : (putField v 16 4 n).extractLsb' 0 16 = v.extractLsb' 0 16 := by
      apply BitVec.eq_of_getLsbD_eq
      intro j hj
      rw [BitVec.getLsbD_extractLsb', BitVec.getLsbD_extractLsb', putField, BitVec.getLsbD_or, BitVec.getLsbD_and,
        BitVec.getLsbD_not, Nat.zero_add, mlow ⟨j, hj⟩, low ⟨n, hn⟩ ⟨j, hj⟩]
      have : j < 32 := by omega
      simp [this]
    unfold field
    rw [this]

theorem resultCode_lt (r : ResultCode) : resultCodeOf r < 16 := by cases r <;> decide

/-- What an entry reads once it has been made terminal (R6). -/
theorem State.finishEntry_spec (s : State) (i : EntryIx) (e : EntryState) (r : ResultCode)
    (h : s.book.cells.wf = true) :
    (s.finishEntry i e r).entryState i = some e ∧ ResultOf i r s (s.finishEntry i e r) ∧
    (s.finishEntry i e r).word (entryAddr i 13) = s.time := by
  have h1 := State.setResult_wf s i r h
  have h2 := State.setWord_wf _ (entryAddr i 13) s.time (by simp) h1
  have ne : ∀ v w, v ≠ w → entryAddr i v + 4 ≤ entryAddr i w ∨ entryAddr i w + 4 ≤ entryAddr i v := by
    intro v w hvw
    unfold entryAddr
    omega
  have w7 : (s.finishEntry i e r).word (entryAddr i 7) = putField (s.word (entryAddr i 7)) 16 4 (resultCodeOf r) := by
    unfold State.finishEntry State.setEntryState
    rw [State.word_setWord_ne _ _ _ _ h2 (by simp) (ne 7 0 (by omega)),
      State.word_setWord_ne _ _ _ _ h1 (by simp) (ne 7 13 (by omega))]
    unfold State.setResult
    rw [State.word_setWord _ _ _ h (by simp)]
  refine ⟨State.entryState_setEntryState _ _ _ h2, ?_, ?_⟩
  · unfold ResultOf
    rw [w7]
    exact putField_result _ _ (resultCode_lt r)
  · unfold State.finishEntry State.setEntryState
    rw [State.word_setWord_ne _ _ _ _ h2 (by simp) (ne 13 0 (by omega)), State.word_setWord _ _ _ h1 (by simp)]

end Sys2Proof.Machine
end

