-- ==== Sys2Proof/Tests/Slice0.lean ====
section
/-! SUPPORT. Tests: ill-formed commands that the checks refuse, accesses decoded from the layouts of chapter 11, the manual's
worked figures, one step of a few commands, and a witness for the hypotheses of every statement. -/

namespace Sys2Proof.Tests

open Sys2Proof.Machine

set_option Elab.async false

/-! ### Well-formedness: what each check refuses -/

theorem test_refuses_command_code_5 : Instr.wellFormed (.refusedCommandCode 5) = false := by decide
theorem test_refuses_cause_read_of_no_byte : Instr.wellFormed (.causeRead 0) = false := by decide
theorem test_refuses_whole_control_write_as_ignored : Instr.wellFormed (.ignoredRegisterWrite .control 0xF 1) = false := by
  decide
theorem test_refuses_unaligned_partial_write : Instr.wellFormed (.partialBookWrite 0x0802 0x3 1) = false := by decide
theorem test_refuses_whole_write_as_partial : Instr.wellFormed (.partialBookWrite 0x0800 0xF 1) = false := by decide
theorem test_refuses_jog_word_as_spare : Instr.wellFormed (.spareWordWrite 0x0010 1) = false := by decide
theorem test_refuses_image_as_status_block : Instr.wellFormed (.statusBlockWrite 0x0600 1) = false := by decide
theorem test_refuses_short_tracker_frame : Instr.wellFormed (.trackerFrame (List.replicate 17 0xA5)) = false := by decide
theorem test_refuses_unordered_writes_during_a_latch :
    (∀ l, Instr.wellFormed (.powerOn ⟨l, [⟨.openTime, 1, false⟩, ⟨.openTime, 2, true⟩]⟩ false .notBegun) = false) ∧
      (∀ l, Instr.wellFormed (.hostPortReset ⟨l, [⟨.zmax, 1, false⟩, ⟨.openTime, 2, true⟩, ⟨.zmax, 3, true⟩]⟩) = false) ∧
      (∀ l, Instr.wellFormed (.reset ⟨l, [⟨.slewZ, 1, false⟩, ⟨.slewZ, 2, true⟩]⟩) = false) ∧
      Instr.wellFormed (.courseActivation ⟨[⟨.openTime, 1, false⟩, ⟨.openTime, 2, true⟩], []⟩) = false :=
  ⟨fun _ => rfl, fun _ => rfl, fun _ => rfl, rfl⟩
theorem test_refuses_gap_after_whole_frame : Instr.wellFormed (.trackerByteGap (List.replicate 18 0xA5)) = false := by decide
theorem test_refuses_short_command_reply : Instr.wellFormed (.commandReply [0x60, 0, 0, 0]) = false := by decide
theorem test_refuses_long_query_reply : Instr.wellFormed (.queryReply (List.replicate 14 0)) = false := by decide
theorem test_refuses_bad_reply_before_its_count : Instr.wellFormed (.replyNotGood [0x60, 0, 0]) = false := by decide
theorem test_refuses_confirm_as_other_code : Instr.wellFormed (.stateWriteDiscarded (.entry 3) 0x0C) = false := by decide
theorem test_refuses_close_request_as_other_code :
    Instr.wellFormed (.stateWriteDiscarded (.course 3) 0x04) = false := by decide

/-! ### Accesses decoded (R2, R169, R185, R197) -/

theorem test_no_table_word_spells_a_command : decodeTableWord 32 0x101 = none := by decide +kernel
/-- 11.2: entry 991 stands at 0xFFC0, its state word first; POSTED is 0x01, and the other bits are ignored. -/
theorem test_entry_991_posted : bookWrite 0xFFC0 0xF 0xABCDEF01 = .entryPostWrite 991 := by decide +kernel
/-- 11.2: word 6 of entry 1, at 0x0840 + 24, is the target yaw. -/
theorem test_entry_1_target_yaw : bookWrite 0x0858 0xF 9000 = .entryFieldWrite 1 .targetYaw 9000 := by decide +kernel
/-- 11.3: the state word of slot 2 is word 1, at 0x0180 + 4; CLOSE_REQUEST is 0x04. -/
theorem test_slot_2_close_request : bookWrite 0x0184 0xF 4 = .closeRequest 2 := by decide +kernel
/-- 11.4 and 11.6: the boom word, the recovery mode and the checksum word of the image. -/
theorem test_header_and_image_words :
    bookWrite 0x0004 0xF 1 = .boomWordWrite 1 ∧ bookWrite 0x0078 0xF 2 = .profileWordWrite .recoveryMode 2 ∧
      bookWrite 0x067C 0xF 7 = .calImageWrite 31 7 := by decide +kernel
theorem test_partial_write_is_partial : bookWrite 0x0800 0x1 1 = .partialBookWrite 0x0800 0x1 1 := by decide +kernel
/-- R169: a CONTROL write is the request level first, then the command; STOP is code 2. -/
theorem test_control_write_is_two_events (x : InitInputs) : controlWrite x 0x102 = [.manualRequestSet, .stop] := by rfl

/-- 10.1: the registers stand one word apart, MASK_SET at 0x14; a whole write to STATE is ignored, and only a read of CAUSE
changes the part. -/
theorem test_register_offsets (x : InitInputs) :
    registerWrite x 0x14 0xF 5 = [.maskSet 5] ∧ registerWrite x 0x08 0xF 5 = [.ignoredRegisterWrite .state 0xF 5] ∧
      registerWrite x 0x18 0x3 5 = [.ignoredRegisterWrite .maskClear 0x3 5] ∧ registerRead 0x0C 0x1 = [.causeRead 0x1] ∧
      registerRead 0x1C 0xF = [] := ⟨rfl, rfl, rfl, rfl, rfl⟩
/-- R1, R182: a narrow read returns the bytes it asks for; the second byte of IDENT 0x04160003 and the two upper ones. -/
theorem test_narrow_reads :
    registerReadData .reset 0x00 0x2 = 0 ∧ registerReadData .reset 0x00 0xC = 0x04160000 ∧
      State.reset.hostRead 0x0044 0xF = 8000 ∧ State.reset.hostRead 0x0044 0x1 = 0x40 := by decide +kernel

/-! ### The manual's figures -/

/-- R198: a FEED of 1250 to feeder B. -/
theorem test_feed_frame : commandFrame .feederB (.feed 1250) = [0x51, 0x21, 0x02, 0xE2, 0x04, 0xA6] := by decide
/-- R198: feeder B's ACCEPTED reply. -/
theorem test_accepted_reply : judgeReply .feederB false [0x61, 0, 0, 0, 0x9F] = .good .accepted := by decide
/-- R199 with the S of sample 3 of 7.8: frame 3, drive ON; the check byte makes the byte sum 0. -/
theorem test_set_point_frame :
    setPointFrame 3 true ⟨-15, -10, -13, 10⟩ = [0x03, 0x01, 0xF1, 0xFF, 0xF6, 0xFF, 0xF3, 0xFF, 0x0A, 0x00, 0x1B] := by
  decide
/-- 11.5: the void brick of former entry 301. -/
theorem test_content_word : contentWord (.void (some 301)) = 0x0003012D := by decide
/-- The worked figures of 2.7. -/
theorem test_carried_corrections :
    computeZc (-23) 14 30 = -1 ∧ computeZc 517 12 30 = 30 ∧ computeZc 0 0 30 = 0 ∧ computeZc (-7) 2 30 = -3 ∧
      computeZc 17 1 30 = 17 ∧ computeZc 26 2 30 = 13 ∧ computeZc (-14) 3 30 = -4 := by decide
/-- R110: yaw values of 35990 and 15 agree under the default window of 50. -/
theorem test_yaw_agrees_across_zero : agree .default ⟨0, 0, 0, 35990⟩ ⟨0, 0, 0, 15⟩ = true := by decide
/-- R18: a threshold pair is latched with the off threshold below the on threshold. -/
theorem test_unsteady_off_is_held_below_on : unsteadyOffOf 6 15 = 5 ∧ unsteadyOffOf 6 2 = 2 := by decide

/-- The offset, ranges and profile of 7.8. -/
def profile78 : Profile := { Profile.default with settleCount := 3 }
def range78 : Pose := ⟨600, 600, 400, 300⟩
def attempt78 : Attempt := ⟨410, .lay, false, ⟨152400, 87300, 12600, 9000⟩, -3, false, false⟩
def neutral78 (h : Pose) : Pose := neutralPose h ⟨0, -1250, -3400, 0⟩
def error78 (h : Pose) : Pose := poseError (effectiveTarget profile78 attempt78 (neutral78 h)) (neutral78 h)

/-- 7.8, sample 1: G, E and S. -/
theorem test_worked_sample_1 :
    neutral78 ⟨152391, 88566, 16012, 8985⟩ = ⟨152391, 87316, 12612, 8985⟩ ∧
      error78 ⟨152391, 88566, 16012, 8985⟩ = ⟨9, -16, -15, 15⟩ ∧
      slewPose profile78 range78 ⟨9, -16, -15, 15⟩ .zero = ⟨9, -16, -15, 10⟩ := by decide
/-- 7.8, sample 3: the slew limit holds X at −15, and the residual is 5. -/
theorem test_worked_sample_3 :
    error78 ⟨152420, 88560, 16010, 8990⟩ = ⟨-20, -10, -13, 10⟩ ∧
      slewPose profile78 range78 ⟨-20, -10, -13, 10⟩ ⟨5, -10, -13, 10⟩ = ⟨-15, -10, -13, 10⟩ ∧
      poseSub ⟨-15, -10, -13, 10⟩ ⟨-20, -10, -13, 10⟩ = ⟨5, 0, 0, 0⟩ ∧
      withinTolerance profile78 .lay ⟨5, 0, 0, 0⟩ = true := by decide

/-! ### Helpers: small states -/

def allPresent : IdentityLines := ⟨.feeder, .feeder, .spreader, .gripper⟩

/-- IDLE, calibrated, with every station present and READY, the receiver on and the status block up to date. -/
def idle : State :=
  ({ State.reset with
    line := sensedLine allPresent 0 []
    cal := { State.reset.cal with valid := true }
    tracker := { State.reset.tracker with receiving := true }
    trim := { State.reset.trim with range := ⟨100, 100, 200, 50⟩ }
    control := { State.reset.control with state := .idle, sensed := true, latched := true, loaded := true }
    time := 5000 } : State).showStatus

def inState (m : MachineState) (s : State) : State := { s with control := { s.control with state := m } }

/-- IDLE's part in RUN. -/
def running : State := inState .run idle

/-- A course record with its state, range and flags. -/
def withCourse (k : Slot) (c : CourseState) (first count flags : Nat) (s : State) : State :=
  (((s.setCourseState k c).setWord (courseAddr k 2) (BitVec.ofNat 32 first)).setWord (courseAddr k 3)
    (BitVec.ofNat 32 count)).setWord (courseAddr k 4) (BitVec.ofNat 32 flags)

/-- An entry with its state and its word of kind, flags, slot and max attempts. -/
def withEntry (i : EntryIx) (e : EntryState) (kind : Nat) (s : State) : State :=
  (s.setEntryState i e).setWord (entryAddr i 1) (BitVec.ofNat 32 kind)

/-- The course of a slot is the active one, with so many entries remaining. -/
def withActive (k : Slot) (remaining : Nat) (s : State) : State :=
  ({ s with seq := { s.seq with active := some k } } : State).setWord (courseAddr k 6) (BitVec.ofNat 32 remaining)

def withList (l : List IssueRecord) (s : State) : State := { s with issue := { s.issue with list := l } }
def withFeed (f : FeedPending) (s : State) : State := { s with issue := { s.issue with feed := some f } }
def withQueue (q : List Carrier) (drive : Bool) (s : State) : State := { s with train := ⟨q, drive, false⟩ }
def withBay (b : Bay) (s : State) : State := { s with head := { s.head with bay := b } }
def withGripper (g : Gripper) (s : State) : State := { s with head := { s.head with gripper := g } }

/-- A LAY record of an entry with two attempts. -/
def layRecord (i : EntryIx) (l : Location) : IssueRecord :=
  ⟨i, 0, .lay, false, false, false, false, .zero, 0, 2, 0, false, l⟩

/-- Slot 0 is ACTIVE over entries 3 to 6: LAID, POSTED (LAY), POSTED (PROBE), ISSUED. -/
def courseRunning : State :=
  running |> withCourse 0 .active 3 4 0 |> withEntry 3 .laid 1 |> withEntry 4 .posted 0x03000001
    |> withEntry 5 .posted 0x03000002 |> withEntry 6 .issued 0x03000001 |> withActive 0 3
    |> withList [layRecord 6 .feed] |> withFeed ⟨some 6, none, .b, 0, .sent⟩

/-- The gripper holds entry 3, PLACING, in an attempt that settles. -/
def holding : State :=
  let s := running |> withCourse 0 .active 3 4 0 |> withEntry 3 .placing 1 |> withActive 0 3
    |> withList [layRecord 3 .gripper]
    |> withGripper { Gripper.cleared with state := .holding, content := .entry 3, brick := true, openTimer := some 120000 }
  { s with
    trim := { s.trim with attempt := some ⟨3, .lay, false, .zero, 0, false, false⟩, settleTimer := some 8000, settleCount := 4 }
    head := { s.head with restartTimer := some 2000 }
    tracker := { s.tracker with
      state := .tracking, history := [⟨.zero, 0⟩, ⟨.zero, 2⟩], lossTimer := some 128, sequence := some 7 } }

/-- The next state of a command, where it answers one. -/
def after (c : Instr) (s : State) : Option State :=
  match exec c s with
  | .next t => some t
  | _ => none

/-- The bytes of a tracker frame (R199). -/
def frameOf (sequence status : Byte) (x : Byte) (yaw : Byte) : List Byte :=
  withCheck [0xA5, sequence, status, x, 0, 0, 0, 0, 0, 0, 0, 0, 0, 0, 0, yaw, 0]

/-- The bytes of a QUERY reply (R198). -/
def queryBytes (p : Position) (reported operation : Byte) (result hold : Byte) : List Byte :=
  withCheck [BitVec.ofNat 8 (0x60 + positionNumber p), 0, 0, 8, reported, operation, result, 0, hold, 0, 0, 0]

/-- A QUERY to a station with an operation outstanding awaits its reply. -/
def asking (p : Position) (o : Outstanding) (s : State) : State :=
  { s with
    line := ({ s.line with transaction := some ⟨p, .query, s.time - 2⟩ } : StationLine).put p
      { s.line.at p with state := if o = .none then .ready else .busy, operation := o, nextPoll := none } }

/-- A command to a station awaits its reply. -/
def sent (p : Position) (c : StationCommand) (s : State) : State :=
  { s with line := { s.line with transaction := some ⟨p, c, s.time - 2⟩ } }

/-! ### One step of a few commands -/

/-- R171: RUN from IDLE with the four conditions. -/
theorem test_run : (after .run idle).map (fun t => t.control.state) = some .run := by decide +kernel
/-- R171: with the emergency line asserted RUN is refused. -/
theorem test_run_under_emergency :
    (after .run { idle with control := { idle.control with emergency := true } }).map
      (fun t => (t.control.state, hasCause t .cmdRefused)) = some (.idle, true) := by decide +kernel
/-- R172: STOP in RUN with an empty list goes through DRAIN to IDLE. -/
theorem test_stop_goes_through_drain : (after .stop running).map (fun t => t.control.state) = some .idle := by
  decide +kernel
/-- R53, R54: a LAY entry is ISSUED and its feed ordered from feeder A. -/
theorem test_take :
    (after (.entryTake 1) { courseRunning with issue := ⟨[], none, false⟩ }).map
      (fun t => (t.entryState 4, t.issue.feed)) = some (some .issued, some ⟨some 4, none, .a, 0, .requested⟩) := by decide +kernel
/-- R69: the brick that matches the pending feed becomes a carrier, and the entry reads TRANSIT. -/
theorem test_root_sensor :
    (after .rootSensor courseRunning).map (fun t => (t.entryState 6, t.train.queue.length, t.issue.feed)) =
      some (some .transit, 1, none) := by decide +kernel
/-- R7: a POSTED write clears the part-written fields. -/
theorem test_post :
    (after (.entryPostWrite 9) (idle.setWord (entryAddr 9 8) 5)).map (fun t => (t.entryState 9, t.word (entryAddr 9 8))) =
      some (some .posted, 0) := by decide +kernel
/-- R33, R38: the cancelling of the last remaining entry closes the course. -/
theorem test_cancel_closes :
    (after (.entryCancelWrite 4) (withActive 0 1 courseRunning)).map
      (fun t => (t.courseState 0, t.seq.pointer, t.word (courseAddr 0 0))) = some (some .closed, 1, 4) := by decide +kernel
/-- R42: a first APPLY probe of +17 makes Zc +17. -/
theorem test_probe_sets_zc :
    (after (.queryReply (queryBytes .gripper 2 0x43 3 0))
        (asking .gripper (.command .probe)
          { (courseRunning |> withCourse 0 .active 3 4 0x200 |> withEntry 6 .placing 0x802 |> withList [layRecord 6 .gripper]
              |> withGripper { Gripper.cleared with state := .probing, content := .entry 6 }) with
            trim := { running.trim with attempt := some ⟨6, .probe, false, .zero, 0, true, false⟩, settleSample := some (15, 5) } })).map
      (fun t => (t.entryState 6, t.activeZc, t.courseState 0)) = some (some .probed, 17, some .active) := by decide +kernel
/-- R195: at the end of a commit the store holds the image, and S is held within the new range. -/
theorem test_commit_end :
    (after .commitEnd
        { ((idle.setWord (imageAddr 4) 50).setWord (imageAddr 31) 50) with
          cal := { idle.cal with busy := true }, trim := { idle.trim with setPoint := ⟨60, 1, 0, 0⟩ } }).map
      (fun t => (t.trim.setPoint, t.trim.range, t.cal.valid)) = some (⟨50, 1, 0, 0⟩, ⟨50, 1, 1, 1⟩, true) := by decide +kernel
/-- R139: an assertion of the emergency line sets S to 0 and the drive OFF. -/
theorem test_emergency :
    (after .emergencyAssert { running with trim := { running.trim with setPoint := ⟨5, 5, 5, 5⟩ } }).map
      (fun t => (t.trim.setPoint, t.trim.driveEnable, t.control.state)) = some (.zero, false, .halt) := by decide +kernel
/-- R188: a read of the low byte of CAUSE leaves the bits of the other bytes. -/
theorem test_narrow_cause_read :
    (after (.causeRead 0x1) { idle with host := { idle.host with cause := 0x10821 } }).map
      (fun t => (t.host.readData, t.host.cause)) = some (0x21, 0x10800) := by decide +kernel
/-- R99, R100: the second failure of a poll of the spreader makes it UNRESPONSIVE and takes the machine to HALT. -/
theorem test_second_failure :
    (after .stationByteGap
        (asking .spreader .none { running with line := running.line.put .spreader { running.line.spreader with retry := true } })).map
      (fun t => (t.line.spreader.state, t.line.spreader.lastError, t.control.state)) =
        some (.unresponsive, 0x8002, .halt) := by decide +kernel

/-- R120, R22: two judged frames are two updates of the status block: a whole malformed one, and the one it leaves in the
receiver, which the gap ends. -/
theorem test_each_judged_frame_is_an_update :
    (after (.trackerByteGap [0xA5]) { idle with tracker := { idle.tracker with collected := List.replicate 17 0xA5 } }).map
      (fun t => (t.tracker.malformed, t.status.count - idle.status.count)) = some (2, 4) := by decide +kernel
/-- R68: a stray at the root makes one update as it is appended and another as HALT voids the train. -/
theorem test_stray_and_halt_are_two_updates :
    (after .rootSensor (withQueue [⟨some 6, none, 0, 0⟩] false running).showTrain).map
      (fun t => (t.status.count - (withQueue [⟨some 6, none, 0, 0⟩] false running).showTrain.status.count,
        t.status.fields.train)) = some (4, ⟨2, 2⟩) := by decide +kernel
/-- R200: of two writes during a latch, the one that the latch sees is taken and the later one waits in the word. -/
theorem test_write_during_a_latch :
    (after (.courseActivation ⟨[⟨.openTime, 60, true⟩, ⟨.zmax, 7, false⟩], []⟩) (running |> withCourse 0 .opened 3 4 0)).map
      (fun t => (t.seq.profile.openTime, t.seq.profile.zmax, t.word (profileAddr .zmax))) = some (60, 30, 7) := by
  decide +kernel
/-- R75: a lower limit latched since finds no jam before the next increase. -/
theorem test_no_jam_without_an_increase :
    (after .jam (withQueue [⟨none, none, 0, 30000⟩] true running)).map (fun t => hasCause t .trainFault) = some false := by
  decide +kernel
/-- R163: a RELEASE that is wanted but not yet placed leaves the voided brick HOLDING. -/
theorem test_void_before_release_is_placed :
    (after .abort (withGripper { Gripper.cleared with state := .releasing, content := .entry 3, brick := true } running)).map
      (fun t => (t.head.gripper.state, t.head.gripper.content)) = some (.holding, .void (some 3)) := by decide +kernel
/-- R162: an EJECT BAY that fails after a second grant returns the bay to its state before the first. -/
theorem test_eject_granted_twice_returns_the_bay :
    (withBay { Bay.cleared with state := .ejecting, content := .void none, ejectFrom := .spread } running).head.bay.markEjecting
      = { Bay.cleared with state := .ejecting, content := .void none, ejectFrom := .spread } := by decide +kernel
/-- R196: the end of a commit whose bad image has been tested no earlier rejects it. -/
theorem test_bad_commit_is_rejected_at_its_end :
    (after .commitEnd { idle with cal := { idle.cal with busy := true } }).map
      (fun t => (t.cal.busy, hasCause t .calRejected)) = some (false, true) := by decide +kernel

/-! ### Witnesses: states and operands that meet the hypotheses of each statement -/

theorem witness_StepRunsFrontCommand : ({ idle with pending := [.run, .stop] } : State).pending = .run :: [.stop] := rfl

theorem witness_IdleStepCountsOneMillisecond :
    idle.pending = [] ∧ idle.train.drive = false ∧
      (withQueue [⟨none, none, 0, 3⟩] true running).pending = [] ∧
      (withQueue [⟨none, none, 0, 3⟩] true running).train.drive = true ∧
      (withQueue [⟨none, none, 0, 3⟩] true running).train.queue = ⟨none, none, 0, 3⟩ :: [] ∧ 4 = min 60000 (3 + 1) := by
  decide +kernel

theorem witness_RefusedCommandChangesNothing :
    Refused .reset .run ∧ Refused running .run ∧ Refused .reset .stop ∧
      Refused { inState .halt idle with control := { (inState .halt idle).control with emergency := true } } .stop ∧
      Refused .reset .abort ∧ Refused .reset (.reset ⟨allPresent, []⟩) ∧ Refused running .commitCal ∧
      Refused idle (.refusedCommandCode 9) := by
  simp only [Refused, RunAllowed, CommitAllowed]; decide +kernel

theorem witness_MachineStateMovesAsCommanded :
    RunAllowed idle ∧ (∀ m ∈ [MachineState.idle, .run, .drain, .halt], ¬Refused (inState m idle) .stop) ∧
      (idle.control.state = .idle ∧ (inState .drain idle).control.state = .drain ∧
        (inState .halt idle).control.state = .halt) ∧
      (running.control.state = .run ∧ Drained running) ∧
      (courseRunning.control.state = .run ∧ ¬Drained courseRunning ∧ ¬Refused courseRunning .stop) ∧
      ((inState .init idle).control.state = .init ∧ (inState .init idle).control.sensed = true ∧
        (inState .init idle).control.latched = true ∧ (inState .init idle).control.loaded = true ∧
        (inState .init idle).control.haltHeld = false ∧ (inState .init idle).control.emergency = false) ∧
      ({ (inState .init idle).control with haltHeld := true }.haltHeld = true) ∧
      ((inState .drain idle).control.state = .drain ∧ Drained (inState .drain idle)) := by
  simp only [RunAllowed, Refused, Drained]; decide +kernel

/-- The bay is SPREADING, with its command on the line or only wanted. -/
def spreading (x : Option Transaction) : State :=
  let s := withBay { Bay.cleared with state := .spreading, content := .entry 3 } running
  { s with line := { s.line with transaction := x } }
/-- The gripper is TAKING the spread brick of entry 3. -/
def takeWaiting : State :=
  withGripper { Gripper.cleared with state := .taking, content := .entry 3 }
    (withBay ⟨.spread, .entry 3, some 8, some 900, .empty⟩ running)
/-- The gripper holds the brick of entry 3, past a decision. -/
def decidedBrick (g : GripperState) : State :=
  withGripper { Gripper.cleared with state := g, content := .entry 3, brick := true } running

theorem witness_AbortEntersHalt :
    (MayHalt courseRunning ∧ BookWf courseRunning ∧ courseRunning.seq.closeMark = false) ∧
      (courseRunning.issue.feed = some ⟨some 6, none, .b, 0, .sent⟩ ∧
        (withFeed ⟨some 6, none, .b, 0, .requested⟩ courseRunning).issue.feed = some ⟨some 6, none, .b, 0, .requested⟩) ∧
      (inState .halt idle).control.state = .halt := by
  simp only [MayHalt, BookWf]; decide +kernel

/-- The ways in which a place at the head is voided: granted and not. -/
theorem witness_HeadVoided :
    (∃ i, (spreading none).head.bay.content = .entry i ∧ (spreading none).head.bay.state = .spreading ∧
        ¬Granted (spreading none) .spread) ∧ Granted (spreading (some ⟨.spreader, .spread, 0⟩)) .spread ∧
      (∃ i, takeWaiting.head.bay.content = .entry i ∧ takeWaiting.head.gripper.state = .taking ∧ ¬Granted takeWaiting .take) ∧
      Granted (sent .gripper .take takeWaiting) .take ∧
      (∃ i, holding.head.gripper.content = .entry i ∧ holding.head.gripper.state = .holding ∧
        holding.head.gripper.brick = true) ∧
      (∀ g ∈ [GripperState.releasing, .probing], (decidedBrick g).head.gripper.content = .entry 3 ∧
        (decidedBrick g).head.gripper.state = g) ∧
      (¬Granted (decidedBrick .releasing) .release ∧ Granted (sent .gripper .release (decidedBrick .releasing)) .release) ∧
      (¬Granted (decidedBrick .probing) .probe ∧ Granted (sent .gripper .probe (decidedBrick .probing)) .probe) := by
  have n : ∀ c, ¬Granted running c := by
    intro c h
    rcases h with ⟨x, h, _⟩ | h | h | h | h <;> exact absurd h (by simp [running, inState, idle, State.showStatus,
      State.updateStatus, State.withStatus, State.reset, sensedLine, sensedStation, kindFits, allPresent, Station.unsensed])
  exact ⟨⟨3, rfl, rfl, n _⟩, .inl ⟨_, rfl, rfl⟩, ⟨3, rfl, rfl, n _⟩, .inl ⟨_, rfl, rfl⟩, ⟨3, rfl, rfl, rfl⟩,
    by intro g hg; simp only [List.mem_cons, List.not_mem_nil, or_false] at hg; rcases hg with rfl | rfl <;> exact ⟨rfl, rfl⟩,
    ⟨n _, .inl ⟨_, rfl, rfl⟩⟩, n _, .inl ⟨_, rfl, rfl⟩⟩

def requested (s : State) : State := { s with control := { s.control with manualRequest := true } }

/-- The gripper is TAKING and its TAKE waits at the arbiter. -/
def taking : State :=
  withGripper { Gripper.cleared with state := .taking, content := .entry 3 }
    { running with line := { running.line with headRequests := [.take] } }

theorem witness_ManualControlIsRequestedAndGranted :
    ((requested holding).control.manualRequest = true ∧ (requested holding).control.manualGrant = false ∧
      (requested holding).control.state ≠ .init ∧ (requested holding).head.gripper.state = .holding) ∧
      ((requested taking).control.manualRequest = true ∧ (requested taking).control.manualGrant = false ∧
        (requested taking).control.state ≠ .init ∧ (requested taking).head.gripper.state = .taking ∧
        .take ∈ (requested taking).line.headRequests) := by decide +kernel

theorem witness_EmergencyLineStopsAndRestoresTheDrive :
    (running.control.emergency = false ∧ MayHalt running ∧ running.trim.sending = false) ∧
      ({ running.trim with sending := true }.sending = true) ∧
      (State.reset.control.emergency = false ∧ State.reset.control.state = .init ∧ ¬MayHalt .reset) ∧
      ((inState .halt idle).control.emergency = false ∧ (inState .halt idle).control.state = .halt) ∧
      ({ idle with control := { idle.control with emergency := true } } : State).control.emergency = true := by
  simp only [MayHalt]; decide +kernel

theorem witness_ProtectedWordsTakeNoWrite :
    InFlight courseRunning 6 ∧ WritesEntry 6 (.entryPostWrite 6) ∧ WritesEntry 6 (.entryFreeWrite 6) ∧
      WritesEntry 6 (.entryCancelWrite 6) ∧ WritesEntry 6 (.entryFieldWrite 6 .targetX 1) ∧
      WritesEntry 6 (.stateWriteDiscarded (.entry 6) 0x02) := by
  simp only [InFlight, WritesEntry]; decide +kernel

theorem witness_ProtectedWordsTakeNoWrite_codes :
    (courseRunning.entryState 3 = some .laid ∧ EntryState.inFlight .laid = false ∧ courseRunning.entryCode 3 = 0x08) ∧
      (InFlight courseRunning 6 ∧ courseRunning.entryCode 3 ≠ 0x02) ∧
      ((withCourse 1 .closed 0 1 0 idle).courseState 1 = some .closed ∧
        (withCourse 1 .closed 0 1 0 idle).courseCode 1 = 0x03) ∧
      (courseRunning.courseState 0 = some .active ∧ idle.courseCode 1 ≠ 0x02) ∧
      (∀ code ∈ [0x08, 0x02], Instr.wellFormed (.stateWriteDiscarded (.entry 3) code) = true) ∧
      (∀ code ∈ [0x03, 0x02], Instr.wellFormed (.stateWriteDiscarded (.course 1) code) = true) := by
  simp only [InFlight]; decide +kernel

/-- The close-request mark stands over the active course, and an entry of its range reads FREE. -/
def closing : State := let s := withEntry 4 .free 1 courseRunning; { s with seq := { s.seq with closeMark := true } }

theorem witness_PostingClearsPartFields :
    (BookWf idle ∧ idle.entryState 9 = some .free ∧ ¬UnderCloseRequest idle 9) ∧
      (BookWf closing ∧ closing.entryState 4 = some .free ∧ UnderCloseRequest closing 4 ∧ InActive closing 0 4 ∧
        FiguresFit { closing.courseFigures 0 with remaining := 2, cancelled := 1 }) ∧
      courseRunning.entryState 4 = some .posted ∧
      (courseRunning.entryState 3 = some .laid ∧ courseRunning.entryState 6 = some .issued) := by
  simp only [BookWf, UnderCloseRequest, InActive, FiguresFit]; decide +kernel

theorem witness_FreeWriteGivesTheRoomBack :
    (BookWf courseRunning ∧ courseRunning.entryState 4 = some .posted ∧ ¬UnderCloseRequest courseRunning 4) ∧
      (BookWf closing ∧ closing.entryState 5 = some .posted ∧ UnderCloseRequest closing 5 ∧ InActive closing 0 5) ∧
      (BookWf (withEntry 9 .failed 1 courseRunning) ∧ (withEntry 9 .failed 1 courseRunning).entryState 9 = some .failed ∧
        EntryState.terminal .failed = true ∧ Uncounted (withEntry 9 .failed 1 courseRunning) 9 ∧
        (withEntry 9 .failed 1 courseRunning).heldByActive 9 = false) ∧
      idle.entryState 9 = some .free ∧
      (courseRunning.entryState 3 = some .laid ∧ EntryState.terminal .laid = true ∧
        courseRunning.entrySlot 3 = (0 : Slot).val ∧ courseRunning.courseState 0 = some .active ∧
        courseRunning.inCourse 0 3 = true) := by
  simp only [BookWf, UnderCloseRequest, Uncounted, InActive]; decide +kernel

/-- Entry 3 of slot 0's range is terminal and its slot field names slot 2. -/
def misplaced (e : EntryState) : State := withEntry 3 e 0x00020801 courseRunning

/-- The close-request mark as it is said to stand. -/
def marked (m : Bool) (s : State) : State := { s with seq := { s.seq with closeMark := m } }

theorem witness_FreeWriteGivesTheRoomBack_counts :
    (∀ e ∈ [EntryState.laid, .probed, .failed, .cancelled], ∀ m : Bool,
      BookWf (marked m (misplaced e)) ∧ (marked m (misplaced e)).entryState 3 = some e ∧ e.terminal = true ∧
        InActive (marked m (misplaced e)) 0 3 ∧ (marked m (misplaced e)).heldByActive 3 = false ∧
        (marked m (misplaced e)).seq.closeMark = m ∧ ((marked m (misplaced e)).courseFigures 0).remaining < 65535 ∧
        ((marked m (misplaced e)).courseFigures 0).cancelled < 65535) ∧
      (∃ f, TakesOut (misplaced .laid) 0 3 .laid f ∧ FiguresFit f ∧
        FiguresFit { f with remaining := f.remaining - 1, cancelled := f.cancelled + 1 } ∧ f.remaining - 1 ≠ 0) ∧
      ((misplaced .probed).entryApply 3 = true ∧
        (((misplaced .probed).setWord (courseAddr 0 8) 0x00010000).courseFigures 0).applied ≠ 0) ∧
      ((withActive 0 0 (misplaced .laid)).courseFigures 0).remaining + 1 - 1 = 0 := by
  refine ⟨?_, ⟨_, rfl, ?_, ?_, ?_⟩, ?_, ?_⟩
  · simp only [BookWf, InActive]; decide +kernel
  · unfold FiguresFit; decide +kernel
  · unfold FiguresFit; decide +kernel
  · decide +kernel
  · decide +kernel
  · decide +kernel

theorem witness_CancelledEntryIsCounted :
    (BookWf courseRunning ∧ courseRunning.entryState 4 = some .posted ∧ InActive courseRunning 0 4 ∧
        FiguresFit { courseRunning.courseFigures 0 with remaining := 2, cancelled := 1 }) ∧
      (idle.entryState 9 = some .free ∧ Uncounted idle 9) ∧
      (withEntry 9 .cancelled 1 idle).entryState 9 = some .cancelled ∧
      (courseRunning.entryState 3 = some .laid ∧ EntryState.terminal .laid = true) := by
  simp only [BookWf, InActive, Uncounted, FiguresFit]; decide +kernel

theorem witness_ConfirmSetsTheMark :
    ((withEntry 3 .placing 0x401 holding).entryState 3 = some .placing ∧
        (withEntry 3 .placing 0x401 holding).entryKind 3 = kindLay ∧
        (withEntry 3 .placing 0x401 holding).entryHold 3 = true ∧
        (withEntry 3 .placing 0x401 holding).head.gripper.content = .entry 3) ∧
      ((withEntry 3 .placing 0x401 idle).entryHold 3 = true ∧
        (withEntry 3 .placing 0x401 idle).head.gripper.content ≠ .entry 3) ∧
      (idle.entryState 3 ≠ some .placing ∧ holding.entryHold 3 = false) := by decide +kernel

theorem witness_FieldWritesAreKept :
    (BookWf courseRunning ∧ courseRunning.entryState 4 = some .posted ∧ EntryState.inFlight .posted = false) ∧
      BookWf idle ∧ idle.cal.busy = false ∧ ({ idle with cal := { idle.cal with busy := true } } : State).cal.busy = true := by
  simp only [BookWf]; decide +kernel

theorem witness_CourseRecordTakesHostWrites :
    (BookWf idle ∧ idle.courseState 1 = some .empty) ∧
      (∀ c ∈ [CourseState.opened, .closed],
        BookWf (withCourse 1 c 0 1 0 idle) ∧ (withCourse 1 c 0 1 0 idle).courseState 1 = some c) ∧
      courseRunning.courseState 0 = some .active ∧ CourseWord.flags ≠ .updateCount := by
  simp only [BookWf]; decide +kernel

theorem witness_CloseRequestCancelsOpenEntries :
    (BookWf courseRunning ∧ courseRunning.courseState 0 = some .active ∧ courseRunning.seq.active = some 0 ∧
        courseRunning.seq.closeMark = false ∧
        2 = ((courseRunning.courseEntries 0).filter fun i =>
          courseRunning.entryState i = some .free ∨ courseRunning.entryState i = some .posted).length ∧
        2 < (courseRunning.courseFigures 0).remaining ∧ (courseRunning.courseFigures 0).cancelled + 2 < 65536) ∧
      (2 = ((withActive 0 2 courseRunning).courseFigures 0).remaining ∧
        (courseRunning.inCourse 0 4 = true ∧ courseRunning.inCourse 0 9 = false)) ∧
      (closing.courseState 0 = some .active ∧ closing.seq.closeMark = true) ∧ idle.courseState 0 ≠ some .active := by
  simp only [BookWf]; decide +kernel

theorem witness_HeaderWordsTakeEffect :
    (BookWf idle ∧ (1 : Word) ≠ 0 ∧ idle.control.boomMoving = false) ∧
      ({ idle with control := { idle.control with boomMoving := true } } : State).control.boomMoving = true ∧
      (idle.head.bay.state ≠ .ejecting ∧ idle.head.gripper.state ≠ .ejecting ∧ idle.word binEmptiedAddr = 0) ∧
      (withBay { Bay.cleared with state := .ejecting } idle).head.bay.state = .ejecting ∧
      (withGripper { Gripper.cleared with state := .ejecting } idle).head.gripper.state = .ejecting := by
  simp only [BookWf]; decide +kernel

theorem witness_CauseReadsClearAndMaskWritesSet : Cause.cmdRefused ≠ .supplyStarved ∧ 16 < 17 := by decide

/-- The status block shows the state of its owners, with a feeder HELD and with none; a bit of each byte, an address on each
side of the block, and its last spare word. -/
theorem witness_HostReadsShowTheState :
    (idle.status.fields = idle.statusNow ∧ idle.train.queue.length < 256 ∧ idle.head.binCount < 256 ∧
        idle.issue.starved = false ∧ ∀ f, (idle.line.at (feederPosition f)).state ≠ .held) ∧
      (∃ s : State, s.status.fields = s.statusNow ∧ s.issue.starved = false ∧ (s.line.at (feederPosition .b)).state = .held) ∧
      (∃ s : State, s.status.fields = s.statusNow ∧ s.issue.starved = true) ∧
      31 < 32 ∧ 0x04FF < 0x0500 ∧ 0x0600 ≤ 0x0600 ∧ 30 < 31 := by
  refine ⟨⟨by decide +kernel, by decide +kernel, by decide +kernel, rfl, by intro f; cases f <;> decide +kernel⟩,
    ⟨({ idle with line := { idle.line with feederB := { idle.line.feederB with state := .held } } } : State).rewriteStatus,
      rfl, rfl, rfl⟩,
    ⟨({ idle with issue := { idle.issue with starved := true } } : State).rewriteStatus, rfl, rfl⟩, by decide⟩

/-- Slot 0 is OPEN over entries 3 to 6, in the correction mode of the flags. -/
def openCourse (flags : Nat) : State :=
  running |> withCourse 0 .opened 3 4 flags |> withEntry 3 .laid 1 |> withEntry 4 .posted 0x03000001
    |> withEntry 5 .cancelled 1 |> withEntry 6 .probed 0x802

/-- The host writes an open time that the latch sees, and a loss exponent of 3 that it does not. -/
def writing : List LatchWrite := [⟨.openTime, 5, true⟩, ⟨.lossExponent, 3, false⟩]

theorem witness_LatchTakesTheClampedProfile :
    BookWf idle ∧ latchedWord idle writing .openTime = 5 ∧ latchedWord idle writing .lossExponent = 7 ∧
      (idle.latchedProfile writing).openTime = 10 ∧ Clamped 0 15 (latchedWord idle writing .unsteadyOff).toInt 2 := by
  simp only [BookWf, Clamped]; decide +kernel

theorem witness_ActivationOpensAValidCourse :
    ∀ d ∈ [[], writing],
    (BookWf (openCourse 0) ∧ ActivationDue (openCourse 0) d ∧ (openCourse 0).seq.pointer = 0 ∧ RangeValid (openCourse 0) 0 ∧
        (openCourse 0).courseMode 0 = .none) ∧
      ((openCourse 0x100).courseMode 0 = .laid ∧ RangeValid (openCourse 0x100) 0 ∧ ActivationDue (openCourse 0x100) d) ∧
      ((openCourse 0x200).courseMode 0 = .probe ∧ RangeValid (openCourse 0x200) 0 ∧ ActivationDue (openCourse 0x200) d) ∧
      (RangeValid (withEntry 4 .failed 1 (openCourse 0)) 0 ∧ ActivationDue (withEntry 4 .failed 1 (openCourse 0)) d) := by
  intro d _
  simp only [BookWf, ActivationDue, RangeValid, InFlight, Terminal]
  refine ⟨⟨?_, ⟨?_, ?_, ?_, fun n hn => by cases hn⟩, ?_⟩, ⟨?_, ?_, ?_, ?_, ?_, fun n hn => by cases hn⟩,
    ⟨?_, ?_, ?_, ?_, ?_, fun n hn => by cases hn⟩, ?_, ?_, ?_, ?_, fun n hn => by cases hn⟩
  all_goals decide +kernel

/-- Its LAID entry deviates on every axis, in X by the one magnitude that is held below itself, and its PROBED entry with
APPLY lies high. -/
def surveyed : State :=
  (((openCourse 0).setWord (entryAddr 3 8) 0x00058000).setWord (entryAddr 3 9) 0x0007FFFD).setWord (entryAddr 6 12) 4

/-- R30: what activation finds in that range. -/
def surveyedFigures : CourseFigures where
  remaining := 1
  laid := 1
  probed := 1
  failed := 0
  cancelled := 1
  devSum := -3
  maxX := 32767
  maxY := 5
  maxZ := 3
  maxYaw := 7
  applied := 1
  appliedSum := 4
  zc := 0

theorem witness_ActivationOpensAValidCourse_late :
    (BookWf surveyed ∧ CountsRange surveyed 0 surveyedFigures ∧ surveyedFigures.remaining = 1 ∧
        surveyed.inCourse 0 3 = true ∧ surveyed.entryState 3 = some .laid ∧ EntryState.terminal .laid = true ∧
        surveyed.entryState 6 = some .probed ∧ surveyed.entryApply 6 = true) ∧
      (surveyed.inCourse 0 4 = true ∧ surveyed.entryState 4 = some .posted) ∧
      CountsRange (withEntry 5 .free 1 surveyed) 0 { surveyedFigures with remaining := 2, cancelled := 0 } := by
  simp only [BookWf, CountsRange, LargestOf]
  repeat' apply And.intro
  all_goals decide +kernel

/-- An activation finds the loss timer at so many milliseconds. -/
def lossDue (n : Nat) : State :=
  let s := openCourse 0
  { s with tracker := { s.tracker with state := .tracking, lossTimer := some n } }

theorem witness_ActivationOpensAValidCourse_loss :
    (lossDue 128).control.state = .run ∧ (lossDue 128).seq.active = none ∧
      (lossDue 128).courseState (lossDue 128).seq.pointer = some .opened ∧ (lossDue 128).tracker.lossTimer = some 128 ∧
      2 ^ ((lossDue 128).latchedProfile writing).lossExponent ≤ 128 := by decide +kernel

theorem witness_ActivationClosesAnInvalidCourse :
    BookWf (withEntry 4 .issued 1 (openCourse 0)) ∧ ActivationDue (withEntry 4 .issued 1 (openCourse 0)) writing ∧
      (withEntry 4 .issued 1 (openCourse 0)).seq.pointer = 0 ∧ ¬RangeValid (withEntry 4 .issued 1 (openCourse 0)) 0 := by
  simp only [BookWf, ActivationDue, RangeValid, InFlight, Terminal]
  refine ⟨by decide +kernel, ⟨by decide +kernel, by decide +kernel, by decide +kernel, fun n hn => by cases hn⟩,
    by decide +kernel, by decide +kernel⟩

/-- The active course with nothing in the list. -/
def ready : State := { (withEntry 6 .laid 1 courseRunning) with issue := ⟨[], none, false⟩ }
/-- Its first POSTED entry is a PROBE. -/
def readyProbe : State := withEntry 4 .laid 1 ready
/-- Its first POSTED entry names another slot. -/
def readyInvalid : State := withEntry 4 .posted 0x03010001 ready

/-- The reject bin is full. -/
def readyFullBin : State := { ready with head := { ready.head with binCount := 12 } }

theorem witness_TakeIssuesTheCandidate :
    (BookWf ready ∧ MayTake ready 0 ∧ Candidate ready 0 4 ∧ ValidEntry ready 0 4 ∧ ready.entryKind 4 = kindLay ∧
        LayRoom ready ∧ FeederReady ready .a ∧ Feeder.a = ready.seq.profile.preferredFeeder) ∧
      (BookWf readyProbe ∧ MayTake readyProbe 0 ∧ Candidate readyProbe 0 5 ∧ ValidEntry readyProbe 0 5 ∧
        readyProbe.entryKind 5 = kindProbe ∧ (2 : Byte).toNat ≠ kindLay) ∧
      (¬LayRoom readyFullBin ∧ MayTake readyFullBin 0 ∧ Candidate readyFullBin 0 4) ∧ ∀ k, ¬MayTake idle k := by
  simp only [BookWf, MayTake, Candidate, Chosen, ValidEntry, LayRoom, NeedsFeed, FeederReady, Terminal]
  repeat' apply And.intro
  all_goals decide +kernel

/-- Its course is in strict order and waits on FREE entry 4, before POSTED entry 5 (R49). -/
def readyStrict : State := withEntry 4 .free 1 (ready.setWord (courseAddr 0 4) 1)

theorem witness_TakeIssuesTheCandidate_waits :
    MayTake readyStrict 0 ∧ readyStrict.entryState 5 = some .posted ∧ ∀ i, ¬Chosen readyStrict 0 i := by
  refine ⟨by simp only [MayTake]; decide +kernel, by decide +kernel, fun i h => ?_⟩
  have h5 : i.val ≤ 5 := Nat.le_of_not_lt fun hi => h.2.2.1 5 (by decide +kernel) hi (by decide +kernel)
  have h3 : 3 ≤ i.val := by have := h.1; simp only [State.inCourse, decide_eq_true_eq] at this; exact this.1
  have hs := (h.2.2.2 (by decide +kernel)).2
  have h4 : ¬(Terminal readyStrict 4 ∨ ∃ r ∈ readyStrict.issue.list, r.entry = 4) := by
    simp only [Terminal]; decide +kernel
  have hp := h.2.1
  obtain hi | hi | hi : i = 3 ∨ i = 4 ∨ i = 5 := by simp only [Fin.ext_iff]; show i.val = 3 ∨ i.val = 4 ∨ i.val = 5; omega
  · subst hi; exact absurd hp (by decide +kernel)
  · subst hi; exact absurd hp (by decide +kernel)
  · subst hi; exact h4 (hs 4 (by decide +kernel) (by decide +kernel))

theorem witness_InvalidEntryFailsAtTake :
    BookWf readyInvalid ∧ MayTake readyInvalid 0 ∧ Candidate readyInvalid 0 4 ∧ ¬ValidEntry readyInvalid 0 4 ∧
      LayRoom readyInvalid ∧ FeederReady readyInvalid .a ∧
      FiguresFit { readyInvalid.courseFigures 0 with remaining := 2, failed := 1 } := by
  simp only [BookWf, MayTake, Candidate, Chosen, ValidEntry, LayRoom, NeedsFeed, FeederReady, Terminal, FiguresFit]
  repeat' apply And.intro
  all_goals decide +kernel

/-- The list holds a record at the gripper and a LAY record with no brick. -/
def waiting : State := withList [layRecord 3 .gripper, layRecord 4 .none] running

theorem witness_RefeedOrdersTheFeed :
    (waiting.issue.feed = none ∧ waiting.issue.list = [layRecord 3 .gripper] ++ layRecord 4 .none :: [] ∧
        (∀ x ∈ [layRecord 3 .gripper], ¬NeedsFeed x) ∧ NeedsFeed (layRecord 4 .none) ∧ DistinctEntries waiting ∧
        FeederReady waiting .a ∧ Feeder.a = waiting.seq.profile.preferredFeeder) ∧
      courseRunning.issue.feed ≠ none ∧ (∀ r ∈ courseRunning.issue.list, ¬NeedsFeed r) ∧
      (¬FeederReady .reset .a ∧ ¬FeederReady .reset .b) := by
  simp only [NeedsFeed, DistinctEntries, FeederReady]; decide +kernel

/-- The bay holds the spread brick of entry 3, past its open time. -/
def spread : State :=
  withList [layRecord 3 .bay] (withGripper .cleared (withBay ⟨.spread, .entry 3, some 120000, some 900, .empty⟩ holding))

/-- The expiries that fail an attempt in the gripper, with their reasons. -/
def heldTimers : List (Instr × Reason) :=
  [(.settleLimitExpiry, .settleTimeout), (.openTimeExpiry .gripper, .openTime), (.restartDelayExpiry, .trackLost)]

theorem witness_TimersFailTheAttempt :
    (BookWf holding ∧ DistinctEntries holding ∧ layRecord 3 .gripper ∈ holding.issue.list ∧ ¬UnderCloseRequest holding 3 ∧
        holding.activeStrict = false) ∧
      (∀ x ∈ heldTimers, HeldTimerDue (layRecord 3 .gripper) x.1 x.2 holding) ∧
      (BookWf spread ∧ DistinctEntries spread ∧ layRecord 3 .bay ∈ spread.issue.list ∧ ¬UnderCloseRequest spread 3 ∧
        spread.activeStrict = false ∧ BayTimerDue (layRecord 3 .bay) spread) ∧
      (UnderCloseRequest (marked true holding) 3 ∧
        HeldTimerDue (layRecord 3 .gripper) (.openTimeExpiry .gripper) .openTime (marked true holding)) ∧
      (UnderCloseRequest (marked true spread) 3 ∧ BayTimerDue (layRecord 3 .bay) (marked true spread)) ∧
      (InActive holding 0 3 ∧ FiguresFit { holding.courseFigures 0 with remaining := 2, failed := 1 } ∧
        FiguresFit { holding.courseFigures 0 with remaining := 2, cancelled := 1 }) := by
  refine ⟨?_, ?_, ⟨?_, ?_, by decide +kernel, ?_, by decide +kernel, rfl, rfl, fun h => (by cases h), 120000, rfl, by decide +kernel⟩,
    ⟨⟨rfl, 0, rfl, by decide +kernel⟩, rfl, rfl, .inr (.inl ⟨rfl, rfl, 120000, rfl, by decide +kernel⟩)⟩,
    ⟨⟨rfl, 0, rfl, by decide +kernel⟩, rfl, rfl, fun h => (by cases h), 120000, rfl, by decide +kernel⟩,
    ⟨rfl, by decide +kernel⟩, ?_, ?_⟩
  · simp only [BookWf, DistinctEntries, UnderCloseRequest, InActive]; decide +kernel
  · intro x hx
    simp only [heldTimers, List.mem_cons, List.not_mem_nil, or_false] at hx
    rcases hx with rfl | rfl | rfl
    · exact ⟨rfl, rfl, .inl ⟨rfl, rfl, rfl, rfl, _, _, rfl, rfl, rfl, rfl, by decide +kernel⟩⟩
    · exact ⟨rfl, rfl, .inr (.inl ⟨rfl, rfl, 120000, rfl, by decide +kernel⟩)⟩
    · exact ⟨rfl, rfl, .inr (.inr ⟨rfl, rfl, 2000, rfl, by decide +kernel⟩)⟩
  · unfold BookWf; decide +kernel
  · unfold DistinctEntries; decide +kernel
  · simp only [UnderCloseRequest, InActive]; decide +kernel
  · unfold FiguresFit; decide +kernel
  · unfold FiguresFit; decide +kernel

/-- A strict-order course with entry 3 at the gripper, 4 on the train and 5 being fed. -/
def strict : State :=
  holding |> withCourse 0 .active 3 4 1 |> withEntry 4 .transit 1 |> withEntry 5 .issued 1
    |> withList [layRecord 3 .gripper, layRecord 4 .train, layRecord 5 .feed] |> withFeed ⟨some 5, none, .a, 0, .sent⟩
    |> withQueue [⟨some 4, none, 900, 3⟩] true

/-- The same course with entry 3 in the bay. -/
def strictBay : State :=
  withList [layRecord 3 .bay, layRecord 4 .train, layRecord 5 .feed]
    (withGripper .cleared (withBay ⟨.spread, .entry 3, some 120000, some 900, .empty⟩ strict))

theorem witness_StrictRetryDisplacesTheRecordsBehind :
    (BookWf strict ∧ DistinctEntries strict ∧
      strict.issue.list = [] ++ layRecord 3 .gripper :: [layRecord 4 .train, layRecord 5 .feed] ∧
      strict.activeStrict = true ∧ strict.seq.closeMark = false ∧ 0 + 1 < 2 ∧
      ∀ x ∈ heldTimers, HeldTimerDue (layRecord 3 .gripper) x.1 x.2 strict) ∧
    (BookWf strictBay ∧ DistinctEntries strictBay ∧
      strictBay.issue.list = [] ++ layRecord 3 .bay :: [layRecord 4 .train, layRecord 5 .feed] ∧
      strictBay.activeStrict = true ∧ strictBay.seq.closeMark = false ∧ BayTimerDue (layRecord 3 .bay) strictBay) := by
  refine ⟨⟨?_, ?_, rfl, by decide +kernel, rfl, by decide, ?_⟩, ?_, ?_, rfl, by decide +kernel, rfl, rfl, rfl,
    fun h => (by cases h), 120000, rfl, by decide +kernel⟩
  · unfold BookWf; decide +kernel
  · unfold DistinctEntries; decide +kernel
  · intro x hx
    simp only [heldTimers, List.mem_cons, List.not_mem_nil, or_false] at hx
    rcases hx with rfl | rfl | rfl
    · exact ⟨rfl, rfl, .inl ⟨rfl, rfl, rfl, rfl, _, _, rfl, rfl, rfl, rfl, by decide +kernel⟩⟩
    · exact ⟨rfl, rfl, .inr (.inl ⟨rfl, rfl, 120000, rfl, by decide +kernel⟩)⟩
    · exact ⟨rfl, rfl, .inr (.inr ⟨rfl, rfl, 2000, rfl, by decide +kernel⟩)⟩
  · unfold BookWf; decide +kernel
  · unfold DistinctEntries; decide +kernel

/-- Under a close request: three cancelled entries of three close the course, of four they leave one. -/
theorem witness_StrictRetryDisplacesTheRecordsBehind_closing :
    (∀ s ∈ [marked true strict, marked true (withActive 0 4 strict)],
      BookWf s ∧ DistinctEntries s ∧
        StrictUnderCloseRequest 0 (layRecord 3 .gripper :: [layRecord 4 .train, layRecord 5 .feed]) s ∧
        HeldTimerDue (layRecord 3 .gripper) (.openTimeExpiry .gripper) .openTime s) ∧
    (BookWf (marked true strictBay) ∧ DistinctEntries (marked true strictBay) ∧
      StrictUnderCloseRequest 0 (layRecord 3 .bay :: [layRecord 4 .train, layRecord 5 .feed]) (marked true strictBay) ∧
      BayTimerDue (layRecord 3 .bay) (marked true strictBay)) ∧
    (2 + 1 = ((marked true strict).courseFigures 0).remaining ∧
      2 + 1 < ((marked true (withActive 0 4 strict)).courseFigures 0).remaining ∧
      ((marked true (withActive 0 4 strict)).courseFigures 0).cancelled + 3 < 65536) := by
  refine ⟨?_, ⟨?_, ?_, ?_, rfl, rfl, fun h => (by cases h), 120000, rfl, by decide +kernel⟩, by decide +kernel⟩
  · intro s hs
    simp only [List.mem_cons, List.not_mem_nil, or_false] at hs
    rcases hs with rfl | rfl <;>
      exact ⟨by unfold BookWf; decide +kernel, by unfold DistinctEntries; decide +kernel,
        by unfold StrictUnderCloseRequest; decide +kernel, rfl, rfl, .inr (.inl ⟨rfl, rfl, 120000, rfl, by decide +kernel⟩)⟩
  · unfold BookWf; decide +kernel
  · unfold DistinctEntries; decide +kernel
  · unfold StrictUnderCloseRequest; decide +kernel

/-- The brick behind a failed entry waits in the bay, SPREADING with its command only wanted. -/
theorem witness_Displaced_bay :
    (layRecord 4 .bay).location = .bay ∧
      (withBay { Bay.cleared with state := .spreading, content := .entry 4 } strict).head.bay.content =
        .entry (layRecord 4 .bay).entry ∧ strict.head.gripper.content ≠ .entry 4 := by decide +kernel

theorem witness_RootSensorMatchesTheFeed :
    (BookWf courseRunning ∧ courseRunning.issue.feed = some ⟨some 6, none, .b, 0, .sent⟩ ∧ courseRunning.train.queue.length < 8 ∧
        courseRunning.entryState 6 = some .issued) ∧
      ((withFeed ⟨none, none, .a, 0, .sent⟩ running).issue.feed = some ⟨none, none, .a, 0, .sent⟩ ∧
        (withFeed ⟨none, none, .a, 0, .sent⟩ running).train.queue.length < 8) := by
  simp only [BookWf]; decide +kernel

/-- Entry 6 rides on the front carrier, a void brick behind it. -/
def carrying : State :=
  running |> withEntry 6 .transit 1 |> withList [layRecord 6 .train]
    |> withQueue [⟨some 6, none, 900, 20000⟩, ⟨none, some 7, 950, 0⟩] true

theorem witness_BaySensorPopsTheFrontCarrier :
    (BookWf carrying ∧ carrying.head.bay.state = .empty ∧
        carrying.train.queue = ⟨some 6, none, 900, 20000⟩ :: [⟨none, some 7, 950, 0⟩] ∧
        carrying.entryState 6 = some .transit) ∧
      ((withQueue [⟨none, some 7, 950, 0⟩] true running).head.bay.state = .empty ∧
        (withQueue [⟨none, some 7, 950, 0⟩] true running).train.queue = ⟨none, some 7, 950, 0⟩ :: []) := by
  simp only [BookWf]; decide +kernel

theorem witness_TrainFaultsAskForHalt :
    (running.issue.feed = none ∧ MayHalt running ∧ ¬MayHalt .reset ∧ State.reset.issue.feed = none ∧
        State.reset.train.queue.length < 8) ∧
      ((withFeed ⟨none, none, .a, 0, .sent⟩ (withQueue (List.replicate 8 ⟨none, none, 0, 0⟩) true running)).issue.feed =
          some ⟨none, none, .a, 0, .sent⟩ ∧
        8 ≤ (withQueue (List.replicate 8 ⟨none, none, 0, 0⟩) true running).train.queue.length) ∧
      (running.head.bay.state = .empty ∧ running.train.queue = []) ∧ spread.head.bay.state ≠ .empty ∧
      ({ carrying.train with limitReached := true }.queue ≠ [] ∧ carrying.train.drive = true) ∧
      running.train.limitReached = false := by
  simp only [MayHalt]; decide +kernel

/-- A head command of a BUSY spreader and one of the READY gripper wait. -/
def requesting : State :=
  { running with
    line := { running.line with
      headRequests := [.spread, .eject .bay], spreader := { running.line.spreader with state := .busy } } }
/-- The polls of positions 0 and 3 are pending, that of 3 due longer. -/
def polling : State :=
  { running with
    line := { running.line with
      feederA := { running.line.feederA with nextPoll := some 4990, pollPending := true }
      gripper := { running.line.gripper with nextPoll := some 4980, pollPending := true } } }

theorem witness_LineIsGrantedInOrder :
    ((running.line.at .spreader).nextPoll = some 0 ∧ (running.time - 0).toNat < 2147483648 ∧
        (running.line.at .spreader).state ≠ .absent ∧ (running.line.at .spreader).pollPending = false ∧
        running.control.sensed = true) ∧
      (requesting.line.transaction = none ∧ MayHalt requesting ∧
        requesting.line.headRequests = [.spread] ++ .eject .bay :: [] ∧
        (∀ x ∈ [StationCommand.spread], (requesting.line.at (headTarget x)).state ≠ .ready) ∧
        (requesting.line.at (headTarget (.eject .bay))).state = .ready ∧ requesting.head.bay.state ≠ .ejecting) ∧
      ((withFeed ⟨some 6, none, .b, 0, .requested⟩ running).line.transaction = none ∧
        (∀ x ∈ (withFeed ⟨some 6, none, .b, 0, .requested⟩ running).line.headRequests,
          ((withFeed ⟨some 6, none, .b, 0, .requested⟩ running).line.at (headTarget x)).state ≠ .ready) ∧
        FeederReady (withFeed ⟨some 6, none, .b, 0, .requested⟩ running) .b ∧ (running.line.at .feederB).deferred = none) ∧
      (polling.line.transaction = none ∧ polling.control.sensed = true ∧ polling.line.headRequests = [] ∧
        polling.issue.feed = none ∧ (polling.line.at .gripper).pollPending = true ∧
        (polling.line.at .gripper).nextPoll = some 4980 ∧
        (polling.line.at .feederA).nextPoll = some 4990 ∧
        (polling.time - 4990).toNat < (polling.time - 4980).toNat ∧ (polling.line.at .feederB).pollPending = false ∧
        (polling.line.at .spreader).pollPending = false) ∧
      (asking .gripper .none running).line.transaction ≠ none := by
  simp only [MayHalt, FeederReady]; decide +kernel

/-- A poll goes before a FEED that cannot be granted: sent already, to a feeder not READY, or held back at it. -/
theorem witness_LineIsGrantedInOrder_feed :
    FeedWaits (withFeed ⟨some 6, none, .b, 0, .sent⟩ polling) ∧
      FeedWaits (withFeed ⟨some 6, none, .b, 0, .requested⟩
        { polling with line := { polling.line with feederB := { polling.line.feederB with state := .held } } }) ∧
      FeedWaits (withFeed ⟨some 6, none, .b, 0, .requested⟩
        { polling with line := { polling.line with feederB := { polling.line.feederB with deferred := some (.feed 0) } } }) ∧
      FeedWaits polling := by
  refine ⟨?_, ?_, ?_, ?_⟩ <;> intro f hf <;> cases hf
  · exact .inl (by decide)
  · exact .inr (.inl (by unfold FeederReady; decide +kernel))
  · exact .inr (.inr ⟨0, rfl⟩)

/-- A FEED for entry 6 has been sent to feeder B. -/
def feeding : State := sent .feederB (.feed 0) courseRunning

theorem witness_CommandRepliesSetTheStation :
    (AwaitsReply (sent .spreader .spread running) ⟨.spreader, .spread, 4998⟩ ∧
        judgeReply .spreader false [0x62, 0, 0, 0, 0x9E] = .good .accepted ∧ isFeederPosition .spreader = false) ∧
      (AwaitsReply feeding ⟨feederPosition .b, .feed 0, 4998⟩ ∧
        feeding.issue.feed = some ⟨some 6, none, .b, 0, .sent⟩ ∧
        judgeReply (feederPosition .b) false [0x61, 0, 0, 0, 0x9F] = .good .accepted) ∧
      judgeReply .spreader false [0x62, 1, 0, 0, 0x9D] = .good .busy ∧
      (FeederReady feeding .b ∧ judgeReply (feederPosition .b) false [0x61, 1, 0, 0, 0x9E] = .good .busy) ∧
      ((sent .feederB (.feed 0) (withFeed ⟨none, some 6, .b, 0, .sent⟩ running)).issue.feed =
          some ⟨none, some 6, .b, 0, .sent⟩ ∧
        AwaitsReply (sent .feederB (.feed 0) (withFeed ⟨none, some 6, .b, 0, .sent⟩ running))
          ⟨feederPosition .b, .feed 0, 4998⟩) ∧
      judgeReply (feederPosition .b) false [0x61, 3, 0x80, 0, 0x1C] = .good (.error 3) ∧
      (judgeReply .spreader false [0x62, 3, 0x80, 0, 0x1B] = .good (.error 3) ∧ MayHalt running ∧
        ((sent .spreader .spread running).line.at .spreader).state ≠ .faulted) := by
  simp only [AwaitsReply, FeederReady, MayHalt]; decide +kernel

/-- SPREAD serves the attempt of the entry in the bay. -/
theorem witness_ServedAttemptFails :
    BookWf spread ∧ DistinctEntries spread ∧ layRecord 3 .bay ∈ spread.issue.list ∧ ¬UnderCloseRequest spread 3 ∧
      servedContent spread .spread = .entry 3 := by
  simp only [BookWf, DistinctEntries, UnderCloseRequest, InActive]; decide +kernel

/-- The gripper holds a void brick. -/
def voidHeld : State :=
  withGripper { Gripper.cleared with state := .holding, content := .void (some 3), brick := true } running

/-- The contents and the gripper state that the rows of R162 for EJECT look at. -/
theorem witness_FailedPlace :
    (∀ i, (withBay { Bay.cleared with state := .ejecting, content := .void none, ejectFrom := .spread } running).head.bay.content
        ≠ .entry i) ∧ running.head.gripper.state ≠ .taking ∧
      ∀ i, voidHeld.head.gripper.content ≠ .entry i := by
  exact ⟨fun i h => (by cases h), by decide, fun i h => (by cases h)⟩

/-- The retry mark of a station is set. -/
def retried (p : Position) (s : State) : State :=
  { s with line := s.line.put p { s.line.at p with retry := true } }

theorem witness_FailedTransactionIsResentOnce :
    (FailsTransaction (asking .spreader .none running) ⟨.spreader, .query, 4998⟩ .stationByteGap ∧
        ((asking .spreader .none running).line.at .spreader).retry = false) ∧
      FailsTransaction { asking .spreader .none running with time := 5008 } ⟨.spreader, .query, 4998⟩ .replyDeadline ∧
      FailsTransaction (asking .spreader .none running) ⟨.spreader, .query, 4998⟩ (.replyNotGood [0x62, 0, 0, 0, 0]) ∧
      ((retried .spreader (asking .spreader .none running)).line.at .spreader).retry = true ∧
      FailsTransaction (retried .spreader (asking .spreader .none running)) ⟨.spreader, .query, 4998⟩ .stationByteGap ∧
      (FailsTransaction (retried .feederB feeding) ⟨.feederB, .feed 0, 4998⟩ .stationByteGap ∧
        ((retried .feederB feeding).line.at .feederB).retry = true ∧
        ((retried .feederB feeding).line.at .feederB).state ≠ .unresponsive ∧ isFeederPosition .feederB = true ∧
        (retried .feederB feeding).issue.feed = some ⟨some 6, none, .b, 0, .sent⟩) := by
  refine ⟨⟨⟨rfl, .inr (.inl rfl)⟩, by decide +kernel⟩, ⟨rfl, .inl ⟨rfl, by decide +kernel⟩⟩,
    ⟨rfl, .inr (.inr ⟨_, rfl, by decide +kernel, by decide +kernel⟩)⟩, by decide +kernel, ⟨rfl, .inr (.inl rfl)⟩,
    ⟨rfl, .inr (.inl rfl)⟩, by decide +kernel, by decide +kernel, by decide +kernel, by decide +kernel⟩

/-- A poll of a station is answered with this data. -/
theorem poll_answered (s : State) (p : Position) (o : Outstanding) (bytes : List Byte) (d : QueryData)
    (ht : (s.time - (s.time - 2)).toNat ≤ 10) (hj : judgeReply p true bytes = .good (.status d)) :
    PollAnswered (asking p o s) p bytes d := by
  refine ⟨⟨s.time - 2, ?_, ht⟩, hj⟩; cases p <;> rfl

/-- The steps of R91 that a reply of feeder A meets: WORKING, lost by IDLE and by the end of another operation, ERROR, an error
latched at IDLE, and the ends that leave a hold or none. -/
theorem witness_PollReplySetsTheStation :
    (PollAnswered (asking .feederA (.command (.feed 0)) running) (feederPosition .a) (queryBytes .feederA 1 0x21 0 0)
        ⟨.working, 0x21, 0, 0, 0⟩ ∧ ((asking .feederA (.command (.feed 0)) running).line.at .feederA).deferred = none) ∧
      FindsError (asking .feederA .foreign running) .feederA ⟨.idle, 0, 0, 0, 0⟩ errorOperationLost ∧
      (PollAnswered (asking .feederA (.command (.feed 0)) running) .feederA (queryBytes .feederA 2 0x31 0 0)
          ⟨.done, 0x31, 0, 0, 0⟩ ∧
        FindsError (asking .feederA (.command (.feed 0)) running) .feederA ⟨.done, 0x31, 0, 0, 0⟩ errorOperationLost) ∧
      FindsError (asking .feederA .none running) .feederA ⟨.error, 0, 0, 0, 5⟩ 5 ∧
      FindsError (asking .feederA .none running) .feederA ⟨.idle, 0, 0, 0, 5⟩ 5 ∧
      (PollAnswered (asking .feederA (.command (.feed 0)) running) .feederA (queryBytes .feederA 2 0x21 0 30)
          ⟨.done, 0x21, 0, 30, 0⟩ ∧
        EndsWell (asking .feederA (.command (.feed 0)) running) .feederA ⟨.done, 0x21, 0, 30, 0⟩) ∧
      EndsWell (asking .feederA .foreign running) .feederA ⟨.done, 0, 0, 0, 0⟩ ∧
      EndsWell (asking .feederA .none running) .feederA ⟨.idle, 0, 0, 0, 0⟩ ∧
      ((withFeed ⟨some 6, none, .a, 0, .requested⟩ (asking .feederA .none running)).issue.feed =
        some ⟨some 6, none, .a, 0, .requested⟩) := by
  have g := poll_answered running .feederA
  refine ⟨⟨g _ _ _ (by decide +kernel) (by decide +kernel), rfl⟩, .inl ⟨.inl ⟨by decide +kernel, rfl⟩, rfl⟩,
    ⟨g _ _ _ (by decide +kernel) (by decide +kernel), .inl ⟨.inr ⟨_, rfl, rfl, by decide⟩, rfl⟩⟩,
    .inr (.inl ⟨rfl, by decide⟩), .inr (.inr ⟨rfl, rfl, by decide, rfl⟩),
    ⟨g _ _ _ (by decide +kernel) (by decide +kernel), .inr (.inr ⟨_, rfl, rfl, rfl, fun h => (by cases h)⟩)⟩,
    .inr (.inl ⟨rfl, rfl⟩), .inl ⟨rfl, .inr ⟨rfl, rfl⟩⟩, rfl⟩

theorem witness_PollReplySetsTheStation_head :
    (Answers (asking .spreader (.command .spread) running) .spreader (queryBytes .spreader 1 0x31 0 0)
        ⟨.working, 0x31, 0, 0, 0⟩ ∧ isFeederPosition .spreader = false) ∧
      (FindsError (asking .spreader (.command .spread) running) .spreader ⟨.done, 0x41, 0, 0, 0⟩ errorOperationLost ∧
        ((asking .spreader (.command .spread) running).line.at .spreader).state ≠ .faulted ∧ MayHalt running) ∧
      EndsWell (asking .spreader .foreign running) .spreader ⟨.done, 0x31, 0, 0, 0⟩ ∧
      ((asking .spreader .foreign running).line.at .spreader).operation ≠ .command .spread := by
  refine ⟨⟨⟨poll_answered _ _ _ _ _ (by decide +kernel) (by decide +kernel), rfl⟩, rfl⟩,
    ⟨.inl ⟨.inr ⟨_, rfl, rfl, by decide⟩, rfl⟩, by decide +kernel, .inl rfl⟩, .inr (.inl ⟨rfl, rfl⟩), by decide +kernel⟩

/-- SPREAD is held back at the spreader after a BUSY reply, with nothing outstanding or a foreign operation. -/
def deferring (o : Outstanding) : State :=
  let s := asking .spreader o running
  { s with line := s.line.put .spreader { s.line.spreader with deferred := some .spread } }

theorem witness_PollReplySetsTheStation_deferred :
    (∀ o ∈ [Outstanding.none, .foreign], ∀ x ∈ [((1 : Byte), Reported.working), (2, .done), (3, .error), (0, .idle)],
      ∀ op ∈ [(0x31 : Byte), 0x41],
        AnswersDeferred (deferring o) .spreader .spread (queryBytes .spreader x.1 op 0 0) ⟨x.2, op, 0, 0, 0⟩) ∧
      Adopts (deferring .none) .spreader .spread ⟨.working, 0x31, 0, 0, 0⟩ ∧
      ¬Adopts (deferring .none) .spreader .spread ⟨.working, 0x41, 0, 0, 0⟩ ∧
      ¬Adopts (deferring .foreign) .spreader .spread ⟨.done, 0x31, 0, 0, 0⟩ := by
  refine ⟨?_, ⟨rfl, rfl⟩, fun h => absurd h.2 (by decide), fun h => absurd h.1 (by decide +kernel)⟩
  intro o ho x hx op hop
  simp only [List.mem_cons, List.not_mem_nil, or_false] at ho hx hop
  refine ⟨⟨⟨4998, ?_, by rcases ho with rfl | rfl <;> decide +kernel⟩, ?_⟩, rfl, ?_, ?_, by decide, fun n => by simp⟩
  · rcases ho with rfl | rfl <;> rfl
  · rcases hx with rfl | rfl | rfl | rfl <;> rcases hop with rfl | rfl <;> decide +kernel
  · rcases ho with rfl | rfl <;> rfl
  · rcases ho with rfl | rfl
    · exact .inl rfl
    · exact .inr rfl

/-- A QUERY is answered with an error word: by a feeder with its FEED request pending, and by the spreader with SPREAD
outstanding. -/
theorem witness_PollReplySetsTheStation_error :
    (∀ x ∈ [FeedPhase.requested, .sent],
      PollRefused (withFeed ⟨some 6, none, .a, 0, x⟩ (asking .feederA .none running)) .feederA [0x60, 5, 0x80, 0, 0x1B] 5 ∧
        (withFeed ⟨some 6, none, .a, 0, x⟩ (asking .feederA .none running)).issue.feed = some ⟨some 6, none, .a, 0, x⟩) ∧
      (PollRefused (asking .spreader (.command .spread) running) .spreader [0x62, 5, 0x80, 0, 0x19] 5 ∧
        ((asking .spreader (.command .spread) running).line.at .spreader).state ≠ .faulted ∧
        ((asking .spreader (.command .spread) running).line.at .spreader).operation = .command .spread) := by
  refine ⟨fun x _ => ⟨⟨⟨4998, rfl, show ((5000 : Word) - 4998).toNat ≤ 10 by decide⟩, by decide +kernel⟩, rfl⟩,
    ⟨⟨4998, rfl, by decide +kernel⟩, by decide +kernel⟩, by decide +kernel, by decide +kernel⟩

/-- Feeder A is HELD and its hold timer has reached 0. -/
def held : State :=
  { running with line := { running.line with feederA := { running.line.feederA with state := .held, hold := some 0 } } }
/-- The feed for entry 6 was ACCEPTED so long ago. -/
def accepted (at0 : Word) : State := { (withFeed ⟨some 6, none, .b, 0, .accepted at0⟩ courseRunning) with time := 9000 }

theorem witness_FeederTimersExpire :
    ((held.line.at (feederPosition .a)).state = .held ∧ (held.line.at (feederPosition .a)).hold = some 0) ∧
      ((accepted 1000).issue.feed = some ⟨some 6, none, .b, 0, .accepted 1000⟩ ∧ 8000 ≤ ((accepted 1000).time - 1000).toNat) ∧
      ((accepted 1001).issue.feed = some ⟨some 6, none, .b, 0, .accepted 1001⟩ ∧
        ((accepted 1001).time - 1001).toNat < 8000) := by decide +kernel

/-- A FIX frame at the neutral pose of `holding`, and what it says. -/
def fixFrame : List Byte := frameOf 8 1 0 0

/-- A state of tracking in which a sample at 0 is REJECTED. -/
def trackingIn (st : TrackingState) : State :=
  { holding with
    tracker := { holding.tracker with state := st, history := [⟨⟨90, 0, 0, 0⟩, 0⟩, ⟨⟨90, 0, 0, 0⟩, 2⟩] } }

theorem witness_TrackerFramesAreJudged :
    FrameArrives holding (frameOf 8 2 0 0) .malformed ∧ FrameArrives holding (frameOf 8 0 0 0) (.nofix 8) ∧
      FrameArrives holding fixFrame (.fix 8 .zero) ∧ holding.tracker.sequence = some 7 ∧ idle.tracker.sequence = none ∧
      (FrameArrives idle fixFrame (.fix 8 .zero) ∧ idle.tracker.state = .lost) ∧
      (voteClass holding.seq.profile holding.tracker.history ⟨.zero, holding.time⟩).usable = true ∧
      (voteClass idle.seq.profile idle.tracker.history ⟨.zero, idle.time⟩ = .priming) ∧
      (∀ st ∈ [TrackingState.acquiring, .tracking, .unsteady],
        FrameArrives (trackingIn st) fixFrame (.fix 8 .zero) ∧ (trackingIn st).tracker.state = st ∧
          voteClass (trackingIn st).seq.profile (trackingIn st).tracker.history ⟨.zero, 5000⟩ = .rejected) ∧
      ({ idle.tracker with collected := [0xA5, 1] }.collected ≠ [] ∧ idle.tracker.collected = []) ∧
      (holding.tracker.receiving = true ∧ holding.tracker.collected = [] ∧ (0xA5 : Byte) = syncByte ∧
        (List.replicate 16 (0 : Byte)).length < 17) := by
  simp only [FrameArrives]; decide +kernel

/-- `holding` under another loss recovery mode. -/
def recovering (m : RecoveryMode) : State :=
  { holding with seq := { holding.seq with profile := { holding.seq.profile with recoveryMode := m } } }

theorem witness_LossTimerEndsTracking :
    (holding.tracker.lossTimer = some 128 ∧ 2 ^ holding.seq.profile.lossExponent ≤ 128) ∧
      ((recovering .holdOnly).seq.profile.recoveryMode = .holdOnly ∧ (recovering .holdOnly).tracker.lossTimer = some 128) ∧
      (holding.seq.profile.recoveryMode = .holdThenFail ∧ 0 < holding.seq.profile.restartDelay ∧
        holding.head.gripper.state = .holding ∧ holding.head.gripper.content = .entry 3) ∧
      (BookWf (recovering .fail) ∧ DistinctEntries (recovering .fail) ∧
        layRecord 3 .gripper ∈ (recovering .fail).issue.list ∧ ¬UnderCloseRequest (recovering .fail) 3 ∧
        (recovering .fail).activeStrict = false ∧ (recovering .fail).seq.profile.recoveryMode = .fail ∧
        (recovering .fail).head.gripper.content = .entry 3) ∧
      (UnderCloseRequest (marked true (recovering .fail)) 3 ∧
        { (recovering .holdThenFail).seq.profile with restartDelay := 0 }.restartDelay = 0) ∧
      127 < 2 ^ holding.seq.profile.lossExponent := by
  simp only [BookWf, DistinctEntries, UnderCloseRequest, InActive]; decide +kernel

theorem witness_SampleVoteFollowsTheTable :
    agree .default ⟨30, 0, 0, 0⟩ .zero = true ∧ agree .default ⟨31, 0, 0, 0⟩ .zero = false ∧
      agree .default ⟨31, 0, 0, 0⟩ ⟨40, 0, 0, 0⟩ = true ∧ agree .default ⟨90, 0, 0, 0⟩ ⟨31, 0, 0, 0⟩ = false ∧
      ([] : List Sample).length < 2 ∧ SampleClass.accepted ≠ .corrected := by decide

/-- `holding` with another kind of attempt, hold flag and confirm mark. -/
def settling (k : Kind) (hold confirm : Bool) : State :=
  let s := withGripper { holding.head.gripper with confirm := confirm } holding
  { s with trim := { s.trim with attempt := some ⟨3, k, hold, ⟨0, 0, if k = .probe then -200 else 0, 0⟩, 0, false, false⟩ } }

theorem witness_TrimArithmeticFollowsTheRules :
    0 ≤ Profile.default.slewXY ∧ 0 ≤ Profile.default.slewZ ∧ 0 ≤ Profile.default.slewYaw ∧ 0 ≤ range78.x ∧
      0 ≤ range78.yaw ∧ attempt78.kind = .lay ∧ { attempt78 with kind := .probe }.kind = .probe := by decide

theorem witness_StageMovesWithinSlewAndRange_demand :
    (voteClass holding.seq.profile holding.tracker.history ⟨.zero, holding.time⟩).usable = true ∧
      holding.control.boomMoving = false ∧ holding.control.emergency = false ∧ holding.control.manualGrant = false ∧
      holding.trim.attempt = some ⟨3, .lay, false, .zero, 0, false, false⟩ ∧
      (Clamped (-100) 100 (500 : Word).toInt 100 ∧ Clamped (-100) 100 (-7 : Word).toInt (-7)) := by
  simp only [Clamped]; decide +kernel

/-- A sample far from the target, at a count one below the reach count. -/
def reaching (count : Nat) : State :=
  { holding with
    trim := { holding.trim with
      saturated := count, attempt := some ⟨3, .lay, false, ⟨5000, 0, 0, 0⟩, 0, false, false⟩ } }

theorem witness_SamplesSettleAndAskForReach :
    (∀ n ∈ [(99 : Nat), 5, 1024],
      FrameArrives (reaching n) fixFrame (.fix 8 .zero) ∧
        (voteClass (reaching n).seq.profile (reaching n).tracker.history ⟨.zero, 5000⟩).usable = true ∧
        Saturated (reaching n).seq.profile (reaching n).trim.range ⟨5000, 0, 0, 0⟩ ∧ (reaching n).trim.saturated ≤ 1024) ∧
      ¬Saturated holding.seq.profile holding.trim.range .zero ∧
      (withinTolerance holding.seq.profile .lay .zero = true ∧ holding.tracker.state = .tracking) ∧
      (FrameArrives (trackingIn .tracking) fixFrame (.fix 8 .zero) ∧ SampleClass.usable .rejected = false) := by
  simp only [FrameArrives, Saturated]; decide +kernel

theorem witness_StageMovesWithinSlewAndRange :
    FrameArrives holding fixFrame (.fix 8 .zero) ∧ StageWithinRange holding ∧ 0 ≤ holding.seq.profile.slewXY ∧
      0 ≤ holding.seq.profile.slewZ ∧ 0 ≤ holding.seq.profile.slewYaw := by
  simp only [FrameArrives, StageWithinRange, Within]; decide +kernel

/-- A HOLD attempt that has raised CONFIRM_WAIT already. -/
def confirming : State :=
  { settling .lay true false with
    trim := { holding.trim with attempt := some ⟨3, .lay, true, .zero, 0, false, true⟩ } }

theorem witness_SettledSampleDecidesTheAttempt :
    ∀ s ∈ [settling .lay false false, settling .lay true true, settling .lay true false, confirming,
        settling .probe false false],
      FrameArrives s fixFrame (.fix 8 .zero) ∧ s.tracker.state = .tracking ∧
        (voteClass s.seq.profile s.tracker.history ⟨.zero, s.time⟩).usable = true ∧
        badCount (appendWindow s.tracker.window (voteClass s.seq.profile s.tracker.history ⟨.zero, s.time⟩)) <
          s.seq.profile.unsteadyOn ∧
        s.control.boomMoving = false ∧ s.control.manualGrant = false ∧ s.control.emergency = false ∧
        ∃ a ∈ s.trim.attempt, a.decided = false ∧
          withinTolerance s.seq.profile a.kind
            (poseSub
              (slewPose s.seq.profile s.trim.range
                (poseError (effectiveTarget s.seq.profile a (neutralPose .zero s.trim.offset))
                  (neutralPose .zero s.trim.offset))
                s.trim.setPoint)
              (poseError (effectiveTarget s.seq.profile a (neutralPose .zero s.trim.offset))
                (neutralPose .zero s.trim.offset))) = true ∧
          s.seq.profile.settleCount ≤ min 63 (s.trim.settleCount + 1) := by
  simp only [FrameArrives]
  intro s hs
  simp only [List.mem_cons, List.not_mem_nil, or_false] at hs
  rcases hs with rfl | rfl | rfl | rfl | rfl <;> refine ⟨?_, ?_, ?_, ?_, rfl, rfl, rfl, _, rfl, ?_⟩ <;> decide +kernel

theorem witness_FrameEndSendsThePendingFrame :
    ({ idle.trim with sending := true, outputPending := true } : Trim).outputPending = true ∧
      ({ idle.trim with sending := true } : Trim).outputPending = false ∧ idle.trim.sending = false := by decide +kernel

/-- The bay holds the brick of entry 3 as it arrived. -/
def arrived (c : Content) : State :=
  withList [layRecord 2 .gripper, layRecord 3 .bay] (withBay { Bay.cleared with state := .arrived, content := c } running)
/-- The bay holds the spread brick of entry 3. -/
def takeable : State :=
  withList [layRecord 2 .gripper, layRecord 3 .bay] (withBay ⟨.spread, .entry 3, some 8, some 900, .empty⟩ running)
/-- The gripper is past a decision for entry 3. -/
def decided (g : GripperState) : State := withGripper { Gripper.cleared with state := g, content := .entry 3 } running
def fullBin (s : State) : State := { s with head := { s.head with binCount := 12 } }

/-- A decision has been taken for entry 2 in the gripper while the brick of entry 3 waits unspread, early spread on. -/
def bothSides (g : GripperState) : State :=
  let s := withGripper { Gripper.cleared with state := g, content := .entry 2 } (arrived (.entry 3))
  { s with seq := { s.seq with profile := { s.seq.profile with earlySpread := true } } }

/-- Both sides are free while the line is as in `running`. -/
theorem sideFree_running (s : State) (hs : s.line = running.line) (p : Position) (hp : p = .spreader ∨ p = .gripper) :
    SideFree s p := by
  unfold SideFree
  rw [hs]
  have h1 : running.line.headRequests = [] := rfl
  have h2 : running.line.transaction = none := rfl
  rw [h1, h2]
  refine ⟨fun c hc => by simp at hc, fun x hx => by simp at hx, ?_⟩
  rcases hp with rfl | rfl <;> decide +kernel

theorem witness_HeadSidesPlaceTheirCommands_both :
    ∀ g ∈ [GripperState.releasing, .probing],
      SideFree (bothSides g) .gripper ∧ SideFree (bothSides g) .spreader ∧ (bothSides g).head.gripper.content = .entry 2 ∧
        (bothSides g).head.gripper.state = g ∧ (bothSides g).head.bay.state = .arrived ∧
        (bothSides g).head.bay.content = .entry 3 ∧ (bothSides g).seq.profile.earlySpread = true := by
  intro g hg
  simp only [List.mem_cons, List.not_mem_nil, or_false] at hg
  rcases hg with rfl | rfl <;>
    exact ⟨sideFree_running _ rfl _ (.inr rfl), sideFree_running _ rfl _ (.inl rfl), rfl, rfl, rfl, rfl, rfl⟩

/-- The gripper holds an entry's brick, or nothing, while the bay's void brick wants its eject. -/
theorem witness_HeadSidesPlaceTheirCommands_bay :
    ∀ g ∈ [Gripper.cleared, { Gripper.cleared with state := .holding, content := .entry 2, brick := true }],
      SideFree (withGripper g (arrived (.void none))) .gripper ∧ GripperWantsNothing (withGripper g (arrived (.void none))) ∧
        (withGripper g (arrived (.void none))).head.bay.state = .arrived ∧
        (withGripper g (arrived (.void none))).head.bay.content = .void none ∧
        (withGripper g (arrived (.void none))).head.binCount < 12 := by
  intro g hg
  simp only [List.mem_cons, List.not_mem_nil, or_false] at hg
  rcases hg with rfl | rfl <;>
    exact ⟨sideFree_running _ rfl _ (.inr rfl), ⟨fun h => (by rcases h with h | h <;> cases h), fun _ _ f h => (by cases h)⟩,
      rfl, rfl, by decide⟩

theorem witness_HeadSidesPlaceTheirCommands :
    (SideFree (arrived (.entry 3)) .spreader ∧ (arrived (.entry 3)).head.bay.state = .arrived ∧
        (arrived (.entry 3)).head.bay.content = .entry 3 ∧ (arrived (.entry 3)).head.gripper.state = .empty) ∧
      (SideFree takeable .gripper ∧ takeable.head.gripper.state = .empty ∧ takeable.head.bay.state = .spread ∧
        takeable.head.bay.content = .entry 3 ∧ NextRecord takeable (layRecord 3 .bay) ∧
        takeable.control.manualGrant = false) ∧
      (SideFree (decided .releasing) .gripper ∧ (decided .releasing).head.gripper.content = .entry 3 ∧
        (decided .releasing).head.gripper.state = .releasing ∧ (decided .probing).head.gripper.state = .probing) ∧
      (SideFree voidHeld .gripper ∧ voidHeld.head.gripper.state = .holding ∧
        voidHeld.head.gripper.content = .void (some 3) ∧ voidHeld.head.gripper.brick = true ∧ voidHeld.head.binCount < 12 ∧
        12 ≤ (fullBin voidHeld).head.binCount) ∧
      ((arrived (.void none)).head.gripper.state = .empty ∧ (arrived (.void none)).head.bay.content = .void none) ∧
      (¬SideFree requesting .spreader ∧ ¬SideFree requesting .gripper) := by
  have h : NextRecord takeable (layRecord 3 .bay) := ⟨[layRecord 2 .gripper], [], rfl, by decide, by decide⟩
  have f := sideFree_running
  refine ⟨⟨f _ rfl _ (.inl rfl), by decide +kernel⟩, ⟨f _ rfl _ (.inr rfl), by decide +kernel, by decide +kernel,
    by decide +kernel, h, by decide +kernel⟩, ⟨f _ rfl _ (.inr rfl), by decide +kernel⟩,
    ⟨f _ rfl _ (.inr rfl), by decide +kernel⟩, by decide +kernel, ?_, ?_⟩
  · intro hf; exact absurd (hf.1 .spread (by decide)) (by decide)
  · intro hf; exact absurd (hf.1 (.eject .bay) (by decide)) (by decide)

/-- The next record is a PROBE in ISSUED. -/
def probing : State :=
  let s := withEntry 3 .issued 2 running |> withList [{ layRecord 3 .none with kind := .probe }]
  { s with tracker := { s.tracker with state := .tracking } }

/-- Tracking is LOST under a recovery mode. -/
def lost (m : RecoveryMode) (s : State) : State :=
  { s with
    tracker := { s.tracker with state := .lost }
    seq := { s.seq with profile := { s.seq.profile with recoveryMode := m } } }

theorem witness_ProbeIsTakenUp :
    (BookWf probing ∧ DistinctEntries probing ∧ NextRecord probing { layRecord 3 .none with kind := .probe } ∧
        probing.head.gripper.state = .empty ∧ probing.entryState 3 = some .issued ∧ ¬LossFails probing) ∧
      (LossFails (lost .fail probing) ∧ ¬UnderCloseRequest (lost .fail probing) 3) ∧
      (NextRecord takeable (layRecord 3 .bay) ∧ (layRecord 3 .bay).kind ≠ .probe) ∧
      ∀ r ∈ holding.issue.list, r.location = .gripper := by
  refine ⟨⟨?_, ?_, ⟨[], [], rfl, by decide, by decide⟩, by decide +kernel, by decide +kernel, fun h => (by cases h.1)⟩,
    ⟨⟨rfl, .inl rfl⟩, ?_⟩, ⟨⟨[layRecord 2 .gripper], [], rfl, by decide, by decide⟩, by decide⟩, by decide +kernel⟩
  · unfold BookWf; decide +kernel
  · unfold DistinctEntries; decide +kernel
  · simp only [UnderCloseRequest, InActive]; decide +kernel

/-- A poll of a head station that has reported its operation DONE with a result below 256. -/
theorem reports_done (s : State) (p : Position) (c : StationCommand) (result : Byte)
    (ht : (s.time - (s.time - 2)).toNat ≤ 10) (hd : (s.line.at p).deferred = none) (hp : isFeederPosition p = false)
    (hj : judgeReply p true (queryBytes p 2 (commandCode c) result 0) =
      .good (.status ⟨.done, commandCode c, BitVec.setWidth 16 result, 0, 0⟩)) :
    ReportsDone (asking p (.command c) s) p c (queryBytes p 2 (commandCode c) result 0) (BitVec.setWidth 16 result) := by
  refine ⟨⟨poll_answered s p _ _ _ ht hj, ?_⟩, ?_, hp⟩ <;> cases p <;> first | rfl | exact hd

/-- TAKE is outstanding for entry 3, RELEASE or PROBE for what the gripper holds. -/
def takeRunning : State :=
  let s := withEntry 3 .head 1 (withGripper { Gripper.cleared with state := .taking, content := .entry 3 } takeable)
  { s with tracker := { s.tracker with state := .tracking } }

theorem witness_HeadOperationsMoveTheBrick :
    (ReportsDone (asking .spreader (.command .spread) (arrived (.entry 3))) .spreader .spread
        (queryBytes .spreader 2 0x31 0 0) 0 ∧ (arrived (.entry 3)).head.bay.content = .entry 3) ∧
      (BookWf takeRunning ∧ DistinctEntries takeRunning ∧
        ReportsDone (asking .gripper (.command .take) takeRunning) .gripper .take (queryBytes .gripper 2 0x41 0 0) 0 ∧
        layRecord 3 .bay ∈ takeRunning.issue.list ∧ takeRunning.head.gripper.content = .entry 3 ∧
        takeRunning.entryState 3 = some .head ∧ takeRunning.head.bay.rootTime = some 900 ∧ ¬LossFails takeRunning) ∧
      (LossFails (lost .fail takeRunning) ∧ (arrived (.void none)).head.bay.content = .void none ∧
        voidHeld.head.gripper.content = .void (some 3)) ∧
      (∀ place, ReportsDone (asking .gripper (.command (.eject place)) running) .gripper (.eject place)
        (queryBytes .gripper 2 0x44 0 0) 0) ∧
      ({ running.head with binCount := 11 } : Head).binCount = 11 := by
  refine ⟨⟨reports_done _ .spreader .spread 0 (by decide +kernel) rfl rfl (by decide +kernel), by decide +kernel⟩,
    ⟨?_, ?_, reports_done _ .gripper .take 0 (by decide +kernel) rfl rfl (by decide +kernel), by decide +kernel,
      by decide +kernel, by decide +kernel, by decide +kernel, fun h => (by cases h.1)⟩,
    ⟨⟨rfl, .inl rfl⟩, rfl, rfl⟩, fun place =>
      reports_done _ .gripper (.eject place) 0 (by decide +kernel) rfl rfl (by cases place <;> decide +kernel), rfl⟩
  · unfold BookWf; decide +kernel
  · unfold DistinctEntries; decide +kernel

theorem witness_ReleaseDoneLaysTheEntry :
    (BookWf holding ∧ ReportsDone (asking .gripper (.command .release) holding) .gripper .release
        (queryBytes .gripper 2 0x42 0 0) 0 ∧ holding.head.gripper.content = .entry 3 ∧
        DeviationFits holding.head.gripper.deviation ∧ holding.head.gripper.tally ≤ 65535 ∧ InActive holding 0 3 ∧
        FiguresFit { holding.courseFigures 0 with remaining := 2, laid := 1 }) ∧
      (Uncounted idle 3 ∧ ReportsDone (asking .gripper (.command .release) voidHeld) .gripper .release
        (queryBytes .gripper 2 0x42 0 0) 0 ∧ voidHeld.head.gripper.content = .void (some 3)) := by
  refine ⟨⟨?_, reports_done _ .gripper .release 0 (by decide +kernel) rfl rfl (by decide +kernel), by decide +kernel, ?_,
    by decide +kernel, ?_, ?_⟩, ?_, reports_done _ .gripper .release 0 (by decide +kernel) rfl rfl (by decide +kernel),
    by decide +kernel⟩
  · unfold BookWf; decide +kernel
  · unfold DeviationFits; decide +kernel
  · unfold InActive; decide +kernel
  · unfold FiguresFit; decide +kernel
  · unfold Uncounted InActive; decide +kernel

/-- A PROBE of entry 3 has been decided at G_z = 15, S_z = 5. -/
def probed : State :=
  { holding with
    trim := { holding.trim with attempt := some ⟨3, .probe, false, .zero, 0, true, false⟩, settleSample := some (15, 5) } }

theorem witness_ProbeDoneRecordsTheTop :
    (BookWf probed ∧ ReportsDone (asking .gripper (.command .probe) probed) .gripper .probe
        (queryBytes .gripper 2 0x43 3 0) 3 ∧ (3 : Half).toNat ≤ 600 ∧ probed.head.gripper.content = .entry 3 ∧
        probed.trim.attempt = some ⟨3, .probe, false, .zero, 0, true, false⟩ ∧ probed.trim.settleSample = some (15, 5) ∧
        probed.head.gripper.tally ≤ 65535 ∧ Clamped (-2000000) 2000000 (15 + 5 - 3) 17 ∧
        Clamped (-32767) 32767 (15 + 5 - 3 - 0) 17 ∧ InActive probed 0 3) ∧
      (ReportsDone (asking .gripper (.command .probe) probed) .gripper .probe
        (withCheck [0x63, 0, 0, 8, 2, 0x43, 0x59, 2, 0, 0, 0, 0]) 601 ∧ 600 < (601 : Half).toNat ∧
        ((asking .gripper (.command .probe) probed).line.at .gripper).state ≠ .faulted) := by
  refine ⟨⟨?_, reports_done _ .gripper .probe 3 (by decide +kernel) rfl rfl (by decide +kernel), by decide, by decide +kernel,
    rfl, rfl, by decide +kernel, ?_, ?_, ?_⟩,
    ⟨⟨poll_answered _ _ _ _ _ (by decide +kernel) (by decide +kernel), by decide +kernel⟩, by decide +kernel, rfl⟩,
    by decide, by decide +kernel⟩
  · unfold BookWf; decide +kernel
  · unfold Clamped; decide
  · unfold Clamped; decide
  · unfold InActive; decide +kernel

/-- The measured top lies beyond the end of its range, and the deviation beyond its own; a void PROBE is outstanding. -/
theorem witness_ProbeDoneRecordsTheTop_ends :
    (({ probed.trim with settleSample := some (2000000, 400) } : Trim).settleSample = some (2000000, 400) ∧
        Clamped (-2000000) 2000000 (2000000 + 400 - 3) 2000000 ∧ Clamped (-32767) 32767 (2000000 + 400 - 3 - 0) 32767) ∧
      (({ probed.trim with settleSample := some (-2000000, -400) } : Trim).settleSample = some (-2000000, -400) ∧
        Clamped (-2000000) 2000000 (-2000000 + -400 - 3) (-2000000) ∧
        Clamped (-32767) 32767 (-2000000 + -400 - 3 - 0) (-32767)) ∧
      (ReportsDone (asking .gripper (.command .probe) voidHeld) .gripper .probe (queryBytes .gripper 2 0x43 3 0) 3 ∧
        (3 : Half).toNat ≤ 600 ∧ voidHeld.head.gripper.content = .void (some 3)) := by
  refine ⟨⟨rfl, ?_, ?_⟩, ⟨rfl, ?_, ?_⟩, reports_done _ .gripper .probe 3 (by decide +kernel) rfl rfl (by decide +kernel),
    by decide, rfl⟩ <;> unfold Clamped <;> decide

/-- An image whose checksum word is the sum of its words. -/
def goodImage (s : State) : State := (s.setWord (imageAddr 4) 50).setWord (imageAddr 31) 50
/-- A commit of a good image is busy. -/
def committing : State := goodImage { idle with cal := { idle.cal with busy := true } }

theorem witness_PowerOnClearsThePart :
    idle.cal.busy = false ∧ (committing.cal.busy = true ∧ ImageGood committing.image) ∧
      ({ idle with cal := { idle.cal with busy := true } }.cal.busy = true ∧ ¬ImageGood idle.image) ∧
      (5 : Fin 32).val < 31 := by
  simp only [ImageGood]; decide +kernel

theorem witness_ControlResetClearsTheWork :
    BookWf courseRunning ∧ courseRunning.control.state ≠ .init ∧ InFlight courseRunning 6 ∧ ¬InFlight courseRunning 4 ∧
      courseRunning.seq.active = some 0 := by
  simp only [BookWf, InFlight]; decide +kernel

/-- INIT waits for the load of a store. -/
def loading (store : Vector Word 32) : State :=
  let s := inState .init idle
  { s with control := { s.control with loaded := false }, cal := { s.cal with store := store } }

theorem witness_CalibrationIsCommittedAndLoaded :
    (CommitAllowed (goodImage idle) ∧ ImageGood (goodImage idle).image) ∧
      (CommitAllowed (inState .halt idle) ∧ ¬ImageGood (inState .halt idle).image) ∧
      (committing.cal.busy = true ∧ ImageGood committing.image) ∧
      ({ idle with cal := { idle.cal with busy := true } } : State).cal.busy = true ∧
      (BookWf (loading (goodImage idle).image) ∧ (loading (goodImage idle).image).control.state = .init ∧
        (loading (goodImage idle).image).cal.busy = false ∧ (loading (goodImage idle).image).control.loaded = false ∧
        ImageGood (loading (goodImage idle).image).cal.store) ∧
      ¬ImageGood (loading idle.cal.store).cal.store := by
  simp only [CommitAllowed, ImageGood, BookWf]; decide +kernel

theorem witness_CarriedCorrectionTruncatesAndClamps :
    ((-1 - 1) * 14 < (-23 : Int) ∧ (-23 : Int) ≤ -1 * 14 ∧ (-23 : Int) ≤ 0 ∧ Within 30 (-1)) ∧
      ((43 : Int) * 12 ≤ 517 ∧ (517 : Int) < (43 + 1) * 12 ∧ (30 : Int) < 43) ∧
      ((-43 - 1) * 12 < (-517 : Int) ∧ (-517 : Int) ≤ -43 * 12 ∧ (-43 : Int) < -30) := by
  simp only [Within]; decide

theorem witness_FramesSumToZero :
    byteSum [0xA5] ≠ 0 ∧ byteSum [0x60, 0, 0, BitVec.ofNat 8 ([0].length - 1 : Nat), (0 : Byte)] ≠ 0 ∧
      [(0 : Byte)].length ≤ 9 := by decide

/-- The state that the invariants' witnesses share meets the bounds. -/
theorem witness_StepsKeepTheBounds : WithinBounds idle := by
  unfold WithinBounds ProfileInRange DeviationFits CommandsFit BinFits
  repeat' apply And.intro
  all_goals first
    | decide +kernel
    | (intro x hx; cases hx; done)
    | (intro p c h; cases p <;> cases h)

/-- That state meets the other invariants, and a step of it answers a next state. -/
theorem witness_invariants :
    BookWf idle ∧ OneActiveCourse idle ∧ Derived idle ∧ StageWithinRange idle ∧ EmergencyHeld idle ∧
      ListEmptyAtRest idle ∧ HaltHoldsNoWork idle ∧ ListInFlight idle ∧ DistinctEntries idle ∧
      ∃ t, step { idle with pending := [.run] } = .next t := by
  have d : Derived idle := by
    refine ⟨by decide +kernel, by decide +kernel, ⟨fun h => absurd h (by decide +kernel), fun h => absurd (h.1 .a) ?_⟩, ?_⟩
    · unfold FeederReady; decide +kernel
    · decide +kernel
  refine ⟨?_, ?_, d, ?_, ?_, fun _ _ => rfl, fun h => (by cases h), fun r hr => (by cases hr), ?_, _, rfl⟩
  · unfold BookWf; decide +kernel
  · unfold OneActiveCourse; decide +kernel
  · unfold StageWithinRange Within; decide +kernel
  · unfold EmergencyHeld; decide +kernel
  · unfold DistinctEntries; decide +kernel

end Sys2Proof.Tests
end

section
/-! SUPPORT. CONFIRM (R10): which writes are accepted, what an accepted one does to the gripper record, and that every
other one is discarded. -/

namespace Sys2Proof

open Sys2Proof.Machine

/-! ### Writes that the book monitor discards (Conventions, R187) -/

theorem hasCause_discardWrite (s : State) (c : Cause) :
    hasCause s.discardWrite c = (hasCause s c || decide (c = .bookWriteRefused)) :=
  hasCause_raise s .bookWriteRefused c

theorem keptBut_discardWrite (s : State) : KeptBut [] s s.discardWrite := by
  intro b _
  cases b <;> simp [Block.kept]

/-- A command whose whole work is to discard its write is a discarded host write. -/
theorem discarded_of_exec {c : Instr} {s : State} (h : exec c s = answer s s.discardWrite) : Discarded c s := by
  refine ⟨_, h, hasCause_finish_of _ _ _ ?_, keptBut_finish (keptBut_discardWrite s), causesKeptBut_finish ?_ ?_⟩
  · simp [hasCause_discardWrite]
  · intro c hc
    have hne : c ≠ .bookWriteRefused := by simpa using hc
    simp [hasCause_discardWrite, hne]
  · simp

/-! ### CONFIRM (R10) -/

theorem exec_confirm (i : EntryIx) (s : State) : exec (.confirm i) s = answer s (s.confirmEntry i) := rfl

theorem confirmAccepted_iff (s : State) (i : EntryIx) :
    s.confirmAccepted i = true ↔
      s.entryState i = some .placing ∧ s.entryKind i = kindLay ∧ s.entryHold i = true := by
  simp [State.confirmAccepted, and_assoc]

theorem confirmEntry_of_content {s : State} {i : EntryIx} (ha : s.confirmAccepted i = true)
    (hc : s.head.gripper.content = .entry i) :
    s.confirmEntry i = s.withHead { s.head with gripper := { s.head.gripper with confirm := true } } := by
  rw [State.confirmEntry, if_pos ha, if_pos hc]

theorem confirmEntry_of_other_content {s : State} {i : EntryIx} (ha : s.confirmAccepted i = true)
    (hc : s.head.gripper.content ≠ .entry i) : s.confirmEntry i = s := by
  rw [State.confirmEntry, if_pos ha, if_neg hc]

theorem confirmEntry_of_not_accepted {s : State} {i : EntryIx} (ha : ¬s.confirmAccepted i = true) :
    s.confirmEntry i = s.discardWrite := by
  rw [State.confirmEntry, if_neg ha]

theorem keptBut_withHead (s : State) (x : Head) : KeptBut [.head] s (s.withHead x) := by
  intro b hb
  cases b
  case head => exact absurd (List.mem_singleton_self _) hb
  all_goals simp [Block.kept]

/-- Replacing the head alone raises no cause. -/
theorem causesKeptBut_withHead (s : State) (x : Head) : CausesKeptBut [] s (finish s (s.withHead x)) :=
  causesKeptBut_finish (fun c _ => hasCause_congr (by simp) c) (by simp)

/-- An accepted CONFIRM marks the gripper record while its content is still that entry, and otherwise does nothing. -/
theorem confirm_accepted {s : State} {i : EntryIx} (ha : s.confirmAccepted i = true) :
    ∃ t, exec (.confirm i) s = .next t ∧
      (s.head.gripper.content = .entry i →
        t.head = { s.head with gripper := { s.head.gripper with confirm := true } }) ∧
      (s.head.gripper.content ≠ .entry i → t.head = s.head) ∧ KeptBut [.head] s t ∧ CausesKeptBut [] s t := by
  refine ⟨_, exec_confirm i s, ?_⟩
  by_cases hc : s.head.gripper.content = .entry i
  · rw [confirmEntry_of_content ha hc]
    exact ⟨fun _ => by simp, fun hne => absurd hc hne, keptBut_finish (keptBut_withHead s _),
      causesKeptBut_withHead s _⟩
  · rw [confirmEntry_of_other_content ha hc]
    exact ⟨fun h => absurd h hc, fun _ => by simp, keptBut_finish (keptBut_refl _ s),
      causesKeptBut_finish (fun _ _ => rfl) rfl⟩

/-- A CONFIRM that is not accepted is discarded, whatever the gripper holds. -/
theorem confirm_discarded {s : State} {i : EntryIx} (ha : ¬s.confirmAccepted i = true) : Discarded (.confirm i) s := by
  apply discarded_of_exec
  rw [exec_confirm, confirmEntry_of_not_accepted ha]

/-- Settles O14, by whether the write is accepted (R10) and then by whether the gripper still holds the entry. -/
theorem confirmSetsTheMark : Obligations.ConfirmSetsTheMark := by
  refine ⟨fun i s hs hk hh => confirm_accepted ((confirmAccepted_iff s i).2 ⟨hs, hk, hh⟩),
    fun i s hrefused => confirm_discarded fun ha => ?_⟩
  obtain ⟨hs, hk, hh⟩ := (confirmAccepted_iff s i).1 ha
  rcases hrefused with hstate | hkind | hhold
  · exact hstate hs
  · exact hkind hk
  · exact absurd hh (by simp [hhold])

end Sys2Proof
end

section
/-! SUPPORT. The register window: what a read of CAUSE returns and clears (R188), what a write to MASK_SET or MASK_CLEAR
makes of MASK (R189), and that neither touches anything else. -/

namespace Sys2Proof

open Sys2Proof.Machine

/-! ### Replacing the host port -/

/-- Of a replaced host port, a frame asks only that the mask and the read data stand where it does not name them. -/
theorem keptBut_withHost {bs : List Block} {s : State} {x : HostPort} (hmask : .mask ∉ bs → x.mask = s.host.mask)
    (hread : .readData ∉ bs → x.readData = s.host.readData) : KeptBut bs s (s.withHost x) := by
  intro b hb
  cases b
  case mask => exact hmask hb
  case readData => exact hread hb
  all_goals simp [Block.kept]

/-- Replacing the host port with its cause bits as they stood raises no cause. -/
theorem causesKeptBut_withHost {s : State} {x : HostPort} (h : x.cause = s.host.cause) :
    CausesKeptBut [] s (finish s (s.withHost x)) :=
  causesKeptBut_finish (fun c _ => hasCause_congr (by simpa using h) c) (by simp)

/-! ### Causes through the closing of a command -/

theorem hasCause_finish_of_ne (old u : State) {c : Cause} (hc : c ≠ .supplyStarved) :
    hasCause (finish old u) c = hasCause u c := by
  simp [hasCause_finish, hc]

/-- The closing of a command whose work has kept the starved mark sets SUPPLY_STARVED exactly at an entry into the
starved condition (R58). -/
theorem hasCause_finish_supplyStarved {s u : State} (h : u.issue.starved = s.issue.starved) :
    hasCause (finish s u) .supplyStarved = (hasCause u .supplyStarved || starvedAnew s (finish s u)) := by
  simp [hasCause_finish, starvedAnew, starved_finish, h]

/-! ### The read of CAUSE (R188) -/

/-- The state in which a read of CAUSE has been served, before the command is closed. -/
def causesServed (lanes : BitVec 4) (s : State) : State :=
  s.withHost
    { s.host with
      readData := (s.causesRead lanes).zeroExtend 32
      cause := s.host.cause &&& ~~~(s.causesRead lanes) }

theorem exec_causeRead (lanes : BitVec 4) (s : State) :
    exec (.causeRead lanes) s = answer s (causesServed lanes s) := rfl

/-- A cause is among those returned when it stands and its byte is read. -/
theorem causesRead_bit (s : State) (lanes : BitVec 4) (c : Cause) :
    (s.causesRead lanes).getLsbD (causeBit c) = (hasCause s c && (laneMask lanes).getLsbD (causeBit c)) := by
  simp [State.causesRead, hasCause, causeBit_lt]

theorem hasCause_causesServed (lanes : BitVec 4) (s : State) (c : Cause) :
    hasCause (causesServed lanes s) c = (hasCause s c && !(laneMask lanes).getLsbD (causeBit c)) := by
  have hcleared : hasCause (causesServed lanes s) c =
      (hasCause s c && !(s.causesRead lanes).getLsbD (causeBit c)) := by
    simp [hasCause, causesServed, causeBit_lt]
  rw [hcleared, causesRead_bit]
  cases hasCause s c <;> simp

/-- The value returned is the whole register confined to the bytes read. -/
theorem causesServed_readData (lanes : BitVec 4) (s : State) :
    (causesServed lanes s).host.readData = s.host.cause.setWidth 32 &&& laneMask lanes := by
  apply BitVec.eq_of_getLsbD_eq
  intro n hn
  by_cases h : n < 17
  · simp [causesServed, State.causesRead, h, hn]
  · simp [causesServed, State.causesRead, h, BitVec.getLsbD_of_ge s.host.cause n (by omega)]

theorem keptBut_causesServed (lanes : BitVec 4) (s : State) : KeptBut [.readData] s (causesServed lanes s) :=
  keptBut_withHost (fun _ => rfl) fun h => absurd (List.mem_singleton_self _) h

/-- A read of CAUSE returns the cause bits of its bytes and clears exactly those. -/
theorem causeRead_clears (lanes : BitVec 4) (s : State) :
    ∃ t, exec (.causeRead lanes) s = .next t ∧
      t.host.readData = s.host.cause.setWidth 32 &&& laneMask lanes ∧
      (∀ c, c ≠ .supplyStarved →
        hasCause t c = (hasCause s c && !(laneMask lanes).getLsbD (causeBit c))) ∧
      hasCause t .supplyStarved =
        ((hasCause s .supplyStarved && !(laneMask lanes).getLsbD (causeBit .supplyStarved)) || starvedAnew s t) ∧
      KeptBut [.readData] s t := by
  refine ⟨_, exec_causeRead lanes s, ?returned, fun c hc => ?cleared, ?starved,
    keptBut_finish (keptBut_causesServed lanes s)⟩
  case returned => simpa using causesServed_readData lanes s
  case cleared => rw [hasCause_finish_of_ne _ _ hc, hasCause_causesServed]
  case starved =>
    have hmark : (causesServed lanes s).issue.starved = s.issue.starved := rfl
    rw [hasCause_finish_supplyStarved hmark, hasCause_causesServed]

/-! ### The writes to MASK_SET and MASK_CLEAR (R189) -/

theorem exec_maskSet (v : Word) (s : State) :
    exec (.maskSet v) s = answer s (s.withHost { s.host with mask := s.host.mask ||| v.setWidth 17 }) := rfl

theorem exec_maskClear (v : Word) (s : State) :
    exec (.maskClear v) s = answer s (s.withHost { s.host with mask := s.host.mask &&& ~~~(v.setWidth 17) }) := rfl

/-- A command whose whole work is to replace the mask leaves every other block and every cause as it was. -/
theorem replacesMask_of_exec {c : Instr} {s : State} {m : BitVec 17}
    (h : exec c s = answer s (s.withHost { s.host with mask := m })) :
    ∃ t, exec c s = .next t ∧ t.host.mask = m ∧ KeptBut [.mask] s t ∧ CausesKeptBut [] s t :=
  ⟨_, h, by simp, keptBut_finish (keptBut_withHost (fun hb => absurd (List.mem_singleton_self _) hb) fun _ => rfl),
    causesKeptBut_withHost rfl⟩

theorem maskSet_sets (v : Word) (s : State) :
    ∃ t, exec (.maskSet v) s = .next t ∧
      (∀ n, n < 17 → t.host.mask.getLsbD n = (s.host.mask.getLsbD n || v.getLsbD n)) ∧ KeptBut [.mask] s t ∧
      CausesKeptBut [] s t := by
  obtain ⟨t, ht, hmask, hframe⟩ := replacesMask_of_exec (exec_maskSet v s)
  exact ⟨t, ht, fun n hn => by simp [hmask, hn], hframe⟩

theorem maskClear_clears (v : Word) (s : State) :
    ∃ t, exec (.maskClear v) s = .next t ∧
      (∀ n, n < 17 → t.host.mask.getLsbD n = (s.host.mask.getLsbD n && !v.getLsbD n)) ∧ KeptBut [.mask] s t ∧
      CausesKeptBut [] s t := by
  obtain ⟨t, ht, hmask, hframe⟩ := replacesMask_of_exec (exec_maskClear v s)
  exact ⟨t, ht, fun n hn => by simp [hmask, hn], hframe⟩

/-- Settles O18, register by register: the read of CAUSE (R188), then the writes to MASK_SET and MASK_CLEAR (R189). -/
theorem causeReadsClearAndMaskWritesSet : Obligations.CauseReadsClearAndMaskWritesSet :=
  ⟨causeRead_clears, maskSet_sets, maskClear_clears⟩

end Sys2Proof
end

section
/-! SUPPORT. What a step of the part can do: one millisecond, a command's work closed by `finish`, or a reset closed by
`finishReset`; and the induction over it that every invariant uses. -/

namespace Sys2Proof

open Sys2Proof.Machine

/-! ### The work of a command -/

/-- The words of the book that a host write stores as written: none is a state word (R11, R14, R17, R18, R21). -/
inductive PlainWord (s : State) : Nat → Prop
  | entry (i : EntryIx) (w : Nat) (h1 : 1 ≤ w) (h16 : w < 16) (hs : s.entryWritable i = true) : PlainWord s (entryAddr i w)
  | course (k : Slot) (w : Nat) (h1 : w ≠ 1) (h16 : w < 16) (hs : s.courseState k ≠ some .active) :
      PlainWord s (courseAddr k w)
  | jog (a : Axis) : PlainWord s (jogAddr a)
  | profile (f : ProfileField) : PlainWord s (profileAddr f)
  | image (j : Fin 32) : PlainWord s (imageAddr j.val)

/-- What a command that is no reset can make of the state before it is closed, with the conditions under which it does. -/
inductive Work (s : State) : State → Prop
  | nothing : Work s s
  | raises (c : Cause) : Work s (s.raise c)
  | hostPort (x : HostPort) : Work s (s.withHost x)
  | enterRun (h : RunAllowed s) : Work s (s.enterState .run)
  | enterDrain (h : s.control.state = .run) : Work s (s.enterState .drain).endDrain
  | leaveHalt (h : s.control.state = .halt) : Work s (s.enterState .idle)
  | endDrain (h : s.control.state = .drain) : Work s s.endDrain
  | enterHalt (h : s.control.state ≠ .halt) : Work s s.enterHalt
  | endInit (h : s.control.state = .init) : Work s (s.enterState .idle)
  | manual (request grant : Bool) :
      Work s (s.withControl { s.control with manualRequest := request, manualGrant := grant })
  | manualGrant (h : s.mayGrant = true) :
      Work s (((s.withControl { s.control with manualGrant := true }).withdrawTake.zeroSettle).raise .manualGranted)
  | emergencyAssert (h : s.control.emergency = false) :
      Work s ((s.withControl { s.control with emergency := true }).withTrim s.trim.stopDrive).requestHalt
  | emergencyClear (h : s.control.emergency = true) :
      Work s ((s.withControl { s.control with emergency := false }).withTrim
        ({ s.trim with driveEnable := true } : Trim).wantFrame)
  | boomWord (v : Word) (moving : Bool) : Work s ((s.setWord boomWordAddr v).holdBoom moving)
  | emptyBin (h : s.head.ejecting = false) : Work s (s.putHead { s.head with binCount := 0 })
  | storeWord (a : Nat) (v : Word) (h : PlainWord s a) : Work s (s.setWord a v)
  | openCourse (k : Slot) (h : s.courseState k = some .empty) : Work s (s.setCourseState k .opened)
  | emptyCourse (k : Slot) (h : s.courseState k = some .opened ∨ s.courseState k = some .closed) :
      Work s (s.setCourseState k .empty)
  | requestClose (k : Slot) (h : s.courseState k = some .active) (hm : s.seq.closeMark = false) : Work s (s.requestClose k)
  | postEntry (i : EntryIx) : Work s (s.postEntry i)
  | freeEntry (i : EntryIx) : Work s (s.freeEntry i)
  | cancelWrite (i : EntryIx) : Work s (s.cancelWrite i)
  | confirmEntry (i : EntryIx) : Work s (s.confirmEntry i)
  | commitBusy (h : s.commitAccepted = true) : Work s (s.withCal { s.cal with busy := true, acceptedAt := s.time })
  | rejectCommit : Work s s.rejectCommit
  | completeCommit : Work s s.completeCommit
  | loadCalibration (h : s.loadDue = true) :
      Work s ((((s.copyImage s.cal.store).withCal { s.cal with valid := calibrationGood s.cal.store }).handOver
        s.cal.store).withControl { s.control with loaded := true })
  | takeBytes (bs : List Byte) : Work s (s.takeBytes bs)
  | takeBytesGap (bs : List Byte) : Work s (s.takeBytes bs).byteGap
  | enterLost (h : s.lossDue = true) : Work s s.enterLost
  | beginFrame (h : s.trim.sending = true) : Work s (s.withTrim s.trim.beginFrame)
  | endFrame (h : s.trim.sending = true) : Work s (s.withTrim { s.trim with sending := false })
  | settleLimit (i : EntryIx) (h : s.settleDue = some i) :
      Work s ((s.withTrim { s.trim with settleTimer := none }).failAttempt i .settleTimeout)
  | failAttempt (i : EntryIx) (r : Reason) : Work s (s.failAttempt i r)
  | gripperRequest : Work s s.gripperRequest
  | spreaderRequest : Work s s.spreaderRequest
  | bothRequests : Work s s.gripperRequest.spreaderRequest
  | takeUpProbe : Work s s.takeUpProbe
  | receiveReply (bs : List Byte) : Work s (s.receiveReply bs)
  | failTransaction (t : Transaction) (h : s.line.transaction = some t) : Work s (s.failTransaction t)
  | pollDue (p : Position) (h : s.pollReached p = true) :
      Work s (s.setStation p { s.line.at p with pollPending := true })
  | grantLine : Work s s.grantLine
  | holdExpires (f : Feeder) (h : (s.line.at (feederPosition f)).state = .held) :
      Work s (s.changeStation (feederPosition f) { s.line.at (feederPosition f) with state := .ready, hold := none })
  | feedTimeout (f : Feeder) (h : s.feedTimerDue = some f) :
      Work s (s.endFeed.setStation (feederPosition f) (timedOutFeeder (s.endFeed.line.at (feederPosition f))))
  | activation (during : List LatchWrite) (late : List LateWrite) (h : s.mayActivate = true) :
      Work s ((s.latchProfile during).expireLossIfDue.activate s.seq.pointer late)
  | takeEntry (k : Slot) (i : EntryIx) (seen : Byte) (ha : s.seq.active = some k) (hm : s.mayTake = true)
      (hc : s.candidate k = some i) : Work s (s.takeEntry k i seen)
  | orderFeed (r : IssueRecord) (hf : s.issue.feed = none) (h : s.issue.list.find? IssueRecord.needsFeed = some r) :
      Work s (s.orderFeed r.entry r.cutLength)
  | matchBrick (f : FeedPending) (hf : s.issue.feed = some f) (hq : s.train.queue.length < trainMax) :
      Work s (s.matchBrick f)
  | strayAtRoot (hf : s.issue.feed = none) (hq : s.train.queue.length < trainMax) :
      Work s (s.appendCarrier none none).trainFault
  | trainFault : Work s s.trainFault
  | popFront (c : Carrier) (rest : List Carrier) (hb : s.head.bay.state = .empty) (hq : s.train.queue = c :: rest) :
      Work s (s.popFront c rest)
  | strayAtBay (hb : s.head.bay.state = .empty) (hq : s.train.queue = []) :
      Work s (s.arriveBay (.void none) none).trainFault

/-- What a reset makes of the state before it is closed (R176, R177). -/
inductive ResetWork (s : State) : State → Prop
  | power (inputs : InitInputs) (emergency : Bool) (w : StoreWrite) :
      ResetWork s ((s.powerUp emergency w).controlReset inputs)
  | control (inputs : InitInputs) : ResetWork s (s.controlReset inputs)

/-- The command is closed after work that it can do, or after a reset. -/
def ClosesWork (s t : State) : Prop :=
  (∃ u, Work s u ∧ t = finish s u) ∨ ∃ u, ResetWork s u ∧ t = finishReset s u

theorem closesWork_of_answer {s t u : State} (h : answer s u = .next t) (hw : Work s u) : ClosesWork s t := by
  injection h with h
  exact .inl ⟨u, hw, h.symm⟩

theorem closesWork_of_answerReset {s t u : State} (h : answerReset s u = .next t) (hw : ResetWork s u) :
    ClosesWork s t := by
  injection h with h
  exact .inr ⟨u, hw, h.symm⟩

theorem runAllowed_iff (s : State) : (s.control.state = .idle ∧ s.runConditions = true) ↔ RunAllowed s := by
  simp [RunAllowed, State.runConditions, and_assoc]

/-- Every command closes one of the works, whatever the state it is taken in. -/
theorem exec_closesWork {c : Instr} {s t : State} (h : exec c s = .next t) : ClosesWork s t := by
  cases c with
  | powerOn inputs e w => exact closesWork_of_answerReset h (.power inputs e w)
  | hostPortReset inputs => exact closesWork_of_answerReset h (.control inputs)
  | reset inputs =>
    change execReset inputs s = _ at h
    unfold execReset at h
    split at h
    · exact closesWork_of_answer h (.raises _)
    · exact closesWork_of_answerReset h (.control inputs)
  | run =>
    refine closesWork_of_answer h ?_
    split
    · exact .enterRun ((runAllowed_iff s).1 ‹_›)
    · exact .raises _
  | stop =>
    refine closesWork_of_answer h ?_
    split
    · exact .raises _
    · exact .nothing
    · exact .nothing
    · exact .enterDrain ‹_›
    · split
      · exact .raises _
      · exact .leaveHalt ‹_›
  | abort =>
    refine closesWork_of_answer h ?_
    split
    · exact .raises _
    · exact .nothing
    all_goals exact .enterHalt (by simp [*])
  | commitCal =>
    refine closesWork_of_answer h ?_
    split
    · rename_i hc
      split
      · exact .commitBusy hc
      · exact .rejectCommit
    · exact .raises _
  | refusedCommandCode _ => exact closesWork_of_answer h (.raises _)
  | manualRequestSet => exact closesWork_of_answer h (.manual true s.control.manualGrant)
  | manualRequestClear => exact closesWork_of_answer h (.manual false false)
  | causeRead _ | maskSet _ | maskClear _ => exact closesWork_of_answer h (.hostPort _)
  | ignoredRegisterWrite _ _ _ => exact closesWork_of_answer h .nothing
  | partialBookWrite _ _ _ | spareWordWrite _ _ | statusBlockWrite _ _ | layoutVersionWrite _ =>
    exact closesWork_of_answer h (.raises _)
  | entryPostWrite i => exact closesWork_of_answer h (.postEntry i)
  | entryFreeWrite i => exact closesWork_of_answer h (.freeEntry i)
  | entryCancelWrite i => exact closesWork_of_answer h (.cancelWrite i)
  | confirm i => exact closesWork_of_answer h (.confirmEntry i)
  | entryFieldWrite i w v =>
    refine closesWork_of_answer h ?_
    split
    · exact .storeWord _ _ (.entry i _ (by cases w <;> decide) (entryWordNumber_lt w) ‹_›)
    · exact .raises _
  | courseOpenWrite k =>
    refine closesWork_of_answer h ?_
    split
    · exact .openCourse k ‹_›
    · exact .nothing
    · exact .raises _
  | courseEmptyWrite k =>
    refine closesWork_of_answer h ?_
    split
    · exact .emptyCourse k (.inl ‹_›)
    · exact .emptyCourse k (.inr ‹_›)
    · exact .nothing
    · exact .raises _
  | closeRequest k =>
    refine closesWork_of_answer h ?_
    split
    · split
      · exact .nothing
      · exact .requestClose k ‹_› (Bool.eq_false_iff.2 ‹_›)
    · exact .raises _
  | courseFieldWrite k w v =>
    refine closesWork_of_answer h ?_
    split
    · rename_i hw
      have hw' : s.courseState k ≠ some .active ∧ w ≠ .updateCount := by simpa [State.courseWritable] using hw
      exact .storeWord _ _ (.course k _ (by cases w <;> decide) (courseWordNumber_lt w) hw'.1)
    · exact .raises _
  | boomWordWrite v => exact closesWork_of_answer h (.boomWord v _)
  | binEmptiedWrite _ =>
    refine closesWork_of_answer h ?_
    split
    · exact .raises _
    · exact .emptyBin (Bool.eq_false_iff.2 ‹_›)
  | jogWordWrite a v => exact closesWork_of_answer h (.storeWord _ _ (.jog a))
  | profileWordWrite f v => exact closesWork_of_answer h (.storeWord _ _ (.profile f))
  | calImageWrite j v =>
    refine closesWork_of_answer h ?_
    split
    · exact .raises _
    · exact .storeWord _ _ (.image j)
  | emergencyAssert =>
    refine closesWork_of_answer h ?_
    split
    · exact .nothing
    · exact .emergencyAssert (Bool.eq_false_iff.2 ‹_›)
  | emergencyClear =>
    refine closesWork_of_answer h ?_
    split
    · exact .emergencyClear ‹_›
    · exact .nothing
  | rootSensor =>
    refine closesWork_of_answer h ?_
    split
    · split
      · exact .matchBrick _ ‹_› ‹_›
      · exact .trainFault
    · split
      · exact .strayAtRoot ‹_› ‹_›
      · exact .trainFault
  | baySensor =>
    refine closesWork_of_answer h ?_
    split
    · split
      · exact .popFront _ _ ‹_› ‹_›
      · exact .strayAtBay ‹_› ‹_›
    · exact .trainFault
  | trackerFrame bs => exact closesWork_of_answer h (.takeBytes bs)
  | trackerByteGap bs => exact closesWork_of_answer h (.takeBytesGap bs)
  | commandReply bs | queryReply bs | replyNotGood bs => exact closesWork_of_answer h (.receiveReply bs)
  | replyDeadline =>
    refine closesWork_of_answer h ?_
    split
    · split
      · exact .failTransaction _ ‹_›
      · exact .nothing
    · exact .nothing
  | stationByteGap =>
    refine closesWork_of_answer h ?_
    split
    · exact .failTransaction _ ‹_›
    · exact .nothing
  | pollDue p =>
    refine closesWork_of_answer h ?_
    split
    · exact .pollDue p ‹_›
    · exact .nothing
  | lineGrant => exact closesWork_of_answer h .grantLine
  | holdTimerExpiry f =>
    refine closesWork_of_answer h ?_
    split
    · rename_i hh
      exact .holdExpires f hh.1
    · exact .nothing
  | feedTimerExpiry =>
    refine closesWork_of_answer h ?_
    split
    · exact .feedTimeout _ ‹_›
    · exact .nothing
  | jam =>
    refine closesWork_of_answer h ?_
    split
    · exact .trainFault
    · exact .nothing
  | lossTimerExpiry =>
    refine closesWork_of_answer h ?_
    split
    · exact .enterLost ‹_›
    · exact .nothing
  | settleLimitExpiry =>
    refine closesWork_of_answer h ?_
    split
    · exact .settleLimit _ ‹_›
    · exact .nothing
  | openTimeExpiry _ | restartDelayExpiry =>
    refine closesWork_of_answer h ?_
    split
    · exact .failAttempt _ _
    · exact .nothing
  | setpointFrameEnd =>
    refine closesWork_of_answer h ?_
    split
    · split
      · exact .beginFrame ‹_›
      · exact .endFrame ‹_›
    · exact .nothing
  | commitEnd =>
    refine closesWork_of_answer h ?_
    split
    · split
      · exact .completeCommit
      · exact .rejectCommit
    · exact .nothing
  | calLoad =>
    refine closesWork_of_answer h ?_
    split
    · exact .loadCalibration ‹_›
    · exact .nothing
  | initEnd =>
    refine closesWork_of_answer h ?_
    split
    · rename_i hi
      split
      · exact .enterHalt (by simp [hi.1])
      · exact .endInit hi.1
    · exact .nothing
  | courseActivation inputs =>
    refine closesWork_of_answer h ?_
    split
    · exact .activation _ _ ‹_›
    · exact .nothing
  | entryTake seen =>
    refine closesWork_of_answer h ?_
    split
    · exact .nothing
    · split
      · exact .takeEntry _ _ seen ‹_› ‹_› ‹_›
      · exact .nothing
  | refeed =>
    refine closesWork_of_answer h ?_
    split
    · exact .orderFeed _ ‹_› ‹_›
    · exact .nothing
  | headRequest sides =>
    refine closesWork_of_answer h ?_
    cases sides with
    | spreaderSide => exact .spreaderRequest
    | gripperSide => exact .gripperRequest
    | both => exact .bothRequests
  | probeTakeUp => exact closesWork_of_answer h .takeUpProbe
  | manualGrant =>
    refine closesWork_of_answer h ?_
    split
    · exact .manualGrant ‹_›
    · exact .nothing
  | drainEnd =>
    refine closesWork_of_answer h ?_
    split
    · exact .endDrain ‹_›
    · exact .nothing
  | stateWriteDiscarded target code =>
    refine closesWork_of_answer h ?_
    split
    · exact .nothing
    · exact .raises _

/-! ### The induction over a step -/

/-- What a millisecond, every work and every reset keep, and what neither the closing of a command nor the queue touches,
every step keeps. -/
theorem step_keeps {P : State → Prop} (hqueue : ∀ s l, P s → P (s.withPending l)) (htick : ∀ s, P s → P s.tick)
    (hwork : ∀ {s u}, Work s u → P s → P u) (hfinish : ∀ old u, P u → P (finish old u))
    (hreset : ∀ {s u}, ResetWork s u → P s → P (finishReset s u)) {s t : State} (h : step s = .next t) (hs : P s) :
    P t := by
  unfold step at h
  split at h
  · injection h with h
    exact h ▸ htick s hs
  · rename_i rest _
    have hs' := hqueue s rest hs
    rcases exec_closesWork h with ⟨u, hu, rfl⟩ | ⟨u, hu, rfl⟩
    · exact hfinish _ _ (hwork hu hs')
    · exact hreset hu hs'

end Sys2Proof
end

section
/-! SUPPORT. The stage: S within its ranges, the ranges within their bounds, and S and the drive enable under the emergency
line (R123, R124, R130, R139). -/

namespace Sys2Proof

open Sys2Proof.Machine

/-- What the statement keeps of the stage. -/
def StageHeld (s : State) : Prop := StageWithinRange s ∧ EmergencyHeld s

/-- The stage invariant speaks of four values only. -/
theorem StageHeld.congr {s t : State} (hs : StageHeld s) (h1 : t.trim.setPoint = s.trim.setPoint)
    (h2 : t.trim.range = s.trim.range) (h3 : t.trim.driveEnable = s.trim.driveEnable)
    (h4 : t.control.emergency = s.control.emergency) : StageHeld t := by
  unfold StageHeld StageWithinRange EmergencyHeld at *
  rwa [h1, h2, h3, h4]

theorem StageHeld.withCal {s : State} (hs : StageHeld s) (x : Calibration) : StageHeld (s.withCal x) :=
  hs.congr rfl rfl rfl rfl

theorem StageHeld.withControl {s : State} (hs : StageHeld s) {x : Control} (h : x.emergency = s.control.emergency) :
    StageHeld (s.withControl x) := hs.congr rfl rfl rfl h

theorem StageHeld.copyImage {s : State} (hs : StageHeld s) (v : Vector Word 32) : StageHeld (s.copyImage v) :=
  hs.congr (by simp) (by simp) (by simp) (by simp)

/-! ### Clamping and moving S -/

theorem clampRange_within {r : Int} (h : 0 ≤ r) (x : Int) : Within r (clampRange r x) := by
  unfold Within clampRange clampInt
  split
  · omega
  · split <;> omega

theorem clampInt_bounds {lo hi : Int} (h : lo ≤ hi) (x : Int) : lo ≤ clampInt lo hi x ∧ clampInt lo hi x ≤ hi := by
  unfold clampInt
  split
  · omega
  · split <;> omega

/-- The bounds of R124 on the ranges. -/
def RangeBounded (r : Pose) : Prop :=
  (1 ≤ r.x ∧ r.x ≤ 600) ∧ (1 ≤ r.y ∧ r.y ≤ 600) ∧ (1 ≤ r.z ∧ r.z ≤ 400) ∧ (1 ≤ r.yaw ∧ r.yaw ≤ 300)

/-- Each component of a set-point lies within ±R of its axis. -/
def PoseWithin (r p : Pose) : Prop := Within r.x p.x ∧ Within r.y p.y ∧ Within r.z p.z ∧ Within r.yaw p.yaw

theorem stageWithinRange_iff (s : State) :
    StageWithinRange s ↔ PoseWithin s.trim.range s.trim.setPoint ∧ RangeBounded s.trim.range := by
  simp [StageWithinRange, PoseWithin, RangeBounded, and_assoc]

theorem clampPose_within {r : Pose} (h : RangeBounded r) (p : Pose) : PoseWithin r (clampPose r p) := by
  obtain ⟨⟨hx, -⟩, ⟨hy, -⟩, ⟨hz, -⟩, hw, -⟩ := h
  exact ⟨clampRange_within (by omega) _, clampRange_within (by omega) _, clampRange_within (by omega) _,
    clampRange_within (by omega) _⟩

theorem zero_within {r : Pose} (h : RangeBounded r) : PoseWithin r .zero := by
  obtain ⟨⟨hx, -⟩, ⟨hy, -⟩, ⟨hz, -⟩, hw, -⟩ := h
  refine ⟨?_, ?_, ?_, ?_⟩ <;> simp only [Within, Pose.zero] <;> omega

theorem clampPose_zero {r : Pose} (h : RangeBounded r) : clampPose r .zero = .zero := by
  obtain ⟨⟨hx, -⟩, ⟨hy, -⟩, ⟨hz, -⟩, hw, -⟩ := h
  have hc : ∀ x : Int, 1 ≤ x → clampRange x 0 = 0 := by
    intro x h1
    unfold clampRange clampInt
    rw [if_neg (by omega), if_neg (by omega)]
  simp [clampPose, Pose.zero, hc _ hx, hc _ hy, hc _ hz, hc _ hw]

theorem calibrationRange_bounded (v : Vector Word 32) : RangeBounded (calibrationRange v) :=
  ⟨clampInt_bounds (by decide) _, clampInt_bounds (by decide) _, clampInt_bounds (by decide) _,
    clampInt_bounds (by decide) _⟩

theorem invalidRange_bounded : RangeBounded invalidRange := by
  simp [RangeBounded, invalidRange]

@[simp] theorem Trim.wantFrame_keeps (t : Trim) :
    t.wantFrame.setPoint = t.setPoint ∧ t.wantFrame.range = t.range ∧ t.wantFrame.driveEnable = t.driveEnable ∧
      t.wantFrame.offset = t.offset ∧ t.wantFrame.attempt = t.attempt ∧ t.wantFrame.settleCount = t.settleCount ∧
      t.wantFrame.tally = t.tally ∧ t.wantFrame.settleTimer = t.settleTimer ∧ t.wantFrame.saturated = t.saturated ∧
      t.wantFrame.reach = t.reach ∧ t.wantFrame.settleSample = t.settleSample := by
  unfold Trim.wantFrame
  split <;> simp [Trim.beginFrame]

@[simp] theorem Trim.moveSetPoint_setPoint (t : Trim) (sp : Pose) : (t.moveSetPoint sp).setPoint = sp := by
  unfold Trim.moveSetPoint
  split <;> simp [*]

@[simp] theorem Trim.moveSetPoint_keeps (t : Trim) (sp : Pose) :
    (t.moveSetPoint sp).range = t.range ∧ (t.moveSetPoint sp).driveEnable = t.driveEnable ∧
      (t.moveSetPoint sp).offset = t.offset ∧ (t.moveSetPoint sp).attempt = t.attempt ∧
      (t.moveSetPoint sp).settleCount = t.settleCount ∧ (t.moveSetPoint sp).tally = t.tally ∧
      (t.moveSetPoint sp).settleTimer = t.settleTimer ∧ (t.moveSetPoint sp).saturated = t.saturated ∧
      (t.moveSetPoint sp).reach = t.reach ∧ (t.moveSetPoint sp).settleSample = t.settleSample := by
  unfold Trim.moveSetPoint
  split <;> simp

/-! ### The operations that move S or its ranges -/

/-- A new set-point within the ranges, which is 0 under the emergency line, keeps the invariant. -/
theorem StageHeld.moveSetPoint {s : State} (hs : StageHeld s) {sp : Pose} (hw : PoseWithin s.trim.range sp)
    (h0 : s.control.emergency = true → sp = .zero) : StageHeld (s.withTrim (s.trim.moveSetPoint sp)) := by
  obtain ⟨hr, -, hd⟩ := hs
  have hb := ((stageWithinRange_iff s).1 hr).2
  exact ⟨(stageWithinRange_iff _).2 (by simp [hw, hb]), by simpa using h0, by simpa using hd⟩

theorem StageHeld.nextSetPoint_within {s : State} (hs : StageHeld s) (h : Pose) :
    PoseWithin s.trim.range (s.nextSetPoint h) ∧ (s.control.emergency = true → s.nextSetPoint h = .zero) := by
  obtain ⟨hw, hb⟩ := (stageWithinRange_iff s).1 hs.1
  unfold State.nextSetPoint
  split
  · exact ⟨hw, hs.2.1⟩
  · rename_i hheld
    refine ⟨clampPose_within hb _, fun he => ?_⟩
    simp [State.setPointHeld, he] at hheld

theorem StageHeld.usableSample {s : State} (hs : StageHeld s) (h : Pose) : StageHeld (s.usableSample h) := by
  obtain ⟨hw, h0⟩ := hs.nextSetPoint_within h
  have hmoved := hs.moveSetPoint hw h0
  unfold State.usableSample
  dsimp only
  split
  · exact hmoved
  · exact hmoved.congr (by simp) (by simp) (by simp) (by simp)

theorem StageHeld.takeSample {s : State} (hs : StageHeld s) (h : Pose) : StageHeld (s.takeSample h) := by
  have hleft : StageHeld s.leaveLost := hs.congr (by simp) (by simp) (by simp) (by simp)
  unfold State.takeSample
  extract_lets s1 smp c t s2 s3 s4
  have h2 : StageHeld s2 := hleft.congr (by simp [s2, s1]) (by simp [s2, s1]) (by simp [s2, s1]) (by simp [s2, s1])
  have h3 : StageHeld s3 := by
    simp only [s3]
    split
    · exact h2.congr (by simp) (by simp) (by simp) (by simp)
    · exact h2
  have h4 : StageHeld s4 := by
    simp only [s4]
    split
    · exact h3.congr rfl rfl rfl rfl
    · exact h3
  split
  · exact h4.congr rfl rfl rfl rfl
  · split
    · exact h4.usableSample h
    · exact h4

theorem StageHeld.takeFrame {s : State} (hs : StageHeld s) (bs : List Byte) : StageHeld (s.takeFrame bs) := by
  unfold State.takeFrame
  split
  · exact hs.congr (by simp) (by simp) (by simp) (by simp)
  · exact hs.congr (by simp) (by simp) (by simp) (by simp)
  · exact StageHeld.takeSample (hs.congr (by simp) (by simp) (by simp) (by simp)) _

theorem StageHeld.takeByte {s : State} (hs : StageHeld s) (b : Byte) : StageHeld (s.takeByte b) := by
  unfold State.takeByte
  split
  · split
    · exact hs.congr (by simp) (by simp) (by simp) (by simp)
    · exact hs
  · split
    · exact hs.takeFrame _
    · exact hs.congr (by simp) (by simp) (by simp) (by simp)

theorem StageHeld.takeBytes {s : State} (hs : StageHeld s) (bs : List Byte) : StageHeld (s.takeBytes bs) := by
  unfold State.takeBytes
  split
  · exact foldl_holds State.takeByte StageHeld (fun _ b h => h.takeByte b) bs s hs
  · exact hs

/-- Ranges within their bounds, taken with S clamped to them, keep the invariant (R124). -/
theorem StageHeld.takeCalibration {s : State} (hs : StageHeld s) (o : Pose) {r : Pose} (hr : RangeBounded r) :
    StageHeld (s.takeCalibration o r) := by
  obtain ⟨-, h0, hd⟩ := hs
  refine ⟨(stageWithinRange_iff _).2 ?_, fun he => ?_, ?_⟩
  · simpa [State.takeCalibration, hr] using clampPose_within hr _
  · have he' : s.control.emergency = true := by simpa using he
    simp [State.takeCalibration, h0 he', clampPose_zero hr]
  · simpa [State.takeCalibration] using hd

theorem StageHeld.handOver {s : State} (hs : StageHeld s) (v : Vector Word 32) : StageHeld (s.handOver v) := by
  unfold State.handOver
  split
  · exact hs.takeCalibration _ (calibrationRange_bounded v)
  · exact hs.takeCalibration _ invalidRange_bounded

theorem StageHeld.emergencyAssert {s : State} (hs : StageHeld s) :
    StageHeld ((s.withControl { s.control with emergency := true }).withTrim s.trim.stopDrive).requestHalt := by
  have hb := ((stageWithinRange_iff s).1 hs.1).2
  have h : StageHeld ((s.withControl { s.control with emergency := true }).withTrim s.trim.stopDrive) :=
    ⟨(stageWithinRange_iff _).2 (by simp [Trim.stopDrive, hb, zero_within]), by simp [Trim.stopDrive],
      by simp [Trim.stopDrive]⟩
  exact h.congr (by simp) (by simp) (by simp) (by simp)

theorem StageHeld.emergencyClear {s : State} (hs : StageHeld s) :
    StageHeld ((s.withControl { s.control with emergency := false }).withTrim
      ({ s.trim with driveEnable := true } : Trim).wantFrame) :=
  ⟨(stageWithinRange_iff _).2 (by simpa using (stageWithinRange_iff s).1 hs.1), by simp, by simp⟩

@[simp] theorem State.reopenActive_frame (s : State) :
    s.reopenActive.host = s.host ∧ s.reopenActive.status = s.status ∧ s.reopenActive.seq = s.seq ∧
      s.reopenActive.issue = s.issue ∧ s.reopenActive.train = s.train ∧ s.reopenActive.line = s.line ∧
      s.reopenActive.tracker = s.tracker ∧ s.reopenActive.trim = s.trim ∧ s.reopenActive.head = s.head ∧
      s.reopenActive.control = s.control ∧ s.reopenActive.cal = s.cal ∧ s.reopenActive.time = s.time ∧
      s.reopenActive.free = s.free ∧ s.reopenActive.pending = s.pending := by
  unfold State.reopenActive
  split <;> simp

/-- The part of a control reset that rewrites the book and latches the profile leaves every other block as it was. -/
@[simp] theorem resetSeq_frame (s : State) (during : List LatchWrite) :
    (s.resetBook.resetSeq during).host = s.host ∧ (s.resetBook.resetSeq during).status = s.status ∧
      (s.resetBook.resetSeq during).issue = s.issue ∧ (s.resetBook.resetSeq during).train = s.train ∧
      (s.resetBook.resetSeq during).line = s.line ∧ (s.resetBook.resetSeq during).tracker = s.tracker ∧
      (s.resetBook.resetSeq during).trim = s.trim ∧ (s.resetBook.resetSeq during).head = s.head ∧
      (s.resetBook.resetSeq during).control = s.control ∧ (s.resetBook.resetSeq during).cal = s.cal ∧
      (s.resetBook.resetSeq during).time = s.time ∧ (s.resetBook.resetSeq during).free = s.free ∧
      (s.resetBook.resetSeq during).pending = s.pending := by
  simp [State.resetSeq, State.latchProfile, State.resetBook]

/-- A control reset puts S at 0, keeps the ranges, and gives the drive enable by the line (R142). -/
theorem StageHeld.controlReset {s : State} (hs : RangeBounded s.trim.range) (inputs : InitInputs) :
    StageHeld (s.controlReset inputs) := by
  have hr : (s.controlReset inputs).trim.range = s.trim.range := by
    simp [State.controlReset, State.resetBlocks, Trim.reset, Trim.beginFrame]
  have h0 : (s.controlReset inputs).trim.setPoint = .zero := by
    simp [State.controlReset, State.resetBlocks, Trim.reset, Trim.beginFrame]
  have hd : (s.controlReset inputs).trim.driveEnable = !(s.controlReset inputs).control.emergency := by
    simp [State.controlReset, State.resetBlocks, Trim.reset, Trim.beginFrame, Control.reset]
  exact ⟨(stageWithinRange_iff _).2 (by rw [hr, h0]; exact ⟨zero_within hs, hs⟩), fun _ => h0, hd⟩

/-- A load hands the values of a store over, whatever store and image stand. -/
theorem StageHeld.load {s : State} (hs : StageHeld s) (x : Calibration) (v : Vector Word 32) {y : Control}
    (h : y.emergency = s.control.emergency) : StageHeld (((s.withCal x).handOver v).withControl y) :=
  ((hs.withCal x).handOver v).withControl (by simp [h])

theorem holdBoom_emergency (s : State) (moving : Bool) : (s.holdBoom moving).control.emergency = s.control.emergency := by
  unfold State.holdBoom
  split <;> rfl

/-! ### Every step -/

theorem StageHeld.completeCommit {s : State} (hs : StageHeld s) : StageHeld s.completeCommit := by
  have hcal := hs.withCal { s.cal with store := s.image, valid := true, busy := false }
  exact (hcal.takeCalibration (calibrationOffset s.image) (calibrationRange_bounded s.image)).congr
    (by simp [State.completeCommit]) (by simp [State.completeCommit]) (by simp [State.completeCommit])
    (by simp [State.completeCommit])

theorem StageHeld.work {s u : State} (hu : Work s u) (hs : StageHeld s) : StageHeld u := by
  cases hu with
  | emergencyAssert _ => exact hs.emergencyAssert
  | emergencyClear _ => exact hs.emergencyClear
  | takeBytes bs => exact hs.takeBytes bs
  | takeBytesGap bs => exact (hs.takeBytes bs).congr (by simp) (by simp) (by simp) (by simp)
  | completeCommit => exact hs.completeCommit
  | loadCalibration _ =>
    exact (hs.copyImage s.cal.store).load _ _ (by simp)
  | beginFrame _ => exact hs.congr rfl rfl rfl rfl
  | endFrame _ => exact hs.congr rfl rfl rfl rfl
  | boomWord v moving => exact hs.congr (by simp) (by simp) (by simp) (holdBoom_emergency _ _)
  | manualGrant _ =>
    have hwithdrawn : StageHeld (s.withControl { s.control with manualGrant := true }).withdrawTake :=
      hs.congr (by simp) (by simp) (by simp) (by simp)
    exact hwithdrawn.congr (by simp) (by simp) (by simp) (by simp)
  | _ => exact hs.congr (by simp) (by simp) (by simp) (by simp)

theorem StageHeld.reset {s u : State} (hu : ResetWork s u) (hs : StageHeld s) : StageHeld u := by
  cases hu with
  | power inputs e w => exact StageHeld.controlReset (by simp [RangeBounded, State.powerUp, State.reset]) inputs
  | control inputs => exact StageHeld.controlReset ((stageWithinRange_iff s).1 hs.1).2 inputs

theorem StageHeld.tick {s : State} (hs : StageHeld s) : StageHeld s.tick := hs.congr rfl rfl rfl rfl

/-- Settles O57: the invariant speaks of S, its ranges, the drive enable and the emergency line, so only samples, calibration
values, the emergency line and resets have to be looked at. -/
theorem stepsKeepTheStageWithinRange : Obligations.StepsKeepTheStageWithinRange := fun _ _ h hr he =>
  step_keeps (P := StageHeld) (fun _ _ hs => hs.congr rfl rfl rfl rfl) (fun _ hs => hs.tick) StageHeld.work
    (fun _ _ hu => hu.congr (by simp) (by simp) (by simp) (by simp))
    (fun hu hs => (StageHeld.reset hu hs).congr (by simp) (by simp) (by simp) (by simp)) h ⟨hr, he⟩

end Sys2Proof
end

section
/-! SUPPORT. Work in flight (R64, R65, R72, R163): what each operation does to the list, the pending feed, the carriers and
the contents at the head, as far as an entry could hold them; and that HALT holds none. -/

namespace Sys2Proof

open Sys2Proof.Machine

/-- No entry is in the list, on the train, in a feed or at the head. -/
def NoWork (s : State) : Prop := s.issue.list = [] ∧ CarriersVoid s ∧ FeedVoid s ∧ PlacesVoid s

/-- A change that brings no work in flight where there was none, and keeps the machine state, or enters HALT without work. -/
def KeepsRest (s t : State) : Prop :=
  (t.control.state = s.control.state ∧ (s.issue.list = [] → t.issue.list = []) ∧ (NoWork s → NoWork t)) ∨
    (t.control.state = .halt ∧ NoWork t)

/-- What the statement keeps of the work in flight. -/
def RestHeld (s : State) : Prop := ListEmptyAtRest s ∧ HaltHoldsNoWork s

theorem KeepsRest.held {s t : State} (h : KeepsRest s t) (hs : RestHeld s) : RestHeld t := by
  obtain ⟨hl, hh⟩ := hs
  rcases h with ⟨hc, hlist, hwork⟩ | ⟨hc, hwork⟩
  · refine ⟨fun h1 h2 => hlist (hl (hc ▸ h1) (hc ▸ h2)), fun h1 => hwork (hh (hc ▸ h1))⟩
  · exact ⟨fun _ _ => hwork.1, fun _ => hwork⟩

theorem KeepsRest.refl (s : State) : KeepsRest s s := .inl ⟨rfl, id, id⟩

theorem KeepsRest.trans {s t u : State} (h1 : KeepsRest s t) (h2 : KeepsRest t u) : KeepsRest s u := by
  rcases h2 with ⟨hc2, hl2, hw2⟩ | h2
  · rcases h1 with ⟨hc1, hl1, hw1⟩ | ⟨hc1, hw1⟩
    · exact .inl ⟨hc2.trans hc1, hl2 ∘ hl1, hw2 ∘ hw1⟩
    · exact .inr ⟨hc2.trans hc1, hw2 hw1⟩
  · exact .inr h2

/-- A change is judged block by block. -/
theorem KeepsRest.of_blocks {s t : State} (hc : t.control.state = s.control.state)
    (hl : s.issue.list = [] → t.issue.list = []) (hq : CarriersVoid s → CarriersVoid t) (hf : FeedVoid s → FeedVoid t)
    (hp : PlacesVoid s → PlacesVoid t) : KeepsRest s t :=
  .inl ⟨hc, hl, fun ⟨h1, h2, h3, h4⟩ => ⟨hl h1, hq h2, hf h3, hp h4⟩⟩

theorem CarriersVoid.congr {s t : State} (h : t.train.queue = s.train.queue) (hs : CarriersVoid s) : CarriersVoid t := by
  unfold CarriersVoid at *
  rwa [h]

theorem FeedVoid.congr {s t : State} (h : t.issue.feed = s.issue.feed) (hs : FeedVoid s) : FeedVoid t := by
  unfold FeedVoid at *
  rwa [h]

theorem PlacesVoid.congr {s t : State} (hb : t.head.bay.content = s.head.bay.content)
    (hg : t.head.gripper.content = s.head.gripper.content) (hs : PlacesVoid s) : PlacesVoid t := by
  unfold PlacesVoid at *
  rwa [hb, hg]

/-- An operation that leaves the machine state, the issue unit, the train and the contents at the head as they were. -/
theorem KeepsRest.of_eq {s t : State} (hc : t.control.state = s.control.state) (hi : t.issue = s.issue)
    (hq : t.train.queue = s.train.queue) (hb : t.head.bay.content = s.head.bay.content)
    (hg : t.head.gripper.content = s.head.gripper.content) : KeepsRest s t :=
  .of_blocks hc (fun h => by rw [hi, h]) (·.congr hq) (·.congr (by rw [hi])) (·.congr hb hg)

/-- An operation on the head alone is judged by the contents it leaves. -/
theorem KeepsRest.of_head {s t : State} (hc : t.control.state = s.control.state) (hi : t.issue = s.issue)
    (hq : t.train.queue = s.train.queue) (hp : PlacesVoid s → PlacesVoid t) : KeepsRest s t :=
  .of_blocks hc (fun h => by rw [hi, h]) (·.congr hq) (·.congr (by rw [hi])) hp

/-! ### Contents at the head -/

@[simp] theorem voided_ne_entry (c : Content) (i : EntryIx) : voided c ≠ .entry i := by cases c <;> simp [voided]

@[simp] theorem Machine.Bay.afterVoid_content (b : Bay) (g : Bool) : (b.afterVoid g).content = voided b.content := rfl

theorem Machine.Gripper.afterBayVoid_content (g : Gripper) (granted : Bool) :
    (g.afterBayVoid granted).content = g.content ∨ (g.afterBayVoid granted).content = voided g.content ∨
      (g.afterBayVoid granted).content = .none := by
  unfold Gripper.afterBayVoid
  split
  · split
    · exact .inr (.inl rfl)
    · exact .inr (.inr rfl)
  · exact .inl rfl

theorem Machine.Gripper.afterVoid_content (g : Gripper) (r p : Bool) :
    (g.afterVoid r p).content = voided g.content ∨ (g.afterVoid r p).content = .none := by
  unfold Gripper.afterVoid
  dsimp only
  split <;> (try split) <;> simp [Gripper.cleared]

/-- What voiding the bay leaves in the head (R163). -/
theorem Machine.State.voidBay_head (s : State) :
    s.voidBay.head = { s.head with
      bay := s.head.bay.afterVoid (s.headGranted .spread)
      gripper := s.head.gripper.afterBayVoid (s.headGranted .take) } := by
  unfold State.voidBay
  dsimp only
  split <;> split <;> simp

/-- What voiding the gripper leaves in the head (R163). -/
theorem Machine.State.voidGripper_head (s : State) :
    s.voidGripper.head = { s.head with
      restartTimer := none
      gripper := s.head.gripper.afterVoid (s.headGranted .release) (s.headGranted .probe) } := by
  unfold State.voidGripper
  dsimp only
  split <;> simp [State.endAttempt]

theorem PlacesVoid.voidBay {s : State} (hs : PlacesVoid s) : PlacesVoid s.voidBay := by
  intro i
  rw [State.voidBay_head]
  refine ⟨by simp, ?_⟩
  rcases s.head.gripper.afterBayVoid_content (s.headGranted .take) with h | h | h
  · simp [h, hs i]
  · simp [h]
  · simp [h]

theorem PlacesVoid.voidGripper {s : State} (hs : PlacesVoid s) : PlacesVoid s.voidGripper := by
  intro i
  rw [State.voidGripper_head]
  refine ⟨(hs i).1, ?_⟩
  rcases s.head.gripper.afterVoid_content (s.headGranted .release) (s.headGranted .probe) with h | h <;> simp [h]

theorem PlacesVoid.voidAtHead {s : State} (hs : PlacesVoid s) (i : EntryIx) : PlacesVoid (s.voidAtHead i) := by
  unfold State.voidAtHead
  split
  · exact hs.voidGripper
  · split
    · exact hs.voidBay
    · exact hs

/-- At entry to HALT no place at the head keeps an entry (R163, R173). -/
theorem Machine.State.voidPlaces_placesVoid (s : State) : PlacesVoid s.voidPlaces := by
  have hgrip : ∀ t : State, t = (if s.head.gripper.content.isEntry && decide (s.head.gripper.state ≠ .taking) then
      s.voidGripper else s) → ∀ i, t.head.gripper.content = .entry i → t.head.gripper.state = .taking := by
    rintro t rfl i hi
    split at hi
    · rw [State.voidGripper_head] at hi
      rcases s.head.gripper.afterVoid_content (s.headGranted .release) (s.headGranted .probe) with h | h <;>
        simp [h] at hi
    · rename_i hc
      rw [if_neg hc]
      simpa [hi, Content.isEntry] using hc
  unfold State.voidPlaces
  extract_lets s1
  have h1 := hgrip s1 rfl
  split
  · intro i
    rw [State.voidBay_head]
    refine ⟨by simp, ?_⟩
    unfold Gripper.afterBayVoid
    split
    · split <;> simp [Gripper.cleared]
    · exact fun h => ‹¬_› (h1 i h)
  · rename_i hc
    simp only [Bool.or_eq_true, Bool.and_eq_true, decide_eq_true_eq, not_or, not_and] at hc
    intro i
    exact ⟨fun h => hc.1 (by simp [h, Content.isEntry]), fun h => hc.2 (by simp [h, Content.isEntry]) (h1 i h)⟩

/-! ### The pending feed and the list -/

theorem Machine.State.clearFeed_feed (s : State) : s.clearFeed.issue.feed = none := by
  unfold State.clearFeed
  split
  · assumption
  · simp

theorem Machine.State.endFeed_feed (s : State) : s.endFeed.issue.feed = none := by
  unfold State.endFeed
  split
  · assumption
  · split
    · exact s.clearFeed_feed
    · simpa using s.clearFeed_feed

theorem feedVoid_of_none {s : State} (h : s.issue.feed = none) : FeedVoid s := by simp [FeedVoid, h]

theorem Machine.State.voidFeed_feedVoid (s : State) : FeedVoid s.voidFeed := by
  unfold State.voidFeed
  split
  · exact feedVoid_of_none ‹_›
  · rename_i f _
    split
    · exact feedVoid_of_none s.clearFeed_feed
    all_goals
      intro g hg
      have hg' : f.voided = g := by simpa using hg
      subst hg'
      unfold FeedPending.voided
      split <;> simp_all

theorem Machine.State.setLocation_list_nil (s : State) (i : EntryIx) (l : Location) (h : s.issue.list = []) :
    (s.setLocation i l).issue.list = [] := by simp [State.setLocation, h]

theorem Machine.State.endFeed_list_nil (s : State) (h : s.issue.list = []) : s.endFeed.issue.list = [] := by
  unfold State.endFeed
  split
  · exact h
  · split
    · simp [h]
    · exact State.setLocation_list_nil _ _ _ (by simp [h])

theorem keepsRest_clearFeed (s : State) : KeepsRest s s.clearFeed :=
  .of_blocks (by simp) (by simp) (·.congr (by simp)) (fun _ => feedVoid_of_none s.clearFeed_feed) (·.congr (by simp) (by simp))

theorem keepsRest_endFeed (s : State) : KeepsRest s s.endFeed :=
  .of_blocks (by simp) s.endFeed_list_nil (·.congr (by simp)) (fun _ => feedVoid_of_none s.endFeed_feed)
    (·.congr (by simp) (by simp))

theorem keepsRest_voidFeed (s : State) : KeepsRest s s.voidFeed :=
  .of_blocks (by simp) (by simp) (·.congr (by simp)) (fun _ => s.voidFeed_feedVoid) (·.congr (by simp) (by simp))

theorem keepsRest_setLocation (s : State) (i : EntryIx) (l : Location) : KeepsRest s (s.setLocation i l) :=
  .of_blocks (by simp) (s.setLocation_list_nil i l) (·.congr (by simp)) (·.congr (by simp [State.setLocation]))
    (·.congr (by simp) (by simp))

theorem keepsRest_removeRecord (s : State) (i : EntryIx) : KeepsRest s (s.removeRecord i) :=
  .of_blocks (by simp) (by simp +contextual [State.removeRecord]) (·.congr (by simp))
    (·.congr (by simp [State.removeRecord])) (·.congr (by simp) (by simp))

/-! ### Voiding bricks and displacing records -/

theorem Machine.Carrier.voided_content (c : Carrier) : c.voided.content = none := by
  unfold Carrier.voided
  split
  · rfl
  · assumption

theorem keepsRest_voidCarrier (s : State) (i : EntryIx) : KeepsRest s (s.voidCarrier i) := by
  refine .of_blocks (by simp) (by simp) (fun hq c hc => ?_) (·.congr (by simp)) (·.congr (by simp) (by simp))
  simp only [State.voidCarrier, State.withTrain_train, List.mem_map] at hc
  obtain ⟨d, hd, rfl⟩ := hc
  split
  · exact d.voided_content
  · exact hq d hd

theorem keepsRest_voidAtHead (s : State) (i : EntryIx) : KeepsRest s (s.voidAtHead i) :=
  .of_head (by simp) (by simp) (by simp) (·.voidAtHead i)

theorem keepsRest_voidBrick (s : State) (r : IssueRecord) : KeepsRest s (s.voidBrick r) := by
  unfold State.voidBrick
  split
  · exact .refl s
  · exact keepsRest_voidFeed s
  · exact keepsRest_voidCarrier s _
  all_goals exact keepsRest_voidAtHead s _

theorem keepsRest_displace (s : State) (r : IssueRecord) : KeepsRest s (s.displace r) := by
  refine ((keepsRest_removeRecord s r.entry).trans ?_).trans (keepsRest_voidBrick _ r)
  exact .of_eq (by simp) (by simp) (by simp) (by simp) (by simp)

theorem keepsRest_foldl {α : Type} {f : State → α → State} (h : ∀ s x, KeepsRest s (f s x)) :
    ∀ (l : List α) (s : State), KeepsRest s (l.foldl f s)
  | [], s => .refl s
  | x :: l, s => (h s x).trans (keepsRest_foldl h l (f s x))

theorem keepsRest_displaceAll (s : State) (l : List IssueRecord) : KeepsRest s (s.displaceAll l) :=
  KeepsRest.trans (t := l.foldl State.displace s) (keepsRest_foldl keepsRest_displace l s)
    (.of_eq (by simp [State.displaceAll]) (by simp [State.displaceAll]) (by simp [State.displaceAll])
      (by simp [State.displaceAll]) (by simp [State.displaceAll]))

/-! ### Failed attempts -/

theorem keepsRest_retry (s : State) (i : EntryIx) : KeepsRest s (s.retry i) := by
  have h1 : KeepsRest s ((s.removeRecord i).returnToPosted i) :=
    (keepsRest_removeRecord s i).trans (.of_eq (by simp) (by simp) (by simp) (by simp) (by simp))
  unfold State.retry
  dsimp only
  split
  · exact h1.trans (keepsRest_displaceAll _ _)
  · exact h1

theorem keepsRest_failFinally (s : State) (i : EntryIx) (r : Reason) : KeepsRest s (s.failFinally i r) :=
  (keepsRest_removeRecord s i).trans
    (.of_eq (by simp [State.failFinally]) (by simp [State.failFinally]) (by simp [State.failFinally])
      (by simp [State.failFinally]) (by simp [State.failFinally]))

theorem keepsRest_attemptFailure (s : State) (i : EntryIx) (r : Reason) : KeepsRest s (s.attemptFailure i r) := by
  unfold State.attemptFailure
  dsimp only
  split
  · exact .refl s
  · rename_i rec _
    refine KeepsRest.trans (t := s.setAttempt i (rec.attemptsUsed + 1) r) (.of_eq (by simp) (by simp) (by simp) (by simp) (by simp)) ?_
    split
    · exact keepsRest_retry _ i
    · exact keepsRest_failFinally _ i r

theorem keepsRest_failAttempt (s : State) (i : EntryIx) (r : Reason) : KeepsRest s (s.failAttempt i r) :=
  (keepsRest_voidAtHead s i).trans (keepsRest_attemptFailure _ i r)

theorem keepsRest_failContent (s : State) (c : Content) : KeepsRest s (s.failContent c) := by
  unfold State.failContent
  split
  · exact keepsRest_attemptFailure s _ _
  · exact .refl s

/-! ### HALT -/

/-- The list of a state after the records of `l` have been displaced. -/
theorem foldl_displace_list (l : List IssueRecord) (s : State) :
    (l.foldl State.displace s).issue.list = s.issue.list.filter fun x => ∀ r ∈ l, x.entry ≠ r.entry := by
  induction l generalizing s with
  | nil => simp
  | cons r l ih =>
    rw [List.foldl_cons, ih]
    have hd : (s.displace r).issue.list = s.issue.list.filter fun x => x.entry ≠ r.entry := by
      simp [State.displace, State.removeRecord]
    rw [hd, List.filter_filter]
    simp [Bool.and_comm]

theorem Machine.State.emptyList_list (s : State) : s.emptyList.issue.list = [] := by
  unfold State.emptyList
  rw [foldl_displace_list, List.filter_eq_nil_iff]
  intro x hx
  simpa using ⟨x, hx, rfl⟩

theorem Machine.State.enterHalt_noWork (s : State) : s.enterHalt.control.state = .halt ∧ NoWork s.enterHalt := by
  have hlist : s.enterHalt.issue.list = [] := by
    simpa [State.enterHalt] using
      State.emptyList_list ((s.withControl { s.control with state := .halt, haltHeld := false }).raise .halted)
  have hfeed : FeedVoid s.enterHalt :=
    (State.voidFeed_feedVoid
      ((s.withControl { s.control with state := .halt, haltHeld := false }).raise .halted).emptyList).congr
      (by simp [State.enterHalt])
  have hplaces : PlacesVoid s.enterHalt :=
    (State.voidPlaces_placesVoid
      (((s.withControl { s.control with state := .halt, haltHeld := false }).raise .halted).emptyList.voidFeed)).congr
      (by simp [State.enterHalt]) (by simp [State.enterHalt])
  refine ⟨by simp [State.enterHalt], hlist, fun c hc => ?_, hfeed, hplaces⟩
  simp only [State.enterHalt, State.voidTrain, State.showTrain_frame, State.withTrain_train, List.mem_map] at hc
  obtain ⟨d, -, rfl⟩ := hc
  exact d.voided_content

theorem keepsRest_enterHalt (s : State) : KeepsRest s s.enterHalt := .inr s.enterHalt_noWork

theorem keepsRest_requestHalt (s : State) : KeepsRest s s.requestHalt := by
  unfold State.requestHalt
  split
  · exact .of_eq (by simp [*]) rfl rfl rfl rfl
  · exact .refl s
  all_goals exact keepsRest_enterHalt s

theorem keepsRest_trainFault (s : State) : KeepsRest s s.trainFault :=
  KeepsRest.trans (t := s.raise .trainFault) (.of_eq rfl rfl rfl rfl rfl) (keepsRest_requestHalt _)

/-! ### Loss of tracking and samples -/

theorem keepsRest_recoverLoss (s : State) : KeepsRest s s.recoverLoss := by
  unfold State.recoverLoss
  split
  · exact .refl s
  · split
    · exact .refl s
    · exact keepsRest_failAttempt s _ _
    · split
      · exact keepsRest_failAttempt s _ _
      · exact .of_eq rfl rfl rfl rfl rfl

theorem keepsRest_recoverIfLost (s : State) : KeepsRest s s.recoverIfLost := by
  unfold State.recoverIfLost
  split
  · exact keepsRest_recoverLoss s
  · exact .refl s

theorem keepsRest_enterLost (s : State) : KeepsRest s s.enterLost := by
  refine KeepsRest.trans ?_ (keepsRest_recoverLoss _)
  exact .of_eq (by simp) (by simp) (by simp) (by simp) (by simp)

theorem keepsRest_expireLossIfDue (s : State) : KeepsRest s s.expireLossIfDue := by
  unfold State.expireLossIfDue
  split
  · split
    · exact keepsRest_enterLost s
    · exact .refl s
  · exact .refl s

@[simp] theorem takeDecision_contents (s : State) (a : Attempt) (b : Bool) (g e : Pose) :
    (s.takeDecision a b g e).head.bay = s.head.bay ∧
      (s.takeDecision a b g e).head.gripper.content = s.head.gripper.content := by
  unfold State.takeDecision
  split
  · split
    · split
      · unfold State.waitConfirm
        split <;> simp
      · simp [State.decideRelease]
    · simp [State.decideProbe]
  · simp

@[simp] theorem testSaturation_head (s : State) (a : Attempt) (e : Pose) : (s.testSaturation a e).head = s.head := by
  unfold State.testSaturation
  split
  · dsimp only
    split <;> simp
  · simp

theorem keepsRest_usableSample (s : State) (h : Pose) : KeepsRest s (s.usableSample h) := by
  have hhead : (s.usableSample h).head.bay.content = s.head.bay.content ∧
      (s.usableSample h).head.gripper.content = s.head.gripper.content := by
    unfold State.usableSample
    dsimp only
    split
    · exact ⟨rfl, rfl⟩
    · simp [State.workAttempt]
  exact .of_eq (by simp) (by simp) (by simp) hhead.1 hhead.2

@[simp] theorem leaveLost_contents (s : State) :
    s.leaveLost.head.bay = s.head.bay ∧ s.leaveLost.head.gripper = s.head.gripper := by
  unfold State.leaveLost
  split <;> simp

theorem keepsRest_takeSample (s : State) (h : Pose) : KeepsRest s (s.takeSample h) := by
  unfold State.takeSample
  extract_lets s1 smp c t s2 s3 s4
  have h2 : KeepsRest s s2 := .of_eq (by simp [s2, s1]) (by simp [s2, s1]) (by simp [s2, s1]) (by simp [s2, s1])
    (by simp [s2, s1])
  have h3 : KeepsRest s s3 := by
    simp only [s3]
    split
    · exact h2.trans (.of_eq rfl rfl rfl rfl rfl)
    · exact h2
  have h4 : KeepsRest s s4 := by
    simp only [s4]
    split
    · exact h3.trans (.of_eq rfl rfl rfl rfl rfl)
    · exact h3
  split
  · exact h4.trans (.of_eq rfl rfl rfl rfl rfl)
  · split
    · exact h4.trans (keepsRest_usableSample s4 h)
    · exact h4

theorem keepsRest_takeFrame (s : State) (bs : List Byte) : KeepsRest s (s.takeFrame bs) := by
  unfold State.takeFrame
  split
  · exact .of_eq (by simp) (by simp) (by simp) (by simp) (by simp)
  · exact .of_eq (by simp) (by simp) (by simp) (by simp) (by simp)
  · exact KeepsRest.trans (.of_eq rfl rfl rfl rfl rfl) (keepsRest_takeSample _ _)

theorem keepsRest_takeByte (s : State) (b : Byte) : KeepsRest s (s.takeByte b) := by
  unfold State.takeByte
  split
  · split
    · exact .of_eq rfl rfl rfl rfl rfl
    · exact .refl s
  · split
    · exact keepsRest_takeFrame s _
    · exact .of_eq rfl rfl rfl rfl rfl

theorem keepsRest_takeBytes (s : State) (bs : List Byte) : KeepsRest s (s.takeBytes bs) := by
  unfold State.takeBytes
  split
  · exact keepsRest_foldl keepsRest_takeByte bs s
  · exact .refl s

/-! ### Head operations -/

theorem keepsRest_spreadDone (s : State) : KeepsRest s s.spreadDone := by
  unfold State.spreadDone
  dsimp only
  split <;> exact .of_eq (by simp) (by simp) (by simp) (by simp) (by simp)

theorem keepsRest_stampTransit (s : State) (t : Option Word) : KeepsRest s (s.stampTransit t) := by
  unfold State.stampTransit
  split
  · exact .refl s
  · exact .of_eq rfl rfl rfl rfl rfl

theorem keepsRest_showHead (s : State) : KeepsRest s s.showHead :=
  .of_eq (by simp) (by simp) (by simp) (by simp) (by simp)

theorem keepsRest_handOverAttempt (s : State) (i : EntryIx) (z : Int) : KeepsRest s (s.handOverAttempt i z) := by
  unfold State.handOverAttempt
  split
  · exact .refl s
  · exact .of_eq (by simp) (by simp) (by simp) (by simp) (by simp)

/-- The gripper takes a content that it held as TAKING already. -/
theorem keepsRest_moveToGripper (s : State) {c : Content} (h : s.head.gripper.content = c) :
    KeepsRest s (s.moveToGripper c) :=
  .of_head rfl rfl rfl fun hp i => ⟨by simp [State.moveToGripper, Bay.cleared], by simpa [State.moveToGripper, ← h] using (hp i).2⟩

theorem keepsRest_takeDone (s : State) : KeepsRest s s.takeDone := by
  unfold State.takeDone
  dsimp only
  split
  · rename_i i hi
    refine (keepsRest_moveToGripper s hi).trans ?_
    refine KeepsRest.trans (t := ((s.moveToGripper (.entry i)).setApplied i s.activeZc).moveEntry i .head .placing)
      (.of_eq (by simp) (by simp) (by simp) (by simp) (by simp)) ?_
    refine (((keepsRest_setLocation _ i .gripper).trans (keepsRest_handOverAttempt _ i s.activeZc)).trans
      (keepsRest_stampTransit _ s.head.bay.rootTime)).trans ?_
    exact (keepsRest_showHead _).trans (keepsRest_recoverIfLost _)
  · exact ((keepsRest_moveToGripper s rfl).trans (keepsRest_stampTransit _ s.head.bay.rootTime)).trans
      (keepsRest_showHead _)

theorem keepsRest_putGripper (s : State) {h : Head} (hb : h.bay.content = s.head.bay.content)
    (hg : ∀ i, h.gripper.content = .entry i → s.head.gripper.content = .entry i) : KeepsRest s (s.putHead h) :=
  .of_head (by simp) (by simp) (by simp) fun hp i => ⟨by simpa [hb] using (hp i).1, fun hi => (hp i).2 (hg i hi)⟩

/-- An operation on the head that clears a place keeps the other. -/
theorem keepsRest_clearGripper (s : State) : KeepsRest s s.clearGripper :=
  .of_head (by simp) (by simp) (by simp) fun hp i => by
    simpa [State.clearGripper, State.endAttempt, Gripper.cleared] using (hp i).1

theorem keepsRest_releaseDone (s : State) : KeepsRest s s.releaseDone := by
  unfold State.releaseDone
  dsimp only
  split
  · rename_i i _
    refine KeepsRest.trans (t := (((s.setDeviation i s.head.gripper.deviation).setSamples i
      s.head.gripper.tally).clearProbeFields i).finishEntry i .laid .done)
      (.of_eq (by simp) (by simp) (by simp) (by simp) (by simp)) ?_
    refine ((keepsRest_removeRecord _ i).trans ?_).trans (keepsRest_clearGripper _)
    exact .of_eq (by simp) (by simp) (by simp) (by simp) (by simp)
  all_goals exact keepsRest_putGripper s rfl (by simp [Gripper.cleared])

theorem keepsRest_probeDone (s : State) (n : Nat) : KeepsRest s (s.probeDone n) := by
  unfold State.probeDone
  dsimp only
  split
  · rename_i i a smp _ _ _
    refine KeepsRest.trans (t := ((((s.setProbe i (measuredTop smp n) a.target.z).setSamples i
      s.head.gripper.tally).clearDeviation i).setApplied i 0).finishEntry i .probed .done)
      (.of_eq (by simp) (by simp) (by simp) (by simp) (by simp)) ?_
    refine ((keepsRest_removeRecord _ i).trans ?_).trans (keepsRest_clearGripper _)
    exact .of_eq (by simp) (by simp) (by simp) (by simp) (by simp)
  · exact keepsRest_clearGripper s

@[simp] theorem countEject_contents (s : State) :
    s.countEject.head.bay = s.head.bay ∧ s.countEject.head.gripper = s.head.gripper := by
  unfold State.countEject
  dsimp only
  split <;> simp

theorem keepsRest_ejectDone (s : State) (p : HeadPlace) : KeepsRest s (s.ejectDone p) := by
  refine KeepsRest.trans (t := s.countEject) (.of_eq (by simp) (by simp) (by simp) (by simp) (by simp)) ?_
  unfold State.ejectDone
  dsimp only
  split
  · exact .of_head (by simp) (by simp) (by simp) fun hp i => ⟨by simp [Bay.cleared], by simpa using (hp i).2⟩
  · exact keepsRest_putGripper _ rfl (by simp [Gripper.cleared])

theorem keepsRest_operationDone (s : State) (c : StationCommand) (n : Nat) : KeepsRest s (s.operationDone c n) := by
  cases c with
  | spread => exact keepsRest_spreadDone s
  | take => exact keepsRest_takeDone s
  | release => exact keepsRest_releaseDone s
  | probe => exact keepsRest_probeDone s n
  | eject p => exact keepsRest_ejectDone s p
  | query => exact .refl s
  | feed _ => exact .refl s

theorem keepsRest_operationFailed (s : State) (c : StationCommand) : KeepsRest s (s.operationFailed c) := by
  unfold State.operationFailed
  dsimp only
  split
  · refine KeepsRest.trans ?_ (keepsRest_failContent _ _)
    exact .of_head (by simp) (by simp) (by simp) fun hp i => ⟨by simp, by simpa using (hp i).2⟩
  · refine KeepsRest.trans ?_ (keepsRest_failContent _ _)
    exact .of_head (by simp) (by simp) (by simp) fun _ i => ⟨by simp, by simp [Gripper.cleared]⟩
  · refine KeepsRest.trans ?_ (keepsRest_failContent _ _)
    exact .of_head (by simp) (by simp) (by simp) fun hp i =>
      ⟨by simpa [State.endAttempt] using (hp i).1, by simp⟩
  · exact (keepsRest_clearGripper s).trans (keepsRest_failContent _ _)
  · exact .of_eq (by simp) (by simp) (by simp) (by simp) (by simp)
  · exact .of_eq (by simp) (by simp) (by simp) (by simp) (by simp)
  all_goals exact .refl s

theorem keepsRest_headStationFault (s : State) (c : Option StationCommand) : KeepsRest s (s.headStationFault c) := by
  unfold State.headStationFault
  dsimp only
  refine KeepsRest.trans ?_ (keepsRest_requestHalt _)
  split
  · exact (keepsRest_operationFailed s _).trans (.of_eq rfl rfl rfl rfl rfl)
  · exact .of_eq rfl rfl rfl rfl rfl

theorem keepsRest_spreaderRequest (s : State) : KeepsRest s s.spreaderRequest := by
  unfold State.spreaderRequest
  split
  · exact .of_eq (by simp) (by simp) (by simp) (by simp) (by simp)
  · exact .refl s

theorem keepsRest_gripperRequest (s : State) : KeepsRest s s.gripperRequest := by
  unfold State.gripperRequest
  split
  · split
    · exact .refl s
    · exact .of_head (by simp) (by simp) (by simp) fun hp i => ⟨by simpa using (hp i).1, by simpa using (hp i).1⟩
    · exact .of_eq (by simp) (by simp) (by simp) (by simp) (by simp)
  · exact .refl s

/-- A probe is taken up from the list, which is not empty then (R152). -/
theorem keepsRest_takeUpProbe (s : State) : KeepsRest s s.takeUpProbe := by
  by_cases hl : s.issue.list = []
  · have hn : s.takeUpProbe = s := by simp [State.takeUpProbe, State.nextRecord, hl]
    rw [hn]
    exact .refl s
  · exact .inl ⟨by simp, fun h => absurd h hl, fun h => absurd h.1 hl⟩

/-! ### The station line -/

theorem keepsRest_withdrawIfNotReady (s : State) (p : Position) : KeepsRest s (s.withdrawIfNotReady p) := by
  unfold State.withdrawIfNotReady
  split
  · exact .refl s
  · split
    · exact keepsRest_endFeed s
    · exact .refl s

theorem keepsRest_changeStation (s : State) (p : Position) (x : Station) : KeepsRest s (s.changeStation p x) :=
  KeepsRest.trans (t := s.setStation p x) (.of_eq (by simp) (by simp) (by simp) (by simp) (by simp))
    (keepsRest_withdrawIfNotReady _ p)

theorem keepsRest_schedulePoll (s : State) (p : Position) (b : Bool) : KeepsRest s (s.schedulePoll p b) :=
  .of_eq (by simp) (by simp) (by simp) (by simp) (by simp)

theorem keepsRest_endSentFeed (s : State) (p : Position) : KeepsRest s (s.endSentFeed p) := by
  unfold State.endSentFeed
  split
  · exact .refl s
  · split
    · exact keepsRest_endFeed s
    · exact .refl s

/-- A feed that changes its phase away from REQUESTED keeps its entry. -/
theorem keepsRest_putFeed (s : State) {f g : FeedPending} (hs : s.issue.feed = some f) (he : g.entry = f.entry)
    (hp : g.phase ≠ .requested ∨ f.phase = .requested ∨ f.entry ≠ none) :
    KeepsRest s (s.withIssue { s.issue with feed := some g }) := by
  refine .of_blocks rfl id id (fun hf h hh => ?_) id
  obtain ⟨h1, h2⟩ := hf f hs
  have hgh : g = h := by simpa using hh
  subst hgh
  refine ⟨he.trans h1, ?_⟩
  rcases hp with hp | hp | hp
  · exact hp
  · exact absurd hp h2
  · exact absurd h1 hp

theorem keepsRest_clearedFeed (s : State) : KeepsRest s (s.withIssue { s.issue with feed := none }) :=
  .of_blocks rfl id id (fun _ => feedVoid_of_none rfl) id

theorem keepsRest_setStation (s : State) (p : Position) (x : Station) : KeepsRest s (s.setStation p x) :=
  .of_eq (by simp) (by simp) (by simp) (by simp) (by simp)

theorem keepsRest_acceptFeed (s : State) (p : Position) : KeepsRest s (s.acceptFeed p) := by
  unfold State.acceptFeed
  split
  · exact .refl s
  · rename_i f hf
    split
    · exact keepsRest_putFeed s hf rfl (.inl (by simp))
    · exact .refl s

theorem keepsRest_commandAccepted (s : State) (p : Position) (c : StationCommand) :
    KeepsRest s (s.commandAccepted p c) :=
  ((keepsRest_acceptFeed s p).trans (keepsRest_changeStation _ p _)).trans (keepsRest_schedulePoll _ p _)

theorem keepsRest_busyFeed (s : State) (p : Position) (c : StationCommand) : KeepsRest s (s.busyFeed p c) := by
  unfold State.busyFeed
  split
  · exact .refl s
  · rename_i f hf
    split
    · split
      · exact keepsRest_clearedFeed s
      · rename_i he
        exact (keepsRest_putFeed (g := { f with phase := .requested }) s hf rfl (.inr (.inr (by simp [he])))).trans
          (keepsRest_setStation _ p _)
    · exact .refl s

theorem keepsRest_commandBusy (s : State) (p : Position) (c : StationCommand) : KeepsRest s (s.commandBusy p c) := by
  unfold State.commandBusy
  extract_lets x s1 y s2
  have h1 : KeepsRest s s1 := keepsRest_setStation s p _
  have h2 : KeepsRest s s2 := by
    simp only [s2]
    split
    · exact h1.trans (keepsRest_busyFeed s1 p _)
    · exact h1.trans (keepsRest_setStation s1 p _)
  exact h2.trans ((keepsRest_withdrawIfNotReady s2 p).trans (keepsRest_schedulePoll _ p true))

theorem keepsRest_commandError (s : State) (p : Position) (c : StationCommand) (e : Half) :
    KeepsRest s (s.commandError p c e) := by
  unfold State.commandError
  dsimp only
  generalize hy : ({ (s.endSentFeed p).line.at p with
    state := .faulted, operation := .none, lastError := e, retry := false, hold := none } : Station) = y
  have h1 : KeepsRest s (((s.endSentFeed p).changeStation p y).schedulePoll p false) :=
    ((keepsRest_endSentFeed s p).trans (keepsRest_changeStation _ p y)).trans (keepsRest_schedulePoll _ p false)
  split
  · exact h1
  · split
    · exact h1.trans (keepsRest_operationFailed _ c)
    · exact h1.trans (keepsRest_headStationFault _ _)

theorem keepsRest_replaceHead (s : State) (c : StationCommand) : KeepsRest s (s.replaceHead c) := by
  unfold State.replaceHead
  split
  · exact .of_eq (by simp) (by simp) (by simp) (by simp) (by simp)
  · split
    · exact keepsRest_putGripper s rfl (by simp [Gripper.cleared])
    · exact .of_eq (by simp) (by simp) (by simp) (by simp) (by simp)

theorem keepsRest_replaceDeferred (s : State) (p : Position) : KeepsRest s (s.replaceDeferred p) := by
  unfold State.replaceDeferred
  dsimp only
  split
  · exact .refl s
  · split
    · generalize hy : ({ s.line.at p with deferred := none } : Station) = y
      split
      · exact keepsRest_setStation s p y
      · exact (keepsRest_setStation s p y).trans (keepsRest_replaceHead _ _)
    · exact .refl s

theorem keepsRest_reportSettled (s : State) (p : Position) (r : Settlement) (n : Nat) (b : Bool) :
    KeepsRest s (s.reportSettled p r n b) := by
  unfold State.reportSettled
  split
  · exact .refl s
  · extract_lets s1 failed
    have h1 : KeepsRest s s1 := by
      simp only [s1]
      split
      · exact keepsRest_operationDone s _ n
      · exact .refl s
    clear_value s1 failed
    split
    · exact h1.trans (keepsRest_headStationFault s1 _)
    · cases failed with
      | some c => exact h1.trans (keepsRest_operationFailed s1 c)
      | none => exact h1

theorem keepsRest_queryStatus (s : State) (p : Position) (d : QueryData) : KeepsRest s (s.queryStatus p d) :=
  (((keepsRest_changeStation s p _).trans (keepsRest_reportSettled _ p _ _ _)).trans (keepsRest_replaceDeferred _ p)).trans
    (keepsRest_schedulePoll _ p _)

theorem keepsRest_queryError (s : State) (p : Position) (e : Half) : KeepsRest s (s.queryError p e) := by
  unfold State.queryError
  extract_lets x s1 s2
  have h1 : KeepsRest s s1 := keepsRest_changeStation s p _
  refine KeepsRest.trans (t := s2) ?_ (keepsRest_schedulePoll _ p _)
  simp only [s2]
  split
  · exact h1
  · split
    · split
      · exact h1.trans (keepsRest_operationFailed _ _)
      · exact h1
    · exact h1.trans (keepsRest_headStationFault _ _)

theorem keepsRest_freeLine (s : State) : KeepsRest s s.freeLine := .of_eq rfl rfl rfl rfl rfl

theorem keepsRest_goodReply (s : State) (t : Transaction) (r : Reply) : KeepsRest s (s.goodReply t r) := by
  refine (keepsRest_freeLine s).trans ?_
  unfold State.goodReply
  dsimp only
  split
  · exact keepsRest_commandAccepted _ _ _
  · exact keepsRest_commandBusy _ _ _
  · split
    · exact keepsRest_queryError _ _ _
    · exact keepsRest_commandError _ _ _ _
  · exact keepsRest_queryStatus _ _ _

theorem keepsRest_secondFailure (s : State) (t : Transaction) : KeepsRest s (s.secondFailure t) := by
  unfold State.secondFailure
  extract_lets x s0 s1 failed
  have h1 : KeepsRest s s1 :=
    (((keepsRest_freeLine s).trans (keepsRest_endSentFeed _ t.position)).trans
      (keepsRest_changeStation s0 t.position (unresponsiveStation (s0.line.at t.position)))).trans
      (keepsRest_schedulePoll _ t.position false)
  clear_value s1 failed
  have h2 : KeepsRest s (s1.raise .stationFault) := h1.trans (.of_eq rfl rfl rfl rfl rfl)
  split
  · cases failed with
    | some c => exact h1.trans (keepsRest_operationFailed s1 c)
    | none => exact h1
  · split
    · exact h2
    · exact h2.trans (keepsRest_headStationFault _ _)

theorem keepsRest_failTransaction (s : State) (t : Transaction) : KeepsRest s (s.failTransaction t) := by
  unfold State.failTransaction
  split
  · exact keepsRest_secondFailure s t
  · exact .of_eq (by simp) (by simp) (by simp) (by simp) (by simp)

theorem keepsRest_receiveReply (s : State) (bs : List Byte) : KeepsRest s (s.receiveReply bs) := by
  unfold State.receiveReply
  split
  · exact .refl s
  · split
    · exact .refl s
    · split
      · exact .refl s
      · exact keepsRest_failTransaction s _
      · exact keepsRest_goodReply s _ _

theorem keepsRest_grantLine (s : State) : KeepsRest s s.grantLine := by
  unfold State.grantLine
  split
  · exact .refl s
  · split
    · rename_i c _ _
      refine .of_head (by simp) (by simp) (by simp) fun hp => ?_
      have hcontents : (s.grantHead c).head.bay.content = s.head.bay.content ∧
          (s.grantHead c).head.gripper.content = s.head.gripper.content := by
        unfold State.grantHead State.markEjecting Bay.markEjecting
        split
        · simp only [State.sendFrame_frame, State.putHead_head, State.withdrawHead_frame]
          split <;> simp
        · simp
        · simp
      exact hp.congr hcontents.1 hcontents.2
    · rename_i f _ _ hf
      have hs : s.issue.feed = some f := by
        unfold State.grantableFeed at hf
        split at hf
        · cases hf
        · split at hf
          · cases hf
            assumption
          · cases hf
      exact (keepsRest_putFeed (g := { f with phase := .sent }) s hs rfl (.inl (by simp))).trans
        (.of_eq (by simp [State.grantFeed]) (by simp [State.grantFeed]) (by simp [State.grantFeed])
          (by simp [State.grantFeed]) (by simp [State.grantFeed]))
    · split
      · exact .of_eq (by simp) (by simp) (by simp) (by simp) (by simp)
      · exact .refl s

/-! ### The train -/

theorem keepsRest_appendCarrier (s : State) (former : Option EntryIx) : KeepsRest s (s.appendCarrier none former) := by
  refine .of_blocks (by simp) (by simp) (fun hq c hc => ?_) (·.congr (by simp)) (·.congr (by simp) (by simp))
  simp only [State.appendCarrier, State.showTrain_frame, State.withTrain_train, List.mem_append, List.mem_singleton] at hc
  rcases hc with hc | rfl
  · exact hq c hc
  · rfl

/-- A brick that matches the pending feed becomes a carrier of work only if the feed was of an entry. -/
theorem keepsRest_matchBrick (s : State) {f : FeedPending} (hf : s.issue.feed = some f) : KeepsRest s (s.matchBrick f) := by
  unfold State.matchBrick
  split
  · rename_i i hi
    refine .inl ⟨by simp, fun hl => ?_, fun hw => ?_⟩
    · simpa using State.setLocation_list_nil _ i .train (by simpa using hl)
    · exact absurd (hw.2.2.1 f hf).1 (by simp [hi])
  · exact (keepsRest_appendCarrier s _).trans (keepsRest_clearFeed _)

theorem keepsRest_popFront (s : State) {c : Carrier} {rest : List Carrier} (hq : s.train.queue = c :: rest) :
    KeepsRest s (s.popFront c rest) := by
  have hqueue : (s.popFront c rest).train.queue = rest := by
    unfold State.popFront
    dsimp only
    split <;> simp
  refine .inl ⟨by simp, fun hl => ?_, fun ⟨hl, hc, hf, hp⟩ => ?_⟩
  · unfold State.popFront
    dsimp only
    split
    · exact State.setLocation_list_nil _ _ _ (by simpa using hl)
    · simpa using hl
  · have hvoid : c.content = none := hc c (by simp [hq])
    have hpop : s.popFront c rest = ((s.withTrain { s.train with queue := rest, limitReached := false }).showTrain).arriveBay
        (.void c.former) (some c.rootTime) := by
      unfold State.popFront
      simp [hvoid]
    refine ⟨by simpa [hpop] using hl, fun d hd => hc d (by rw [hqueue] at hd; simp [hq, hd]), hf.congr (by simp [hpop]), ?_⟩
    intro i
    exact ⟨by simp [hpop, State.arriveBay], by simpa [hpop, State.arriveBay] using (hp i).2⟩

theorem keepsRest_arriveBay_void (s : State) (former : Option EntryIx) (root : Option Word) :
    KeepsRest s (s.arriveBay (.void former) root) :=
  .of_head (by simp) (by simp) (by simp) fun hp i =>
    ⟨by simp [State.arriveBay], by simpa [State.arriveBay] using (hp i).2⟩

/-! ### Every step -/

/-- A pending TAKE is withdrawn (R180). -/
theorem keepsRest_withdrawTake (s : State) : KeepsRest s s.withdrawTake := by
  unfold State.withdrawTake
  split
  · exact .of_head (by simp) (by simp) (by simp) fun hp i => ⟨by simpa using (hp i).1, by simp [Gripper.cleared]⟩
  · exact .refl s

/-- A change that leads into IDLE keeps the invariant when the list is empty. -/
theorem restHeld_enterIdle {s : State} (h : s.issue.list = []) : RestHeld (s.enterState .idle) :=
  ⟨fun _ _ => h, fun hh => by simp [State.enterState] at hh⟩

/-- A change within RUN or DRAIN keeps the invariant, whatever it does. -/
theorem restHeld_of_working {s : State} (h : s.control.state = .run ∨ s.control.state = .drain) : RestHeld s := by
  refine ⟨fun h1 h2 => ?_, fun hh => ?_⟩
  · rcases h with h | h
    · exact absurd h h1
    · exact absurd h h2
  · rcases h with h | h <;> simp [h] at hh

theorem restHeld_endDrain {s : State} (h : s.control.state = .drain) : RestHeld s.endDrain := by
  unfold State.endDrain
  split
  · rename_i hd
    refine restHeld_enterIdle ?_
    simp only [State.drained, Bool.and_eq_true, List.isEmpty_iff] at hd
    exact hd.1.1
  · exact restHeld_of_working (.inr h)

theorem keepsRest_loadedCal (s : State) (c : Calibration) (v : Vector Word 32) (d : Control)
    (h : d.state = s.control.state) : KeepsRest s (((s.withCal c).handOver v).withControl d) :=
  .of_eq h (by simp) (by simp) (by simp) (by simp)

theorem RestHeld.work {s u : State} (hu : Work s u) (hs : RestHeld s) : RestHeld u := by
  cases hu with
  | enterRun _ => exact restHeld_of_working (.inl rfl)
  | enterDrain _ => exact restHeld_endDrain rfl
  | leaveHalt h => exact restHeld_enterIdle (hs.2 h).1
  | endDrain h => exact restHeld_endDrain h
  | endInit h => exact restHeld_enterIdle (hs.1 (by simp [h]) (by simp [h]))
  | enterHalt _ => exact (keepsRest_enterHalt s).held hs
  | activation during late h =>
    refine restHeld_of_working (.inl ?_)
    simpa [State.mayActivate, and_assoc] using (show s.mayActivate = true → s.control.state = .run by
      simp +contextual [State.mayActivate]) h
  | takeEntry k i seen _ hm _ =>
    refine restHeld_of_working (.inl ?_)
    simpa using (show s.mayTake = true → s.control.state = .run by simp +contextual [State.mayTake]) hm
  | manualGrant _ =>
    refine KeepsRest.held ?_ hs
    refine KeepsRest.trans (t := (s.withControl { s.control with manualGrant := true }).withdrawTake) ?_
      (.of_eq rfl rfl rfl rfl rfl)
    exact KeepsRest.trans (t := s.withControl { s.control with manualGrant := true }) (.of_eq rfl rfl rfl rfl rfl)
      (keepsRest_withdrawTake _)
  | emergencyAssert _ =>
    exact (KeepsRest.trans (.of_eq (by simp) (by simp) (by simp) (by simp) (by simp)) (keepsRest_requestHalt _)).held hs
  | boomWord v moving =>
    refine KeepsRest.held (.of_eq ?_ (by simp) (by simp) (by simp) (by simp)) hs
    unfold State.holdBoom
    split <;> rfl
  | takeBytes bs => exact (keepsRest_takeBytes s bs).held hs
  | takeBytesGap bs =>
    exact ((keepsRest_takeBytes s bs).trans (.of_eq (by simp) (by simp) (by simp) (by simp) (by simp))).held hs
  | enterLost _ => exact (keepsRest_enterLost s).held hs
  | settleLimit i _ => exact (KeepsRest.trans (.of_eq rfl rfl rfl rfl rfl) (keepsRest_failAttempt _ i _)).held hs
  | failAttempt i r => exact (keepsRest_failAttempt s i r).held hs
  | gripperRequest => exact (keepsRest_gripperRequest s).held hs
  | spreaderRequest => exact (keepsRest_spreaderRequest s).held hs
  | bothRequests => exact ((keepsRest_gripperRequest s).trans (keepsRest_spreaderRequest _)).held hs
  | takeUpProbe => exact (keepsRest_takeUpProbe s).held hs
  | receiveReply bs => exact (keepsRest_receiveReply s bs).held hs
  | failTransaction t _ => exact (keepsRest_failTransaction s t).held hs
  | grantLine => exact (keepsRest_grantLine s).held hs
  | holdExpires f _ => exact (keepsRest_changeStation s _ _).held hs
  | feedTimeout f _ => exact ((keepsRest_endFeed s).trans (keepsRest_setStation _ _ _)).held hs
  | orderFeed r _ h =>
    have hne : s.issue.list ≠ [] := fun hl => by simp [hl] at h
    exact KeepsRest.held (.inl ⟨by simp, fun hl => absurd hl hne, fun hw => absurd hw.1 hne⟩) hs
  | matchBrick f hf _ => exact (keepsRest_matchBrick s hf).held hs
  | strayAtRoot _ _ => exact ((keepsRest_appendCarrier s none).trans (keepsRest_trainFault _)).held hs
  | trainFault => exact (keepsRest_trainFault s).held hs
  | popFront c rest _ hq => exact (keepsRest_popFront s hq).held hs
  | strayAtBay _ _ => exact ((keepsRest_arriveBay_void s none none).trans (keepsRest_trainFault _)).held hs
  | loadCalibration _ =>
    have hcopied : KeepsRest s (s.copyImage s.cal.store) := .of_eq (by simp) (by simp) (by simp) (by simp) (by simp)
    refine (hcopied.trans ?_).held hs
    exact (keepsRest_loadedCal _ _ _ _ (by simp))
  | confirmEntry i =>
    refine KeepsRest.held ?_ hs
    unfold State.confirmEntry
    split
    · split
      · exact .of_eq rfl rfl rfl rfl rfl
      · exact .refl s
    · exact .of_eq rfl rfl rfl rfl rfl
  | _ => exact KeepsRest.held (.of_eq (by simp) (by simp) (by simp) (by simp) (by simp)) hs

theorem Machine.Train.tick_contents (t : Train) (n : Nat) : ((t.tick n).queue.map Carrier.content) = t.queue.map Carrier.content := by
  unfold Train.tick
  split <;> simp [*]

theorem carriersVoid_iff (s : State) : CarriersVoid s ↔ ∀ x ∈ s.train.queue.map Carrier.content, x = none := by
  simp [CarriersVoid]

theorem keepsRest_tick (s : State) : KeepsRest s s.tick :=
  .of_blocks rfl id (fun h => by simpa [carriersVoid_iff, State.tick, Train.tick_contents] using h) (·.congr rfl)
    (·.congr rfl rfl)

/-- The closing of a command touches nothing that could hold work. -/
theorem keepsRest_finish (old s : State) : KeepsRest s (finish old s) :=
  .of_blocks (by simp) (by simp) (·.congr (by simp)) (·.congr (by simp)) (·.congr (by simp) (by simp))

theorem keepsRest_finishReset (old s : State) : KeepsRest s (finishReset old s) :=
  .of_blocks (by simp) (by simp) (·.congr (by simp)) (·.congr (by simp)) (·.congr (by simp) (by simp))

/-- A reset stands in INIT with an empty list. -/
theorem restHeld_controlReset (s : State) (inputs : InitInputs) : RestHeld (s.controlReset inputs) := by
  refine ⟨fun _ _ => by simp [State.controlReset, State.resetBlocks], fun h => ?_⟩
  simp [State.controlReset, State.resetBlocks, Control.reset] at h

theorem RestHeld.reset {s u : State} (hu : ResetWork s u) : RestHeld u := by
  cases hu with
  | power inputs e w => exact restHeld_controlReset _ inputs
  | control inputs => exact restHeld_controlReset _ inputs

/-- Settles O58: every operation keeps a list that is empty and a part that holds no work, or enters HALT, which leaves
neither; the machine state moves to rest only from a list that is empty. -/
theorem stepsKeepHaltWithoutWork : Obligations.StepsKeepHaltWithoutWork := fun _ _ h hl hw =>
  step_keeps (P := RestHeld) (fun s l hs => (KeepsRest.of_eq (s := s) (t := s.withPending l) rfl rfl rfl rfl rfl).held hs)
    (fun s hs => (keepsRest_tick s).held hs) RestHeld.work (fun old u hu => (keepsRest_finish old u).held hu)
    (fun {s u} hu _ => (keepsRest_finishReset s u).held (RestHeld.reset hu)) h ⟨hl, hw⟩

end Sys2Proof
end

section
/-! SUPPORT. What a command can do to the book, the issue list and the active course, as a chain of moves: the words it
writes, the state words it changes and under which conditions. -/

namespace Sys2Proof

open Sys2Proof.Machine

/-! ### Moves -/

/-- The entries with a record in the issue list, oldest first. -/
def listed (s : State) : List EntryIx := s.issue.list.map fun r => r.entry

/-- The word at `a` is the state word of no entry and of no course record. -/
def PlainAddr (a : Nat) : Prop :=
  (∀ i, a + 4 ≤ entryAddr i 0 ∨ entryAddr i 0 + 4 ≤ a) ∧ ∀ k, a + 4 ≤ courseAddr k 1 ∨ courseAddr k 1 + 4 ≤ a

/-- One move on the book, the list and the active course, with the condition under which it is made. -/
inductive BookMove (s : State) : State → Prop
  | quiet {t : State} (hb : t.book.cells = s.book.cells) (hl : (listed t).Sublist (listed s))
      (ha : t.seq.active = s.seq.active) : BookMove s t
  | word (a : Nat) (v : Word) (hp : PlainAddr a) (ha : a + 4 ≤ 65536) : BookMove s (s.setWord a v)
  | entry (i : EntryIx) (e : EntryState) (h : i ∈ listed s → e.inFlight = true ∨ ¬InFlight s i) :
      BookMove s (s.setEntryState i e)
  | issue (i : EntryIx) (r : IssueRecord) (hr : r.entry = i) (h : s.entryState i = some .posted) :
      BookMove s ((s.setEntryState i .issued).appendRecord r)
  | course (k : Slot) (c : CourseState) (hc : c ≠ .active) (h : s.courseState k ≠ some .active ∨ s.seq.active = none) :
      BookMove s (s.setCourseState k c)
  | close {t : State} (k : Slot) (h : s.seq.active = some k)
      (hb : t.book.cells = ((s.setCourseState k .closed).bumpCourse k).book.cells) (hl : listed t = listed s)
      (ha : t.seq.active = none) : BookMove s t
  | activate {t : State} (k : Slot) (h : s.seq.active = none)
      (hb : t.book.cells = ((s.setCourseState k .active).bumpCourse k).book.cells) (hl : listed t = listed s)
      (ha : t.seq.active = some k) : BookMove s t

theorem BookMove.wf {s t : State} (h : BookMove s t) (hs : BookWf s) : BookWf t := by
  cases h with
  | quiet hb _ _ => rwa [BookWf, hb]
  | word a v _ ha => exact State.setWord_wf s a v ha hs
  | entry i e _ => exact State.setEntryState_wf s i e hs
  | issue i r _ _ => simpa [BookWf, State.appendRecord] using State.setEntryState_wf s i .issued hs
  | course k c _ _ => exact State.setCourseState_wf s k c hs
  | close k _ hb _ _ => exact (congrArg Memory.wf hb).trans (State.bumpCourse_wf _ k (State.setCourseState_wf s k _ hs))
  | activate k _ hb _ _ => exact (congrArg Memory.wf hb).trans (State.bumpCourse_wf _ k (State.setCourseState_wf s k _ hs))

/-- A chain of moves from a book in canonical form. -/
def BookRuns (s t : State) : Prop := BookWf s → BookWf t ∧ Relation.ReflTransGen BookMove s t

/-- What every move keeps, a chain of moves keeps. -/
theorem BookRuns.keeps {P : State → Prop} (hP : ∀ s t, BookMove s t → BookWf s → P s → P t) {s t : State}
    (h : BookRuns s t) (hw : BookWf s) (hs : P s) : P t := by
  obtain ⟨-, hchain⟩ := h hw
  have hboth : BookWf t ∧ P t := by
    clear h
    induction hchain with
    | refl => exact ⟨hw, hs⟩
    | tail _ hm ih => exact ⟨hm.wf ih.1, hP _ _ hm ih.1 ih.2⟩
  exact hboth.2

theorem BookRuns.refl (s : State) : BookRuns s s := fun h => ⟨h, .refl⟩

theorem BookRuns.trans {s t u : State} (h1 : BookRuns s t) (h2 : BookRuns t u) : BookRuns s u := fun h =>
  ⟨(h2 (h1 h).1).1, (h1 h).2.trans (h2 (h1 h).1).2⟩

theorem BookRuns.move {s t : State} (h : BookWf s → BookMove s t) : BookRuns s t := fun hs =>
  ⟨(h hs).wf hs, .single (h hs)⟩

/-- An operation that touches neither the book nor the list nor the active course. -/
theorem BookRuns.frame {s t : State} (hb : t.book.cells = s.book.cells) (hl : listed t = listed s)
    (ha : t.seq.active = s.seq.active) : BookRuns s t := .move fun _ => .quiet hb (hl ▸ List.Sublist.refl _) ha

/-- A chain that begins with such an operation. -/
theorem BookRuns.framed {s t u : State} (h : BookRuns t u) (hb : t.book.cells = s.book.cells) (hl : listed t = listed s)
    (ha : t.seq.active = s.seq.active) : BookRuns s u := (BookRuns.frame hb hl ha).trans h

theorem BookRuns.word (s : State) {a : Nat} (v : Word) (hp : PlainAddr a) (ha : a + 4 ≤ 65536) :
    BookRuns s (s.setWord a v) := .move fun _ => .word a v hp ha

theorem BookRuns.foldl {α : Type} {f : State → α → State} (h : ∀ s x, BookRuns s (f s x)) :
    ∀ (l : List α) (s : State), BookRuns s (l.foldl f s)
  | [], s => .refl s
  | x :: l, s => (h s x).trans (BookRuns.foldl h l (f s x))

/-! ### Words that are no state words -/

theorem plainAddr_entry (i : EntryIx) (w : Nat) (h1 : 1 ≤ w) (h16 : w < 16) : PlainAddr (entryAddr i w) := by
  constructor <;> intro j <;> unfold entryAddr <;> (try unfold courseAddr) <;> omega

theorem plainAddr_course (k : Slot) (w : Nat) (h1 : w ≠ 1) (h16 : w < 16) : PlainAddr (courseAddr k w) := by
  constructor <;> intro j <;> (try unfold entryAddr) <;> unfold courseAddr <;> omega

/-- The header lies below the course records and the entries. -/
theorem plainAddr_header {a : Nat} (h : a + 4 ≤ 256) : PlainAddr a := by
  constructor <;> intro j <;> (try unfold entryAddr) <;> (try unfold courseAddr) <;> omega

theorem plainAddr_image (j : Fin 32) : PlainAddr (imageAddr j.val) := by
  constructor <;> intro j <;> (try unfold entryAddr) <;> (try unfold courseAddr) <;> unfold imageAddr <;> omega

theorem profileAddr_header (f : ProfileField) : profileAddr f + 4 ≤ 256 := by cases f <;> decide

theorem jogAddr_header (a : Axis) : jogAddr a + 4 ≤ 256 := by cases a <;> decide

/-- A word of an entry other than its state word. -/
theorem bookRuns_entryWord (s : State) (i : EntryIx) (w : Nat) (v : Word) (h1 : 1 ≤ w) (h16 : w < 16) :
    BookRuns s (s.setWord (entryAddr i w) v) := .word s v (plainAddr_entry i w h1 h16) (entryAddr_fits i w h16)

/-- A word of a course record other than its state word. -/
theorem bookRuns_courseWord (s : State) (k : Slot) (w : Nat) (v : Word) (h1 : w ≠ 1) (h16 : w < 16) :
    BookRuns s (s.setWord (courseAddr k w) v) := .word s v (plainAddr_course k w h1 h16) (courseAddr_fits k w h16)

theorem PlainWord.plainAddr {s : State} {a : Nat} (h : PlainWord s a) : PlainAddr a ∧ a + 4 ≤ 65536 := by
  cases h with
  | entry i w h1 h16 _ => exact ⟨plainAddr_entry i w h1 h16, entryAddr_fits i w h16⟩
  | course k w h1 h16 _ => exact ⟨plainAddr_course k w h1 h16, courseAddr_fits k w h16⟩
  | jog a => exact ⟨plainAddr_header (jogAddr_header a), jogAddr_fits a⟩
  | profile f => exact ⟨plainAddr_header (profileAddr_header f), profileAddr_fits f⟩
  | image j => exact ⟨plainAddr_image j, imageAddr_fits j⟩

/-! ### Words of an entry -/

theorem bookRuns_setAttempt (s : State) (i : EntryIx) (n : Nat) (r : Reason) : BookRuns s (s.setAttempt i n r) :=
  bookRuns_entryWord s i 7 _ (by omega) (by omega)

theorem bookRuns_setResult (s : State) (i : EntryIx) (r : ResultCode) : BookRuns s (s.setResult i r) :=
  bookRuns_entryWord s i 7 _ (by omega) (by omega)

theorem bookRuns_setApplied (s : State) (i : EntryIx) (z : Int) : BookRuns s (s.setApplied i z) :=
  bookRuns_entryWord s i 10 _ (by omega) (by omega)

theorem bookRuns_setSamples (s : State) (i : EntryIx) (n : Nat) : BookRuns s (s.setSamples i n) :=
  bookRuns_entryWord s i 10 _ (by omega) (by omega)

theorem bookRuns_setDeviation (s : State) (i : EntryIx) (d : Pose) : BookRuns s (s.setDeviation i d) :=
  (bookRuns_entryWord s i 8 _ (by omega) (by omega)).trans (bookRuns_entryWord _ i 9 _ (by omega) (by omega))

theorem bookRuns_clearDeviation (s : State) (i : EntryIx) : BookRuns s (s.clearDeviation i) :=
  (bookRuns_entryWord s i 8 _ (by omega) (by omega)).trans (bookRuns_entryWord _ i 9 _ (by omega) (by omega))

theorem bookRuns_clearProbeFields (s : State) (i : EntryIx) : BookRuns s (s.clearProbeFields i) :=
  (bookRuns_entryWord s i 11 _ (by omega) (by omega)).trans (bookRuns_entryWord _ i 12 _ (by omega) (by omega))

theorem bookRuns_setProbe (s : State) (i : EntryIx) (top target : Int) : BookRuns s (s.setProbe i top target) :=
  (bookRuns_entryWord s i 11 _ (by omega) (by omega)).trans (bookRuns_entryWord _ i 12 _ (by omega) (by omega))

theorem bookRuns_clearPartFields (s : State) (i : EntryIx) : BookRuns s (s.clearPartFields i) :=
  ((((((bookRuns_entryWord s i 7 _ (by omega) (by omega)).trans (bookRuns_entryWord _ i 8 _ (by omega) (by omega))).trans
    (bookRuns_entryWord _ i 9 _ (by omega) (by omega))).trans (bookRuns_entryWord _ i 10 _ (by omega) (by omega))).trans
    (bookRuns_entryWord _ i 11 _ (by omega) (by omega))).trans (bookRuns_entryWord _ i 12 _ (by omega) (by omega))).trans
    (bookRuns_entryWord _ i 13 _ (by omega) (by omega))

/-! ### States of an entry -/

/-- Two different words of entries do not overlap. -/
theorem entryAddr_disjoint {i j : EntryIx} {v w : Nat} (hv : v < 16) (hw : w < 16) (h : i ≠ j ∨ v ≠ w) :
    entryAddr j v + 4 ≤ entryAddr i w ∨ entryAddr i w + 4 ≤ entryAddr j v := by
  have hne : i.val ≠ j.val ∨ v ≠ w := h.imp (fun hn he => hn (Fin.ext he)) id
  unfold entryAddr
  omega

/-- A plain word leaves every entry's state. -/
theorem entryState_setWord {s : State} {a : Nat} {v : Word} (hs : BookWf s) (hp : PlainAddr a) (ha : a + 4 ≤ 65536)
    (i : EntryIx) : (s.setWord a v).entryState i = s.entryState i :=
  State.entryState_congr (State.word_setWord_ne _ _ _ _ hs ha (hp.1 i).symm)

theorem courseState_setWord {s : State} {a : Nat} {v : Word} (hs : BookWf s) (hp : PlainAddr a) (ha : a + 4 ≤ 65536)
    (k : Slot) : (s.setWord a v).courseState k = s.courseState k :=
  State.courseState_congr (State.word_setWord_ne _ _ _ _ hs ha (hp.2 k).symm)

/-- The state word of one entry is no other entry's and no course record's. -/
theorem entryState_setEntryState_ne {s : State} {i j : EntryIx} {e : EntryState} (hs : BookWf s) (h : j ≠ i) :
    (s.setEntryState i e).entryState j = s.entryState j :=
  State.entryState_congr
    (State.word_setWord_ne _ _ _ _ hs (by simp) (entryAddr_disjoint (by omega) (by omega) (.inl (Ne.symm h))))

theorem courseState_setEntryState {s : State} {i : EntryIx} {e : EntryState} (hs : BookWf s) (k : Slot) :
    (s.setEntryState i e).courseState k = s.courseState k :=
  State.courseState_congr (State.word_setWord_ne _ _ _ _ hs (by simp) (by unfold entryAddr courseAddr; omega))

theorem entryState_setCourseState {s : State} {k : Slot} {c : CourseState} (hs : BookWf s) (i : EntryIx) :
    (s.setCourseState k c).entryState i = s.entryState i :=
  State.entryState_congr (State.word_setWord_ne _ _ _ _ hs (by simp) (by unfold entryAddr courseAddr; omega))

theorem courseState_setCourseState_ne {s : State} {k l : Slot} {c : CourseState} (hs : BookWf s) (h : l ≠ k) :
    (s.setCourseState k c).courseState l = s.courseState l := by
  have hne : l.val ≠ k.val := fun he => h (Fin.ext he)
  exact State.courseState_congr (State.word_setWord_ne _ _ _ _ hs (by simp) (by unfold courseAddr; omega))

theorem inFlight_congr {s t : State} {i : EntryIx} (h : t.entryState i = s.entryState i) : InFlight t i ↔ InFlight s i := by
  unfold InFlight
  rw [h]

theorem inFlight_iff (s : State) (i : EntryIx) : InFlight s i ↔ ∃ e, s.entryState i = some e ∧ e.inFlight = true := by
  unfold InFlight
  constructor
  · rintro (h | h | h | h) <;> exact ⟨_, h, rfl⟩
  · rintro ⟨e, h, he⟩
    cases e <;> simp_all [EntryState.inFlight]

/-- An entry in a state that is not in flight. -/
theorem not_inFlight_of {s : State} {i : EntryIx} {e : EntryState} (h : s.entryState i = some e)
    (he : e.inFlight = false) : ¬InFlight s i := by
  rw [inFlight_iff]
  rintro ⟨e', h', he'⟩
  rw [h] at h'
  cases h'
  simp [he] at he'

/-- An entry that may be changed: it has no record in the list, or is not in flight. -/
def Loose (s : State) (i : EntryIx) : Prop := i ∈ listed s → ¬InFlight s i

theorem loose_of_state {s : State} {i : EntryIx} {e : EntryState} (h : s.entryState i = some e)
    (he : e.inFlight = false) : Loose s i := fun _ => not_inFlight_of h he

theorem listed_removeRecord (s : State) (i : EntryIx) : listed (s.removeRecord i) = (listed s).filter fun j => j ≠ i := by
  simp [listed, State.removeRecord, List.filter_map, Function.comp_def]

theorem loose_removeRecord (s : State) (i : EntryIx) : Loose (s.removeRecord i) i := fun h => by
  simp [listed_removeRecord] at h

theorem listed_setLocation (s : State) (i : EntryIx) (l : Location) : listed (s.setLocation i l) = listed s := by
  simp only [listed, State.setLocation, State.withIssue_issue, List.map_map]
  refine List.map_congr_left fun r _ => ?_
  simp only [Function.comp_apply]
  split <;> rfl

theorem listed_congr {s t : State} (h : t.issue.list = s.issue.list) : listed t = listed s := by
  unfold listed
  rw [h]

theorem bookRuns_setLocation (s : State) (i : EntryIx) (l : Location) : BookRuns s (s.setLocation i l) :=
  .frame (by simp) (listed_setLocation s i l) (by simp)

theorem bookRuns_removeRecord (s : State) (i : EntryIx) : BookRuns s (s.removeRecord i) :=
  .move fun _ => .quiet (by simp) (by rw [listed_removeRecord]; exact List.filter_sublist) (by simp)

theorem bookRuns_setEntryState {s : State} {i : EntryIx} (e : EntryState) (h : Loose s i) :
    BookRuns s (s.setEntryState i e) := .move fun _ => .entry i e fun hi => .inr (h hi)

/-- The moves of an entry within flight. -/
theorem bookRuns_moveEntry (s : State) (i : EntryIx) (e1 : EntryState) {e2 : EntryState} (h : e2.inFlight = true) :
    BookRuns s (s.moveEntry i e1 e2) := by
  unfold State.moveEntry
  split
  · exact .move fun _ => .entry i e2 fun _ => .inl h
  · exact .refl s

theorem loose_congr {s t : State} {i : EntryIx} (hl : listed t = listed s) (he : t.entryState i = s.entryState i)
    (h : Loose s i) : Loose t i := fun hi => by
  rw [inFlight_congr he]
  exact h (hl ▸ hi)

theorem loose_setWord {s : State} {i : EntryIx} {a : Nat} {v : Word} (hs : BookWf s) (hp : PlainAddr a)
    (ha : a + 4 ≤ 65536) (h : Loose s i) : Loose (s.setWord a v) i :=
  loose_congr (listed_congr (by simp)) (entryState_setWord hs hp ha i) h

theorem loose_setResult {s : State} {i : EntryIx} (r : ResultCode) (hs : BookWf s) (h : Loose s i) :
    Loose ((s.setResult i r).setWord (entryAddr i 13) s.time) i :=
  loose_setWord (State.setResult_wf s i r hs) (plainAddr_entry i 13 (by omega) (by omega)) (by simp)
    (loose_setWord hs (plainAddr_entry i 7 (by omega) (by omega)) (by simp) h)

theorem bookRuns_finishEntry {s : State} {i : EntryIx} (e : EntryState) (r : ResultCode) (h : Loose s i) :
    BookRuns s (s.finishEntry i e r) := fun hs =>
  (((bookRuns_setResult s i r).trans (bookRuns_entryWord _ i 13 s.time (by omega) (by omega))).trans
    (bookRuns_setEntryState e (loose_setResult r hs h))) hs

/-! ### Counting and closing -/

theorem bookRuns_setCourseFigures (s : State) (k : Slot) (f : CourseFigures) : BookRuns s (s.setCourseFigures k f) :=
  (((((((bookRuns_courseWord s k 6 _ (by omega) (by omega)).trans (bookRuns_courseWord _ k 7 _ (by omega) (by omega))).trans
    (bookRuns_courseWord _ k 8 _ (by omega) (by omega))).trans (bookRuns_courseWord _ k 9 _ (by omega) (by omega))).trans
    (bookRuns_courseWord _ k 10 _ (by omega) (by omega))).trans (bookRuns_courseWord _ k 11 _ (by omega) (by omega))).trans
    (bookRuns_courseWord _ k 12 _ (by omega) (by omega))).trans (bookRuns_courseWord _ k 13 _ (by omega) (by omega))

theorem bookRuns_bumpCourse (s : State) (k : Slot) : BookRuns s (s.bumpCourse k) :=
  bookRuns_courseWord s k 0 _ (by omega) (by omega)

theorem bookRuns_closeCourse {s : State} {k : Slot} (h : s.seq.active = some k) : BookRuns s (s.closeCourse k) := by
  refine (bookRuns_courseWord s k 15 s.time (by omega) (by omega)).trans (.move fun _ => ?_)
  exact .close k (by simpa using h) (by simp [State.closeCourse]) (listed_congr (by simp)) (by simp [State.closeCourse])

theorem bookRuns_countTerminal (s : State) (i : EntryIx) (e : EntryState) : BookRuns s (s.countTerminal i e) := by
  unfold State.countTerminal
  split
  · exact .refl s
  · rename_i k hk
    split
    · dsimp only
      generalize s.recomputeZc k i e _ = f
      have h1 := (bookRuns_setCourseFigures s k f).trans (bookRuns_bumpCourse _ k)
      split
      · exact h1.trans (bookRuns_closeCourse (by simpa using hk))
      · exact h1
    · exact .refl s

theorem bookRuns_uncountTerminal (s : State) (i : EntryIx) (e : EntryState) : BookRuns s (s.uncountTerminal i e) := by
  unfold State.uncountTerminal
  split
  · exact .refl s
  · split
    · exact (bookRuns_setCourseFigures s _ _).trans (bookRuns_bumpCourse _ _)
    · exact .refl s

theorem bookRuns_cancelEntry {s : State} {i : EntryIx} (h : Loose s i) : BookRuns s (s.cancelEntry i) :=
  (bookRuns_finishEntry .cancelled .cancelled h).trans (bookRuns_countTerminal _ i _)

theorem bookRuns_cancelIfClosing {s : State} {i : EntryIx} (h : BookWf s → Loose s i) :
    BookRuns s (s.cancelIfClosing i) := fun hs => by
  unfold State.cancelIfClosing
  split
  · exact BookRuns.refl s hs
  · split
    · exact bookRuns_cancelEntry (h hs) hs
    · exact BookRuns.refl s hs

theorem loose_setEntryState {s : State} {i : EntryIx} {e : EntryState} (he : e.inFlight = false) (hs : BookWf s) :
    Loose (s.setEntryState i e) i := loose_of_state (State.entryState_setEntryState s i e hs) he

theorem bookRuns_returnToPosted {s : State} {i : EntryIx} (h : Loose s i) : BookRuns s (s.returnToPosted i) := fun hs =>
  ((bookRuns_setEntryState .posted h).trans (bookRuns_cancelIfClosing fun _ => loose_setEntryState rfl hs)) hs

theorem bookRuns_cancelOpenEntry (s : State) (i : EntryIx) : BookRuns s (s.cancelOpenEntry i) := by
  unfold State.cancelOpenEntry
  split
  · rename_i h
    rcases h with h | h <;> exact bookRuns_cancelEntry (loose_of_state h rfl)
  · exact .refl s

theorem bookRuns_requestClose (s : State) (k : Slot) : BookRuns s (s.requestClose k) :=
  BookRuns.trans (t := s.withSeq { s.seq with closeMark := true }) (.frame rfl rfl rfl)
    (BookRuns.foldl bookRuns_cancelOpenEntry _ _)

/-! ### Host writes to the state word of an entry -/

theorem bookRuns_discardWrite (s : State) : BookRuns s s.discardWrite := .frame rfl rfl rfl

/-- Words written elsewhere than in state words keep every entry's state. -/
def KeepsStates (s t : State) : Prop := BookWf s → BookWf t ∧ ∀ j, t.entryState j = s.entryState j

theorem KeepsStates.trans {s t u : State} (h1 : KeepsStates s t) (h2 : KeepsStates t u) : KeepsStates s u := fun hs =>
  have ⟨ht, he⟩ := h1 hs
  ⟨(h2 ht).1, fun j => ((h2 ht).2 j).trans (he j)⟩

theorem keepsStates_entryWord (s : State) (i : EntryIx) (w : Nat) (v : Word) (h1 : 1 ≤ w) (h16 : w < 16) :
    KeepsStates s (s.setWord (entryAddr i w) v) := fun hs =>
  ⟨State.setWord_wf s _ v (entryAddr_fits i w h16) hs,
    entryState_setWord hs (plainAddr_entry i w h1 h16) (entryAddr_fits i w h16)⟩

/-- The part-written fields lie outside the state word. -/
theorem keepsStates_clearPartFields (s : State) (i : EntryIx) : KeepsStates s (s.clearPartFields i) :=
  ((((((keepsStates_entryWord s i 7 0 (by omega) (by omega)).trans
    (keepsStates_entryWord _ i 8 0 (by omega) (by omega))).trans (keepsStates_entryWord _ i 9 0 (by omega) (by omega))).trans
    (keepsStates_entryWord _ i 10 0 (by omega) (by omega))).trans
    (keepsStates_entryWord _ i 11 0 (by omega) (by omega))).trans (keepsStates_entryWord _ i 12 0 (by omega) (by omega))).trans
    (keepsStates_entryWord _ i 13 0 (by omega) (by omega))

/-- Taking an entry back out of the counts keeps every byte outside the course record (R34). -/
theorem uncountTerminal_read (s : State) (i : EntryIx) (e : EntryState) (x : Nat) (h : BookWf s)
    (hx : ∀ k, InActive s k i → x < courseAddr k 0 ∨ courseAddr k 0 + 64 ≤ x) :
    (s.uncountTerminal i e).book.cells.read x = s.book.cells.read x := by
  unfold State.uncountTerminal
  split
  · rfl
  · rename_i k hk
    split
    · rename_i hi
      exact State.update_read _ _ _ _ h (hx k ⟨hk, hi⟩)
    · rfl

theorem uncountTerminal_entryWord (s : State) (i j : EntryIx) (e : EntryState) (w : Nat) (h : BookWf s) :
    (s.uncountTerminal i e).word (entryAddr j w) = s.word (entryAddr j w) :=
  State.word_of_read fun x h1 h2 => uncountTerminal_read _ _ _ _ h fun k _ => by
    unfold entryAddr courseAddr at *
    omega

theorem bookRuns_postEntry (s : State) (i : EntryIx) : BookRuns s (s.postEntry i) := by
  unfold State.postEntry
  split
  · rename_i hf
    have hloose : BookWf s → Loose (s.clearPartFields i) i := fun hs =>
      loose_congr (listed_congr (by simp)) ((keepsStates_clearPartFields s i hs).2 i) (loose_of_state hf rfl)
    exact fun hs => (((bookRuns_clearPartFields s i).trans (bookRuns_setEntryState .posted (hloose hs))).trans
      (bookRuns_cancelIfClosing fun _ => loose_setEntryState rfl (State.clearPartFields_wf s i hs))) hs
  · exact .refl s
  · exact bookRuns_discardWrite s

theorem bookRuns_freeEntry (s : State) (i : EntryIx) : BookRuns s (s.freeEntry i) := by
  unfold State.freeEntry
  split
  · exact .refl s
  · rename_i h
    exact fun hs => ((bookRuns_setEntryState .free (loose_of_state h rfl)).trans
      (bookRuns_cancelIfClosing fun _ => loose_setEntryState rfl hs)) hs
  · rename_i e _ _ h
    split
    · rename_i ht
      have hloose : Loose s i := loose_of_state h (by cases e <;> simp_all [EntryState.terminal, EntryState.inFlight])
      refine fun hs => (((bookRuns_setEntryState .free hloose).trans (bookRuns_uncountTerminal _ i e)).trans
        (bookRuns_cancelIfClosing fun hw => ?_)) hs
      have hw' : BookWf (s.setEntryState i .free) := State.setEntryState_wf s i .free hs
      exact loose_congr (listed_congr (by simp)) (State.entryState_congr (uncountTerminal_entryWord _ i i e 0 hw'))
        (loose_setEntryState (i := i) (e := .free) rfl hs)
    · exact bookRuns_discardWrite s
  · exact bookRuns_discardWrite s

theorem bookRuns_cancelWrite (s : State) (i : EntryIx) : BookRuns s (s.cancelWrite i) := by
  unfold State.cancelWrite
  split
  · exact bookRuns_cancelEntry (loose_of_state ‹_› rfl)
  · exact bookRuns_cancelEntry (loose_of_state ‹_› rfl)
  · exact .refl s
  · exact bookRuns_discardWrite s

theorem bookRuns_confirmEntry (s : State) (i : EntryIx) : BookRuns s (s.confirmEntry i) := by
  unfold State.confirmEntry
  split
  · split
    · exact .frame rfl rfl rfl
    · exact .refl s
  · exact bookRuns_discardWrite s

/-! ### Records leaving the list -/

theorem bookRuns_voidBrick (s : State) (r : IssueRecord) : BookRuns s (s.voidBrick r) :=
  .frame (by simp) (listed_congr (by simp)) (by simp)

theorem bookRuns_displace (s : State) (r : IssueRecord) : BookRuns s (s.displace r) :=
  ((bookRuns_removeRecord s r.entry).trans (bookRuns_returnToPosted (loose_removeRecord s r.entry))).trans
    (bookRuns_voidBrick _ r)

theorem bookRuns_displaceAll (s : State) (l : List IssueRecord) : BookRuns s (s.displaceAll l) :=
  (BookRuns.foldl bookRuns_displace l s).trans
    (.frame (by simp [State.displaceAll]) (listed_congr (by simp [State.displaceAll])) (by simp [State.displaceAll]))

theorem bookRuns_retry (s : State) (i : EntryIx) : BookRuns s (s.retry i) := by
  have h1 : BookRuns s ((s.removeRecord i).returnToPosted i) :=
    (bookRuns_removeRecord s i).trans (bookRuns_returnToPosted (loose_removeRecord s i))
  unfold State.retry
  dsimp only
  split
  · exact h1.trans (bookRuns_displaceAll _ _)
  · exact h1

theorem bookRuns_failFinally (s : State) (i : EntryIx) (r : Reason) : BookRuns s (s.failFinally i r) :=
  (((bookRuns_removeRecord s i).trans (bookRuns_finishEntry .failed (reasonResult r) (loose_removeRecord s i))).trans
    (bookRuns_countTerminal _ i .failed)).trans (.frame rfl rfl rfl)

theorem bookRuns_attemptFailure (s : State) (i : EntryIx) (r : Reason) : BookRuns s (s.attemptFailure i r) := by
  unfold State.attemptFailure
  split
  · exact .refl s
  · rename_i rec _
    dsimp only
    split
    · exact (bookRuns_setAttempt s i (rec.attemptsUsed + 1) r).trans (bookRuns_retry _ i)
    · exact (bookRuns_setAttempt s i (rec.attemptsUsed + 1) r).trans (bookRuns_failFinally _ i r)

theorem bookRuns_voidAtHead (s : State) (i : EntryIx) : BookRuns s (s.voidAtHead i) :=
  .frame (by simp) (listed_congr (by simp)) (by simp)

theorem bookRuns_failAttempt (s : State) (i : EntryIx) (r : Reason) : BookRuns s (s.failAttempt i r) :=
  (bookRuns_voidAtHead s i).trans (bookRuns_attemptFailure _ i r)

theorem bookRuns_failContent (s : State) (c : Content) : BookRuns s (s.failContent c) := by
  unfold State.failContent
  split
  · exact bookRuns_attemptFailure s _ _
  · exact .refl s

theorem bookRuns_enterHalt (s : State) : BookRuns s s.enterHalt := by
  unfold State.enterHalt
  refine BookRuns.trans (t := (s.withControl { s.control with state := .halt, haltHeld := false }).raise .halted)
    (.frame rfl rfl rfl) ?_
  generalize (s.withControl { s.control with state := .halt, haltHeld := false }).raise .halted = t
  exact BookRuns.trans (t := t.emptyList) (BookRuns.foldl bookRuns_displace t.issue.list t)
    (.frame (by simp) (listed_congr (by simp)) (by simp))

theorem bookRuns_requestHalt (s : State) : BookRuns s s.requestHalt := by
  unfold State.requestHalt
  split
  · exact .frame rfl rfl rfl
  · exact .refl s
  all_goals exact bookRuns_enterHalt s

theorem bookRuns_trainFault (s : State) : BookRuns s s.trainFault :=
  BookRuns.trans (t := s.raise .trainFault) (.frame rfl rfl rfl) (bookRuns_requestHalt _)

/-! ### Loss of tracking and samples -/

theorem bookRuns_recoverLoss (s : State) : BookRuns s s.recoverLoss := by
  unfold State.recoverLoss
  split
  · exact .refl s
  · split
    · exact .refl s
    · exact bookRuns_failAttempt s _ _
    · split
      · exact bookRuns_failAttempt s _ _
      · exact .frame rfl rfl rfl

theorem bookRuns_recoverIfLost (s : State) : BookRuns s s.recoverIfLost := by
  unfold State.recoverIfLost
  split
  · exact bookRuns_recoverLoss s
  · exact .refl s

theorem bookRuns_enterLost (s : State) : BookRuns s s.enterLost :=
  BookRuns.trans (.frame (by simp) (listed_congr (by simp)) (by simp)) (bookRuns_recoverLoss _)

theorem bookRuns_expireLossIfDue (s : State) : BookRuns s s.expireLossIfDue := by
  unfold State.expireLossIfDue
  split
  · split
    · exact bookRuns_enterLost s
    · exact .refl s
  · exact .refl s

theorem bookRuns_takeBytes (s : State) (bs : List Byte) : BookRuns s (s.takeBytes bs) :=
  .frame (by simp) (listed_congr (by simp)) (by simp)

/-! ### Head operations -/

theorem bookRuns_spreadDone (s : State) : BookRuns s s.spreadDone := .frame (by simp) (listed_congr (by simp)) (by simp)

theorem bookRuns_handOverAttempt (s : State) (i : EntryIx) (z : Int) : BookRuns s (s.handOverAttempt i z) :=
  .frame (by simp) (listed_congr (by simp)) (by simp)

theorem bookRuns_takeDone (s : State) : BookRuns s s.takeDone := by
  unfold State.takeDone
  dsimp only
  split
  · rename_i i hi
    refine BookRuns.trans (t := s.moveToGripper (.entry i)) (.frame rfl rfl rfl) ?_
    refine ((((bookRuns_setApplied _ i s.activeZc).trans (bookRuns_moveEntry _ i .head (e2 := .placing) rfl)).trans
      (bookRuns_setLocation _ i .gripper)).trans (bookRuns_handOverAttempt _ i s.activeZc)).trans ?_
    exact BookRuns.trans (.frame (by simp) (listed_congr (by simp)) (by simp)) (bookRuns_recoverIfLost _)
  · exact .frame (by simp) (listed_congr (by simp)) (by simp)

/-- Making an entry terminal and taking its record out of the list, in either order. -/
theorem bookRuns_finishAndRemove (s : State) (i : EntryIx) (e : EntryState) (r : ResultCode) :
    BookRuns s ((s.finishEntry i e r).removeRecord i) :=
  (bookRuns_removeRecord s i).trans (bookRuns_finishEntry e r (loose_removeRecord s i))

theorem bookRuns_clearGripper (s : State) : BookRuns s s.clearGripper := .frame (by simp) (listed_congr (by simp)) (by simp)

theorem bookRuns_releaseDone (s : State) : BookRuns s s.releaseDone := by
  unfold State.releaseDone
  dsimp only
  split
  · rename_i i _
    exact (((((bookRuns_setDeviation s i s.head.gripper.deviation).trans (bookRuns_setSamples _ i s.head.gripper.tally)).trans
      (bookRuns_clearProbeFields _ i)).trans (bookRuns_finishAndRemove _ i .laid .done)).trans
      (bookRuns_countTerminal _ i .laid)).trans (bookRuns_clearGripper _)
  all_goals exact .frame (by simp) (listed_congr (by simp)) (by simp)

theorem bookRuns_probeDone (s : State) (n : Nat) : BookRuns s (s.probeDone n) := by
  unfold State.probeDone
  dsimp only
  split
  · rename_i i a smp _ _ _
    exact ((((((bookRuns_setProbe s i (measuredTop smp n) a.target.z).trans
      (bookRuns_setSamples _ i s.head.gripper.tally)).trans (bookRuns_clearDeviation _ i)).trans
      (bookRuns_setApplied _ i 0)).trans (bookRuns_finishAndRemove _ i .probed .done)).trans
      (bookRuns_countTerminal _ i .probed)).trans (bookRuns_clearGripper _)
  · exact bookRuns_clearGripper s

theorem bookRuns_operationDone (s : State) (c : StationCommand) (n : Nat) : BookRuns s (s.operationDone c n) := by
  cases c with
  | spread => exact bookRuns_spreadDone s
  | take => exact bookRuns_takeDone s
  | release => exact bookRuns_releaseDone s
  | probe => exact bookRuns_probeDone s n
  | eject p => exact .frame (by simp [State.operationDone]) (listed_congr (by simp [State.operationDone])) (by simp [State.operationDone])
  | query => exact .refl s
  | feed _ => exact .refl s

/-- A failed operation sets its place first, and then fails the attempt it served. -/
theorem bookRuns_failContent_of {s t : State} (c : Content) (hb : t.book.cells = s.book.cells)
    (hl : t.issue.list = s.issue.list) (ha : t.seq.active = s.seq.active) : BookRuns s (t.failContent c) :=
  BookRuns.trans (.frame hb (listed_congr hl) ha) (bookRuns_failContent t c)

theorem bookRuns_operationFailed (s : State) (c : StationCommand) : BookRuns s (s.operationFailed c) := by
  unfold State.operationFailed
  dsimp only
  split
  · exact bookRuns_failContent_of _ (by simp) (by simp) (by simp)
  · exact bookRuns_failContent_of _ (by simp) (by simp) (by simp)
  · exact bookRuns_failContent_of _ (by simp) (by simp) (by simp)
  · exact bookRuns_failContent_of _ (by simp) (by simp) (by simp)
  · exact .frame (by simp) (listed_congr (by simp)) (by simp)
  · exact .frame (by simp) (listed_congr (by simp)) (by simp)
  all_goals exact .refl s

theorem bookRuns_headStationFault (s : State) (c : Option StationCommand) : BookRuns s (s.headStationFault c) := by
  unfold State.headStationFault
  cases c with
  | none => exact BookRuns.trans (t := s.raise .headStation) (.frame rfl rfl rfl) (bookRuns_requestHalt _)
  | some c =>
    exact (bookRuns_operationFailed s c).trans
      (BookRuns.trans (t := (s.operationFailed c).raise .headStation) (.frame rfl rfl rfl) (bookRuns_requestHalt _))

theorem bookRuns_takeUpProbe (s : State) : BookRuns s s.takeUpProbe := by
  unfold State.takeUpProbe
  split
  · exact .refl s
  · rename_i r _
    split
    · generalize hg : s.putHead _ = t
      have h1 : BookRuns s t := .frame (by simp [← hg]) (listed_congr (by simp [← hg])) (by simp [← hg])
      exact ((((h1.trans (bookRuns_setApplied t r.entry 0)).trans (bookRuns_moveEntry _ r.entry .issued rfl)).trans
        (bookRuns_setLocation _ r.entry .gripper)).trans (bookRuns_handOverAttempt _ r.entry 0)).trans
        (bookRuns_recoverIfLost _)
    · exact .refl s

/-! ### The station line -/

theorem listed_endFeed (s : State) : listed s.endFeed = listed s := by
  unfold State.endFeed
  split
  · rfl
  · split
    · exact listed_congr (by simp)
    · rw [listed_setLocation]
      exact listed_congr (by simp)

theorem bookRuns_endFeed (s : State) : BookRuns s s.endFeed := .frame (by simp) (listed_endFeed s) (by simp)

theorem bookRuns_changeStation (s : State) (p : Position) (x : Station) : BookRuns s (s.changeStation p x) := by
  refine BookRuns.trans (t := s.setStation p x) (.frame (by simp) (listed_congr (by simp)) (by simp)) ?_
  unfold State.changeStation State.withdrawIfNotReady
  split
  · exact .refl _
  · split
    · exact bookRuns_endFeed _
    · exact .refl _

theorem bookRuns_schedulePoll (s : State) (p : Position) (b : Bool) : BookRuns s (s.schedulePoll p b) :=
  .frame (by simp) (listed_congr (by simp)) (by simp)

theorem bookRuns_withdrawIfNotReady (s : State) (p : Position) : BookRuns s (s.withdrawIfNotReady p) := by
  unfold State.withdrawIfNotReady
  split
  · exact .refl s
  · split
    · exact bookRuns_endFeed s
    · exact .refl s

theorem bookRuns_endSentFeed (s : State) (p : Position) : BookRuns s (s.endSentFeed p) := by
  unfold State.endSentFeed
  split
  · exact .refl s
  · split
    · exact bookRuns_endFeed s
    · exact .refl s

theorem bookRuns_commandAccepted (s : State) (p : Position) (c : StationCommand) : BookRuns s (s.commandAccepted p c) :=
  (BookRuns.trans (t := s.acceptFeed p) (.frame (by simp) (listed_congr (by simp)) (by simp))
    (bookRuns_changeStation _ p _)).trans (bookRuns_schedulePoll _ p _)

theorem bookRuns_commandBusy (s : State) (p : Position) (c : StationCommand) : BookRuns s (s.commandBusy p c) := by
  unfold State.commandBusy
  extract_lets x s1 y s2
  have h2 : BookRuns s s2 := by
    simp only [s2, s1]
    split <;> exact .frame (by simp) (listed_congr (by simp)) (by simp)
  exact h2.trans ((bookRuns_withdrawIfNotReady s2 p).trans (bookRuns_schedulePoll _ p true))

theorem bookRuns_commandError (s : State) (p : Position) (c : StationCommand) (e : Half) :
    BookRuns s (s.commandError p c e) := by
  unfold State.commandError
  dsimp only
  generalize ({ (s.endSentFeed p).line.at p with
    state := .faulted, operation := .none, lastError := e, retry := false, hold := none } : Station) = y
  have h1 : BookRuns s (((s.endSentFeed p).changeStation p y).schedulePoll p false) :=
    ((bookRuns_endSentFeed s p).trans (bookRuns_changeStation _ p y)).trans (bookRuns_schedulePoll _ p false)
  split
  · exact h1
  · split
    · exact h1.trans (bookRuns_operationFailed _ c)
    · exact h1.trans (bookRuns_headStationFault _ _)

theorem bookRuns_reportSettled (s : State) (p : Position) (r : Settlement) (n : Nat) (b : Bool) :
    BookRuns s (s.reportSettled p r n b) := by
  unfold State.reportSettled
  split
  · exact .refl s
  · extract_lets s1 failed
    have h1 : BookRuns s s1 := by
      simp only [s1]
      split
      · exact bookRuns_operationDone s _ n
      · exact .refl s
    clear_value s1 failed
    split
    · exact h1.trans (bookRuns_headStationFault s1 _)
    · cases failed with
      | some c => exact h1.trans (bookRuns_operationFailed s1 c)
      | none => exact h1

theorem bookRuns_replaceDeferred (s : State) (p : Position) : BookRuns s (s.replaceDeferred p) :=
  .frame (by simp) (listed_congr (by simp)) (by simp)

theorem bookRuns_queryStatus (s : State) (p : Position) (d : QueryData) : BookRuns s (s.queryStatus p d) :=
  (((bookRuns_changeStation s p _).trans (bookRuns_reportSettled _ p _ _ _)).trans (bookRuns_replaceDeferred _ p)).trans
    (bookRuns_schedulePoll _ p _)

theorem bookRuns_queryError (s : State) (p : Position) (e : Half) : BookRuns s (s.queryError p e) := by
  unfold State.queryError
  extract_lets x s1 s2
  have h1 : BookRuns s s1 := bookRuns_changeStation s p _
  refine BookRuns.trans (t := s2) ?_ (bookRuns_schedulePoll _ p _)
  simp only [s2]
  split
  · exact h1
  · split
    · split
      · exact h1.trans (bookRuns_operationFailed _ _)
      · exact h1
    · exact h1.trans (bookRuns_headStationFault _ _)

theorem bookRuns_goodReply (s : State) (t : Transaction) (r : Reply) : BookRuns s (s.goodReply t r) := by
  refine BookRuns.trans (t := s.freeLine) (.frame rfl rfl rfl) ?_
  unfold State.goodReply
  dsimp only
  split
  · exact bookRuns_commandAccepted _ _ _
  · exact bookRuns_commandBusy _ _ _
  · split
    · exact bookRuns_queryError _ _ _
    · exact bookRuns_commandError _ _ _ _
  · exact bookRuns_queryStatus _ _ _

theorem bookRuns_secondFailure (s : State) (t : Transaction) : BookRuns s (s.secondFailure t) := by
  unfold State.secondFailure
  extract_lets x s0 s1 failed
  have h0 : BookRuns s s0 := BookRuns.trans (t := s.freeLine) (.frame rfl rfl rfl) (bookRuns_endSentFeed _ t.position)
  have h1 : BookRuns s s1 :=
    (h0.trans (bookRuns_changeStation s0 t.position (unresponsiveStation (s0.line.at t.position)))).trans
      (bookRuns_schedulePoll _ t.position false)
  clear_value s1 failed
  have h2 : BookRuns s (s1.raise .stationFault) := h1.trans (.frame rfl rfl rfl)
  split
  · cases failed with
    | some c => exact h1.trans (bookRuns_operationFailed s1 c)
    | none => exact h1
  · split
    · exact h2
    · exact h2.trans (bookRuns_headStationFault _ _)

theorem bookRuns_failTransaction (s : State) (t : Transaction) : BookRuns s (s.failTransaction t) := by
  unfold State.failTransaction
  split
  · exact bookRuns_secondFailure s t
  · exact .frame (by simp) (listed_congr (by simp)) (by simp)

theorem bookRuns_receiveReply (s : State) (bs : List Byte) : BookRuns s (s.receiveReply bs) := by
  unfold State.receiveReply
  split
  · exact .refl s
  · split
    · exact .refl s
    · split
      · exact .refl s
      · exact bookRuns_failTransaction s _
      · exact bookRuns_goodReply s _ _

/-! ### The train -/

theorem bookRuns_matchBrick (s : State) (f : FeedPending) : BookRuns s (s.matchBrick f) := by
  unfold State.matchBrick
  split
  · rename_i i _
    refine BookRuns.trans (t := s.appendCarrier (some i) none) (.frame (by simp) (listed_congr (by simp)) (by simp)) ?_
    refine ((bookRuns_moveEntry _ i .issued (e2 := .transit) rfl).trans (bookRuns_setLocation _ i .train)).trans ?_
    exact .frame (by simp) (listed_congr (by simp)) (by simp)
  · exact .frame (by simp) (listed_congr (by simp)) (by simp)

theorem bookRuns_popFront (s : State) (c : Carrier) (rest : List Carrier) : BookRuns s (s.popFront c rest) := by
  unfold State.popFront
  extract_lets x s1
  have h1 : BookRuns s s1 := .frame (by simp [s1]) (listed_congr (by simp [s1])) (by simp [s1])
  clear_value s1
  split
  · rename_i i _
    have h2 : BookRuns s (s1.arriveBay (.entry i) (some c.rootTime)) :=
      h1.trans (.frame (by simp) (listed_congr (by simp)) (by simp))
    exact (h2.trans (bookRuns_moveEntry _ i .transit (e2 := .head) rfl)).trans (bookRuns_setLocation _ i .bay)
  · exact h1.trans (.frame (by simp) (listed_congr (by simp)) (by simp))

/-! ### Takes and feeds -/

theorem bookRuns_orderFeed (s : State) (i : EntryIx) (n : Nat) : BookRuns s (s.orderFeed i n) := by
  unfold State.orderFeed
  split
  · exact .refl s
  · exact (bookRuns_setLocation _ i .feed).framed rfl rfl rfl

theorem bookRuns_failAtTake {s : State} {i : EntryIx} (h : Loose s i) : BookRuns s (s.failAtTake i) :=
  ((bookRuns_finishEntry .failed .invalid h).trans (bookRuns_countTerminal _ i .failed)).trans (.frame rfl rfl rfl)

theorem bookRuns_issueEntry {s : State} {k : Slot} {i : EntryIx} (h : s.entryState i = some .posted) :
    BookRuns s (s.issueEntry k i) := by
  unfold State.issueEntry
  split
  · exact BookRuns.trans (.move fun _ => .issue i (s.latchRecord i .lay) rfl h) (bookRuns_orderFeed _ i _)
  · exact .move fun _ => .issue i (s.latchRecord i .probe) rfl h
  · exact bookRuns_failAtTake (loose_of_state h rfl)

/-- The candidate reads POSTED (R49). -/
theorem candidate_posted {s : State} {k : Slot} {i : EntryIx} (h : s.candidate k = some i) :
    s.entryState i = some .posted := by
  unfold State.candidate at h
  split at h
  · cases h
  · rename_i j hj
    have hposted : s.entryState j = some .posted := by simpa using List.find?_some hj
    split at h
    · split at h
      · cases h
        exact hposted
      · cases h
    · cases h
      exact hposted

theorem bookRuns_takeEntry {s : State} {k : Slot} {i : EntryIx} (seen : Byte) (h : s.entryState i = some .posted) :
    BookRuns s (s.takeEntry k i seen) := by
  unfold State.takeEntry
  split
  · split
    · exact bookRuns_issueEntry h
    · exact .refl s
  · split
    · exact .refl s
    · exact bookRuns_issueEntry h

/-! ### Activation -/

theorem bookRuns_lateBookWrite (s : State) (w : LateWrite) : BookRuns s (s.lateBookWrite w) := by
  unfold State.lateBookWrite
  split
  · split
    · exact bookRuns_finishEntry _ _ (loose_of_state ‹_› rfl)
    · exact bookRuns_finishEntry _ _ (loose_of_state ‹_› rfl)
    · exact .refl s
    · exact bookRuns_discardWrite s
  · split
    · exact .refl s
    all_goals first
      | exact bookRuns_setEntryState _ (loose_of_state ‹_› rfl)
      | exact bookRuns_discardWrite s

theorem bookRuns_lateWrites (k : Slot) : ∀ (ws : List LateWrite) (s : State) (f : CourseFigures),
    BookRuns s (s.lateWrites k ws f).1
  | [], s, _ => .refl s
  | w :: ws, s, f => (bookRuns_lateBookWrite s w).trans (bookRuns_lateWrites k ws (s.lateBookWrite w) (s.lateCount k w f))

theorem bookRuns_closeInvalid {s : State} (k : Slot) (h : s.seq.active = none) : BookRuns s (s.closeInvalid k) := by
  unfold State.closeInvalid
  dsimp only
  refine BookRuns.trans ((((bookRuns_courseWord s k 5 courseInvalidRange (by omega) (by omega)).trans
    (bookRuns_setCourseFigures _ k .zero)).trans (bookRuns_courseWord _ k 14 s.time (by omega) (by omega))).trans
    (bookRuns_courseWord _ k 15 s.time (by omega) (by omega))) ?_
  refine BookRuns.trans ((BookRuns.move fun _ => .course k .closed (by simp) (.inr (by simpa using h))).trans
    (bookRuns_bumpCourse _ k)) ?_
  exact .frame (by simp) (listed_congr (by simp)) (by simp)

theorem bookRuns_openActive {s : State} (k : Slot) (f : CourseFigures) (h : s.seq.active = none) :
    BookRuns s (s.openActive k f) := by
  unfold State.openActive
  extract_lets g s1 q s2
  have h2 : BookRuns s s2 := by
    refine BookRuns.trans ((((bookRuns_courseWord s k 5 courseValid (by omega) (by omega)).trans
      (bookRuns_setCourseFigures _ k g)).trans (bookRuns_courseWord _ k 14 s.time (by omega) (by omega))).trans
      (bookRuns_courseWord _ k 15 0 (by omega) (by omega))) (.move fun _ => ?_)
    exact .activate k (by simpa using h) rfl (listed_congr (by simp [s2, s1])) rfl
  split
  · exact h2.trans (bookRuns_closeCourse rfl)
  · exact h2

theorem bookRuns_activate {s : State} (k : Slot) (late : List LateWrite) (h : s.seq.active = none) :
    BookRuns s (s.activate k late) := by
  unfold State.activate
  split
  · exact (bookRuns_lateWrites k late s _).trans (bookRuns_openActive k _ (by simpa using h))
  · exact (bookRuns_lateWrites k late s _).trans (bookRuns_closeInvalid k (by simpa using h))

theorem bookRuns_writeProfile (s : State) (w : LatchWrite) : BookRuns s (s.writeProfile w) :=
  .word s w.value (plainAddr_header (profileAddr_header w.field)) (profileAddr_fits w.field)

theorem bookRuns_latchProfile (s : State) (ws : List LatchWrite) : BookRuns s (s.latchProfile ws) :=
  BookRuns.trans (t := s.afterWrites ws) (BookRuns.foldl bookRuns_writeProfile ws s)
    (.frame rfl rfl (by simp [State.latchProfile]))

/-! ### Failures while no course is active -/

theorem countTerminal_inactive {s : State} (i : EntryIx) (e : EntryState) (h : s.seq.active = none) :
    s.countTerminal i e = s := by
  unfold State.countTerminal
  rw [h]

theorem cancelIfClosing_inactive {s : State} (i : EntryIx) (h : s.seq.active = none) : s.cancelIfClosing i = s := by
  unfold State.cancelIfClosing
  rw [h]

theorem returnToPosted_inactive {s : State} (i : EntryIx) (h : s.seq.active = none) :
    s.returnToPosted i = s.setEntryState i .posted := cancelIfClosing_inactive i (by simpa using h)

/-- While no course is active, an attempt's failure leaves the course sequencer as it is. -/
theorem attemptFailure_inactive {s : State} (i : EntryIx) (r : Reason) (h : s.seq.active = none) :
    (s.attemptFailure i r).seq = s.seq := by
  unfold State.attemptFailure
  split
  · rfl
  · rename_i rec _
    dsimp only
    split
    · have hstrict : ((s.setAttempt i (rec.attemptsUsed + 1) r).activeStrict) = false := by
        simp [State.activeStrict, h]
      unfold State.retry
      dsimp only
      rw [hstrict, if_neg (by simp), returnToPosted_inactive i (by simpa using h)]
      simp
    · unfold State.failFinally
      rw [countTerminal_inactive _ _ (by simpa using h)]
      simp

theorem failAttempt_inactive {s : State} (i : EntryIx) (r : Reason) (h : s.seq.active = none) :
    (s.failAttempt i r).seq = s.seq := by
  unfold State.failAttempt
  rw [attemptFailure_inactive i r (by simpa using h)]
  simp

theorem recoverLoss_inactive {s : State} (h : s.seq.active = none) : s.recoverLoss.seq = s.seq := by
  unfold State.recoverLoss
  split
  · rfl
  · split
    · rfl
    · exact failAttempt_inactive _ _ h
    · split
      · exact failAttempt_inactive _ _ h
      · rfl

theorem expireLossIfDue_inactive {s : State} (h : s.seq.active = none) : s.expireLossIfDue.seq = s.seq := by
  unfold State.expireLossIfDue
  split
  · split
    · unfold State.enterLost
      rw [recoverLoss_inactive (by simpa using h)]
      simp
    · rfl
  · rfl

/-! ### Every work -/

theorem bookRuns_loadedCal (s : State) (c : Calibration) (v : Vector Word 32) (d : Control) :
    BookRuns s (((s.withCal c).handOver v).withControl d) := .frame (by simp) (listed_congr (by simp)) (by simp)

theorem mayActivate_inactive {s : State} (h : s.mayActivate = true) : s.seq.active = none := by
  simp only [State.mayActivate, Bool.and_eq_true, Option.isNone_iff_eq_none] at h
  exact h.1.2

theorem Work.bookRuns {s u : State} (hu : Work s u) : BookRuns s u := by
  cases hu with
  | nothing => exact .refl s
  | enterHalt _ => exact bookRuns_enterHalt s
  | emergencyAssert _ => exact (bookRuns_requestHalt _).framed rfl rfl rfl
  | boomWord v moving =>
    exact (BookRuns.word s (a := boomWordAddr) v (plainAddr_header (by decide)) (by decide)).trans
      (.frame (by simp) (listed_congr (by simp)) (by simp))
  | storeWord a v h => exact .word s v h.plainAddr.1 h.plainAddr.2
  | openCourse k h => exact .move fun _ => .course k .opened (by simp) (.inl (by simp [h]))
  | emptyCourse k h => exact .move fun _ => .course k .empty (by simp) (.inl (by rcases h with h | h <;> simp [h]))
  | requestClose k _ _ => exact bookRuns_requestClose s k
  | postEntry i => exact bookRuns_postEntry s i
  | freeEntry i => exact bookRuns_freeEntry s i
  | cancelWrite i => exact bookRuns_cancelWrite s i
  | confirmEntry i => exact bookRuns_confirmEntry s i
  | loadCalibration _ =>
    refine BookRuns.trans (t := s.copyImage s.cal.store) ?_ (bookRuns_loadedCal _ _ _ _)
    exact BookRuns.foldl (fun t (j : Fin 32) => .word t _ (plainAddr_image j) (imageAddr_fits j)) _ s
  | takeBytes bs => exact bookRuns_takeBytes s bs
  | enterLost _ => exact bookRuns_enterLost s
  | settleLimit i _ => exact (bookRuns_failAttempt _ i _).framed rfl rfl rfl
  | failAttempt i r => exact bookRuns_failAttempt s i r
  | takeUpProbe => exact bookRuns_takeUpProbe s
  | receiveReply bs => exact bookRuns_receiveReply s bs
  | failTransaction t _ => exact bookRuns_failTransaction s t
  | holdExpires f _ => exact bookRuns_changeStation s _ _
  | feedTimeout f _ => exact (bookRuns_endFeed s).trans (.frame (by simp) (listed_congr (by simp)) (by simp))
  | activation during late h =>
    have hlatched : (s.latchProfile during).seq.active = none := by
      simpa [State.latchProfile] using mayActivate_inactive h
    exact ((bookRuns_latchProfile s during).trans (bookRuns_expireLossIfDue _)).trans
      (bookRuns_activate _ late (by rw [expireLossIfDue_inactive hlatched, hlatched]))
  | takeEntry k i seen _ _ hc => exact bookRuns_takeEntry seen (candidate_posted hc)
  | orderFeed r _ _ => exact bookRuns_orderFeed s _ _
  | matchBrick f _ _ => exact bookRuns_matchBrick s f
  | strayAtRoot _ _ => exact BookRuns.trans (.frame (by simp) (listed_congr (by simp)) (by simp)) (bookRuns_trainFault _)
  | trainFault => exact bookRuns_trainFault s
  | popFront c rest _ _ => exact bookRuns_popFront s c rest
  | strayAtBay _ _ => exact BookRuns.trans (.frame (by simp) (listed_congr (by simp)) (by simp)) (bookRuns_trainFault _)
  | _ => exact .frame (by simp) (listed_congr (by simp)) (by simp)

end Sys2Proof
end

section
/-! SUPPORT. What a chain of moves keeps of the issue list and of the active course (R3, R25, R27, R46), and the two
invariants about them. -/

namespace Sys2Proof

open Sys2Proof.Machine

/-! ### The list -/

/-- Every entry of the list is in flight and stands in it once. -/
def ListHeld (s : State) : Prop := (∀ i ∈ listed s, InFlight s i) ∧ (listed s).Nodup

theorem listHeld_iff (s : State) : ListHeld s ↔ ListInFlight s ∧ DistinctEntries s := by
  simp [ListHeld, ListInFlight, DistinctEntries, listed]

/-- The list of a state is part of that of another, in which the states of its entries read the same. -/
theorem ListHeld.of_sublist {s t : State} (hs : ListHeld s) (hl : (listed t).Sublist (listed s))
    (he : ∀ i ∈ listed t, InFlight s i → InFlight t i) : ListHeld t :=
  ⟨fun i hi => he i hi (hs.1 i (hl.subset hi)), hs.2.sublist hl⟩

theorem ListHeld.congr {s t : State} (hs : ListHeld s) (hl : listed t = listed s)
    (he : ∀ i, t.entryState i = s.entryState i) : ListHeld t :=
  hs.of_sublist (hl ▸ List.Sublist.refl _) fun i _ hi => (inFlight_congr (he i)).2 hi

/-- A posted entry has no record in a list that holds entries in flight alone. -/
theorem ListHeld.not_mem_of_posted {s : State} (hs : ListHeld s) {i : EntryIx} (h : s.entryState i = some .posted) :
    i ∉ listed s := fun hi => not_inFlight_of h rfl (hs.1 i hi)

theorem entryState_of_cells {s t : State} (h : t.book.cells = s.book.cells) (i : EntryIx) :
    t.entryState i = s.entryState i := State.entryState_congr (State.word_congr h _)

theorem courseState_of_cells {s t : State} (h : t.book.cells = s.book.cells) (k : Slot) :
    t.courseState k = s.courseState k := State.courseState_congr (State.word_congr h _)

/-- A state word of a course record written in an update of the record. -/
theorem entryState_courseUpdate {s : State} {k : Slot} {c : CourseState} (hw : BookWf s) (i : EntryIx) :
    ((s.setCourseState k c).bumpCourse k).entryState i = s.entryState i := by
  have hw' : BookWf (s.setCourseState k c) := State.setCourseState_wf s k c hw
  rw [← entryState_setCourseState (k := k) (c := c) hw i]
  exact entryState_setWord hw' (plainAddr_course k 0 (by omega) (by omega)) (by simp) i

theorem courseState_courseUpdate {s : State} {k : Slot} {c : CourseState} (hw : BookWf s) (l : Slot) :
    ((s.setCourseState k c).bumpCourse k).courseState l = if l = k then some c else s.courseState l := by
  have hw' : BookWf (s.setCourseState k c) := State.setCourseState_wf s k c hw
  have hbump : ((s.setCourseState k c).bumpCourse k).courseState l = (s.setCourseState k c).courseState l :=
    courseState_setWord hw' (plainAddr_course k 0 (by omega) (by omega)) (by simp) l
  rw [hbump]
  split
  · subst l
    exact State.courseState_setCourseState s k c hw
  · exact courseState_setCourseState_ne hw ‹_›

theorem BookMove.listHeld (s t : State) (h : BookMove s t) (hw : BookWf s) (hs : ListHeld s) : ListHeld t := by
  cases h with
  | quiet hb hl _ => exact hs.of_sublist hl fun i _ hi => (inFlight_congr (entryState_of_cells hb i)).2 hi
  | word a v hp ha => exact hs.congr (listed_congr (by simp)) (entryState_setWord hw hp ha)
  | entry i e he =>
    have hl : listed (s.setEntryState i e) = listed s := listed_congr (by simp)
    refine hs.of_sublist (hl ▸ List.Sublist.refl _) fun j hj hflight => ?_
    by_cases hji : j = i
    · subst j
      have hin : e.inFlight = true := (he (hl ▸ hj)).resolve_right fun hn => hn hflight
      exact (inFlight_iff _ i).2 ⟨e, State.entryState_setEntryState s i e hw, hin⟩
    · exact (inFlight_congr (entryState_setEntryState_ne hw hji)).2 hflight
  | issue i r hr hp =>
    have hl : listed ((s.setEntryState i .issued).appendRecord r) = listed s ++ [i] := by
      simp [listed, State.appendRecord, hr]
    have hnew : i ∉ listed s := hs.not_mem_of_posted hp
    refine ⟨fun j hj => ?_, ?_⟩
    · rw [hl, List.mem_append, List.mem_singleton] at hj
      rcases hj with hj | rfl
      · have hji : j ≠ i := fun h => hnew (h ▸ hj)
        exact (inFlight_congr (entryState_setEntryState_ne hw hji)).2 (hs.1 j hj)
      · exact (inFlight_iff _ j).2 ⟨.issued, State.entryState_setEntryState s j .issued hw, rfl⟩
    · rw [hl]
      exact List.nodup_append.2 ⟨hs.2, by simp, fun a ha b hb hab => hnew (by simp at hb; rwa [← hb, ← hab])⟩
  | course k c _ _ => exact hs.congr (listed_congr (by simp)) (entryState_setCourseState hw)
  | close k _ hb hl _ => exact hs.congr hl fun i => (entryState_of_cells hb i).trans (entryState_courseUpdate hw i)
  | activate k _ hb hl _ => exact hs.congr hl fun i => (entryState_of_cells hb i).trans (entryState_courseUpdate hw i)

/-! ### The active course -/

theorem OneActiveCourse.congr {s t : State} (hs : OneActiveCourse s) (hc : ∀ k, t.courseState k = s.courseState k)
    (ha : t.seq.active = s.seq.active) : OneActiveCourse t := fun k => by
  rw [hc, ha]
  exact hs k

theorem BookMove.oneActiveCourse (s t : State) (h : BookMove s t) (hw : BookWf s) (hs : OneActiveCourse s) :
    OneActiveCourse t := by
  cases h with
  | quiet hb _ ha => exact hs.congr (courseState_of_cells hb) ha
  | word a v hp ha => exact hs.congr (courseState_setWord hw hp ha) (by simp)
  | entry i e _ => exact hs.congr (courseState_setEntryState hw) (by simp)
  | issue i r _ _ => exact hs.congr (fun k => courseState_setEntryState (i := i) (e := .issued) hw k) (by simp [State.appendRecord])
  | course k c hc h =>
    have hk : s.courseState k ≠ some .active := h.elim id fun hn hk => by simp [(hs k).1 hk] at hn
    intro l
    by_cases hl : l = k
    · subst l
      rw [State.courseState_setCourseState s k c hw]
      simpa [hc] using mt (hs k).2 hk
    · rw [courseState_setCourseState_ne hw hl]
      simpa using hs l
  | close k hk hb _ ha =>
    intro l
    rw [courseState_of_cells hb, courseState_courseUpdate hw, ha]
    split
    · simp
    · rename_i hl
      rw [hs l, hk]
      simpa using Ne.symm hl
  | activate k hk hb _ ha =>
    intro l
    rw [courseState_of_cells hb, courseState_courseUpdate hw, ha]
    split
    · rename_i hl
      simp [hl]
    · rename_i hl
      rw [hs l, hk]
      simpa using Ne.symm hl

/-! ### Resets -/

/-- The byte of a memory in which the entries in flight have been returned to POSTED (R24). -/
theorem Machine.Memory.read_returnInFlight (m : Memory) (x : Nat) :
    m.returnInFlight.read x =
      if 0x0800 ≤ x ∧ x % 64 = 0 ∧ 2 ≤ (m.read x).toNat ∧ (m.read x).toNat ≤ 5 then entryCodeOf .posted
      else m.read x := by
  induction m with
  | nil => simp [Memory.returnInFlight, Memory.read]
  | cons c m ih =>
    obtain ⟨a, b⟩ := c
    unfold Memory.returnInFlight at ih ⊢
    rw [List.map_cons]
    by_cases ha : a = x
    · subst a
      split <;> simp_all [Memory.read]
    · have hrest : Memory.read ((a, b) :: m) x = Memory.read m x := by simp [Memory.read, ha]
      rw [hrest, ← ih]
      split <;> simp [Memory.read, ha]

/-- Below the entries a reset's return of entries changes nothing. -/
theorem Machine.Memory.readWord_returnInFlight {m : Memory} {a : Nat} (h : a + 4 ≤ 0x0800) :
    m.returnInFlight.readWord a = m.readWord a := by
  unfold Memory.readWord
  simp only [Memory.read_returnInFlight]
  rw [if_neg (by omega), if_neg (by omega), if_neg (by omega), if_neg (by omega)]

/-- The book of a state with its entries in flight returned. -/
def entriesReturned (s : State) : State := s.withBook { s.book with cells := s.book.cells.returnInFlight }

theorem bookWf_entriesReturned {s : State} (h : BookWf s) : BookWf (entriesReturned s) := Memory.returnInFlight_wf _ h

theorem courseState_entriesReturned (s : State) (k : Slot) : (entriesReturned s).courseState k = s.courseState k :=
  State.courseState_congr (Memory.readWord_returnInFlight (by unfold courseAddr; omega))

/-- After the ACTIVE record has returned to OPEN, none reads ACTIVE. -/
theorem courseState_reopenActive {s : State} (hw : BookWf s) (hs : OneActiveCourse s) (l : Slot) :
    s.reopenActive.courseState l ≠ some .active := by
  unfold State.reopenActive
  split
  · rename_i h
    rw [Ne, hs l, h]
    simp
  · rename_i k h
    rw [courseState_courseUpdate hw]
    split
    · simp
    · rename_i hl
      rw [Ne, hs l, h]
      simpa using Ne.symm hl

/-- The profile words lie outside every state word. -/
theorem courseState_latchProfile {s : State} (hw : BookWf s) (ws : List LatchWrite) (k : Slot) :
    (s.latchProfile ws).courseState k = s.courseState k := by
  have h := foldl_holds State.writeProfile (fun t => BookWf t ∧ t.courseState k = s.courseState k)
    (fun t w ht => ⟨State.writeProfile_wf t w ht.1,
      (courseState_setWord ht.1 (plainAddr_header (profileAddr_header w.field)) (by simp) k).trans ht.2⟩) ws s ⟨hw, rfl⟩
  exact h.2

theorem bookWf_reopenActive {s : State} (h : BookWf s) : BookWf s.reopenActive := by
  unfold State.reopenActive
  split
  · exact h
  · exact State.bumpCourse_wf _ _ (State.setCourseState_wf s _ _ h)

theorem bookWf_resetBook {s : State} (h : BookWf s) : BookWf s.resetBook := by
  have h1 : BookWf (entriesReturned s).reopenActive := bookWf_reopenActive (bookWf_entriesReturned h)
  exact State.setWord_wf _ layoutVersionAddr 1 (by decide) h1

theorem bookWf_controlReset {s : State} (h : BookWf s) (inputs : InitInputs) : BookWf (s.controlReset inputs) :=
  State.latchProfile_wf _ _ (bookWf_resetBook h)

theorem oneActiveCourse_controlReset {s : State} (hw : BookWf s) (hs : OneActiveCourse s) (inputs : InitInputs) :
    OneActiveCourse (s.controlReset inputs) := by
  have hret : OneActiveCourse (entriesReturned s) := hs.congr (courseState_entriesReturned s) rfl
  have hw1 : BookWf (entriesReturned s).reopenActive := bookWf_reopenActive (bookWf_entriesReturned hw)
  intro k
  have hk : (s.controlReset inputs).courseState k = (entriesReturned s).reopenActive.courseState k :=
    (courseState_latchProfile (s := s.resetBook.withSeq { s.resetBook.seq with active := none, closeMark := false })
      (bookWf_resetBook hw) inputs.during k).trans
      (courseState_setWord hw1 (plainAddr_header (by decide)) (by decide) k)
  have hnone : (s.controlReset inputs).seq.active = none := rfl
  rw [hk, hnone]
  simpa using courseState_reopenActive (bookWf_entriesReturned hw) hret k

theorem bookWf_powerUp (s : State) (e : Bool) (w : StoreWrite) : BookWf (s.powerUp e w) := Memory.powerOn_wf

theorem oneActiveCourse_powerUp (s : State) (e : Bool) (w : StoreWrite) : OneActiveCourse (s.powerUp e w) := by
  intro k
  have hnone : ∀ k, State.reset.courseState k ≠ some .active := by decide
  have hk : (s.powerUp e w).courseState k = State.reset.courseState k := courseState_of_cells rfl k
  rw [hk]
  exact ⟨fun h => absurd h (hnone k), fun h => by cases h⟩

/-! ### Every step -/

theorem ResetWork.bookWf {s u : State} (hu : ResetWork s u) (hw : BookWf s) : BookWf u := by
  cases hu with
  | power inputs e w => exact bookWf_controlReset (bookWf_powerUp s e w) inputs
  | control inputs => exact bookWf_controlReset hw inputs

theorem ResetWork.oneActiveCourse {s u : State} (hu : ResetWork s u) (hw : BookWf s) (hs : OneActiveCourse s) :
    OneActiveCourse u := by
  cases hu with
  | power inputs e w =>
    exact oneActiveCourse_controlReset (bookWf_powerUp s e w) (oneActiveCourse_powerUp s e w) inputs
  | control inputs => exact oneActiveCourse_controlReset hw hs inputs

/-- A reset leaves an empty list. -/
theorem ResetWork.listHeld {s u : State} (hu : ResetWork s u) : ListHeld u := by
  have hnil : listed u = [] := by cases hu <;> simp [listed, State.controlReset, State.resetBlocks]
  simp [ListHeld, hnil]

/-- What the moves on the book keep, the closing of a command and the passing of time keep, and a reset establishes. -/
theorem step_keeps_book {P : State → Prop} (hP : ∀ s t, BookMove s t → BookWf s → P s → P t)
    (hreset : ∀ {s u}, ResetWork s u → BookWf s → P s → P u) {s t : State} (h : step s = .next t) (hw : BookWf s)
    (hs : P s) : BookWf t ∧ P t := by
  have hframe : ∀ s t, t.book.cells = s.book.cells → listed t = listed s → t.seq.active = s.seq.active →
      BookWf s ∧ P s → BookWf t ∧ P t := fun s t hb hl ha hs =>
    ⟨(BookRuns.frame hb hl ha hs.1).1, (BookRuns.frame hb hl ha).keeps hP hs.1 hs.2⟩
  exact step_keeps (P := fun s => BookWf s ∧ P s) (fun s l hs => hframe s (s.withPending l) rfl rfl rfl hs)
    (fun s hs => hframe s s.tick rfl rfl rfl hs) (fun hu hs => ⟨(hu.bookRuns hs.1).1, hu.bookRuns.keeps hP hs.1 hs.2⟩)
    (fun old u hu => hframe u (finish old u) (by simp) (listed_congr (by simp)) (by simp) hu)
    (fun {s u} hu hs => hframe u (finishReset s u) (by simp) (listed_congr (by simp)) (by simp)
      ⟨hu.bookWf hs.1, hreset hu hs.1 hs.2⟩) h ⟨hw, hs⟩

/-- Settles O59: an entry's record leaves the list before the entry leaves flight, and a take appends the record of an
entry that read POSTED, which a list of entries in flight does not hold. -/
theorem stepsKeepTheListInFlight : Obligations.StepsKeepTheListInFlight := fun _ t h hw hl hd =>
  (listHeld_iff t).1
    (step_keeps_book BookMove.listHeld (fun hu _ _ => hu.listHeld) h hw ((listHeld_iff _).2 ⟨hl, hd⟩)).2

/-- Settles O55: only an activation makes a record ACTIVE, while none is, and the closing of the active course names none
again. -/
theorem stepsKeepTheBookAndItsActiveCourse : Obligations.StepsKeepTheBookAndItsActiveCourse := fun _ _ h hw =>
  ⟨(step_keeps_book (P := fun _ => True) (fun _ _ _ _ _ => trivial) (fun _ _ _ => trivial) h hw trivial).1,
    fun ha => (step_keeps_book BookMove.oneActiveCourse ResetWork.oneActiveCourse h hw ha).2⟩

end Sys2Proof
end

section
/-! SUPPORT. The bounds of the part's collections and counts (R18, R46, R67, R111, R113, R123, R131, R133, R135, R145, R165):
which operations leave each of them no larger, and the few that may raise one. -/

namespace Sys2Proof

open Sys2Proof.Machine

/-! ### The bounds, block by block -/

/-- The history and the class window hold no more than R111 and R113 let them. -/
def TrackerFits (t : Tracker) : Prop := t.history.length ≤ 2 ∧ t.window.length ≤ 16

/-- The counts of the trim controller hold at their largest values (R131, R133, R135). -/
def TrimFits (t : Trim) : Prop := t.settleCount ≤ 63 ∧ t.tally ≤ 65535 ∧ t.saturated ≤ 1024

/-- What the gripper record keeps for a LAID entry fits its fields (R133, R154). -/
def GripperFits (g : Gripper) : Prop := g.tally ≤ 65535 ∧ DeviationFits g.deviation

theorem gripperFits_cleared : GripperFits .cleared := by simp [GripperFits, Gripper.cleared, DeviationFits, Pose.zero]

/-- A change that raises no bounded count and places no command. -/
structure BoundsKept (s t : State) : Prop where
  list : t.issue.list.length ≤ s.issue.list.length
  queue : t.train.queue.length ≤ s.train.queue.length
  tracker : TrackerFits s.tracker → TrackerFits t.tracker
  trim : TrimFits s.trim → TrimFits t.trim
  gripper : GripperFits s.head.gripper → GripperFits t.head.gripper
  profile : t.seq.profile = s.seq.profile
  fits : CommandsFit s → CommandsFit t
  ejects : CommandsFit s → ejectsStanding t ≤ ejectsStanding s
  bin : t.head.binCount = s.head.binCount

/-- The bounds hold while `n` ejects have just ended and wait to be counted into the reject bin (R165). -/
structure BoundsHeld (n : Nat) (s : State) : Prop where
  list : s.issue.list.length ≤ 12
  queue : s.train.queue.length ≤ 8
  tracker : TrackerFits s.tracker
  trim : TrimFits s.trim
  gripper : GripperFits s.head.gripper
  profile : ProfileInRange s.seq.profile
  fits : CommandsFit s
  bin : s.head.binCount ≤ 12
  ejects : ejectsStanding s + n ≤ 1
  room : ejectsStanding s + n ≠ 0 → s.head.binCount < 12

theorem boundsHeld_iff (s : State) : BoundsHeld 0 s ↔ WithinBounds s := by
  constructor
  · rintro ⟨h1, h2, ⟨h3, h4⟩, ⟨h5, h6, h7⟩, ⟨h8, h9⟩, h10, h11, h12, h13, h14⟩
    exact ⟨h1, h2, h3, h4, h5, h6, h7, h8, h10, h9, h11, h12, h13, h14⟩
  · rintro ⟨h1, h2, h3, h4, h5, h6, h7, h8, h10, h9, h11, h12, h13, h14⟩
    exact ⟨h1, h2, ⟨h3, h4⟩, ⟨h5, h6, h7⟩, ⟨h8, h9⟩, h10, h11, h12, h13, h14⟩

theorem BoundsKept.held {n : Nat} {s t : State} (h : BoundsKept s t) (hs : BoundsHeld n s) : BoundsHeld n t where
  list := h.list.trans hs.list
  queue := h.queue.trans hs.queue
  tracker := h.tracker hs.tracker
  trim := h.trim hs.trim
  gripper := h.gripper hs.gripper
  profile := h.profile ▸ hs.profile
  fits := h.fits hs.fits
  bin := h.bin ▸ hs.bin
  ejects := (Nat.add_le_add_right (h.ejects hs.fits) n).trans hs.ejects
  room := fun hn => h.bin ▸ hs.room (by have := h.ejects hs.fits; omega)

/-- An eject that waits to be counted may be forgotten. -/
theorem BoundsHeld.weaken {n : Nat} {s : State} (h : BoundsHeld n s) : BoundsHeld 0 s :=
  { h with ejects := by have := h.ejects; omega, room := fun hn => h.room (by omega) }

theorem BoundsKept.refl (s : State) : BoundsKept s s := ⟨le_rfl, le_rfl, id, id, id, rfl, id, fun _ => le_rfl, rfl⟩

theorem BoundsKept.trans {s t u : State} (h1 : BoundsKept s t) (h2 : BoundsKept t u) : BoundsKept s u :=
  ⟨h2.list.trans h1.list, h2.queue.trans h1.queue, h2.tracker ∘ h1.tracker, h2.trim ∘ h1.trim, h2.gripper ∘ h1.gripper,
    h2.profile.trans h1.profile, h2.fits ∘ h1.fits, fun h => (h2.ejects (h1.fits h)).trans (h1.ejects h),
    h2.bin.trans h1.bin⟩

/-- The last change named first. -/
theorem BoundsKept.after {s t u : State} (h2 : BoundsKept t u) (h1 : BoundsKept s t) : BoundsKept s u := h1.trans h2

theorem commandsFit_congr {s t : State} (h : t.line = s.line) : CommandsFit t ↔ CommandsFit s := by
  unfold CommandsFit
  rw [h]

theorem ejectsStanding_congr {s t : State} (h : t.line = s.line) : ejectsStanding t = ejectsStanding s := by
  unfold ejectsStanding
  rw [h]

/-- A change judged by the blocks it touches; the line stands. -/
theorem BoundsKept.of_line {s t : State} (hl : t.issue.list.length ≤ s.issue.list.length)
    (hq : t.train.queue.length ≤ s.train.queue.length) (hr : TrackerFits s.tracker → TrackerFits t.tracker)
    (ht : TrimFits s.trim → TrimFits t.trim) (hg : GripperFits s.head.gripper → GripperFits t.head.gripper)
    (hb : t.head.binCount = s.head.binCount) (hp : t.seq.profile = s.seq.profile) (h : t.line = s.line) :
    BoundsKept s t :=
  ⟨hl, hq, hr, ht, hg, hp, (commandsFit_congr h).2, fun _ => (ejectsStanding_congr h).le, hb⟩

/-- An operation that touches none of the bounded blocks but the list, which it does not lengthen. -/
theorem BoundsKept.of_list {s t : State} (hl : t.issue.list.length ≤ s.issue.list.length)
    (hq : t.train.queue = s.train.queue) (hr : t.tracker = s.tracker) (ht : t.trim = s.trim) (hh : t.head = s.head)
    (hp : t.seq.profile = s.seq.profile) (h : t.line = s.line) : BoundsKept s t :=
  .of_line hl (by rw [hq]) (by rw [hr]; exact id) (by rw [ht]; exact id) (by rw [hh]; exact id) (by rw [hh]) hp h

/-- An operation that touches none of the bounded blocks. -/
theorem BoundsKept.of_eq {s t : State} (hl : t.issue.list = s.issue.list) (hq : t.train.queue = s.train.queue)
    (hr : t.tracker = s.tracker) (ht : t.trim = s.trim) (hh : t.head = s.head) (hp : t.seq.profile = s.seq.profile)
    (h : t.line = s.line) : BoundsKept s t := .of_list (by rw [hl]) hq hr ht hh hp h

theorem BoundsKept.foldl {α : Type} {f : State → α → State} (h : ∀ s x, BoundsKept s (f s x)) :
    ∀ (l : List α) (s : State), BoundsKept s (l.foldl f s)
  | [], s => .refl s
  | x :: l, s => (h s x).trans (BoundsKept.foldl h l (f s x))

/-- A change of the head and the list alone. -/
theorem boundsKept_putHead (s : State) {h : Head} (hb : h.binCount = s.head.binCount)
    (hg : GripperFits s.head.gripper → GripperFits h.gripper) : BoundsKept s (s.putHead h) :=
  .of_line (by simp) (by simp) (by simp) (by simp) (by simpa using hg) (by simpa using hb) (by simp) (by simp)

/-! ### Commands on the line -/

/-- The number of EJECTs outstanding or deferred at a station. -/
def ejectsAt (x : Station) : Nat :=
  (match x.operation with
    | .command c => if isEject c then 1 else 0
    | _ => 0) +
    (if x.deferred.map isEject = some true then 1 else 0)

/-- The number of EJECTs on the line. -/
def ejectSent (t : Option Transaction) : Nat := if (t.map fun x => isEject x.command) = some true then 1 else 0

theorem ejectsStanding_eq (s : State) :
    ejectsStanding s = (s.line.headRequests.filter isEject).length + ejectSent s.line.transaction +
      ejectsAt s.line.gripper := by
  cases h : s.line.gripper.operation <;> simp [ejectsStanding, ejectsAt, ejectSent, h, Nat.add_assoc]

/-- A change of the line alone is judged by the commands it leaves. -/
theorem BoundsKept.of_commands {s t : State} (hl : t.issue.list.length ≤ s.issue.list.length)
    (hq : t.train.queue = s.train.queue) (hr : t.tracker = s.tracker) (ht : t.trim = s.trim) (hh : t.head = s.head)
    (hp : t.seq.profile = s.seq.profile) (hf : CommandsFit s → CommandsFit t)
    (he : CommandsFit s → ejectsStanding t ≤ ejectsStanding s) : BoundsKept s t :=
  ⟨hl, by rw [hq], by rw [hr]; exact id, by rw [ht]; exact id, by rw [hh]; exact id, hp, hf, he, by rw [hh]⟩

theorem at_setStation (s : State) (p q : Position) (x : Station) :
    (s.setStation p x).line.at q = if q = p then x else s.line.at q := by
  cases p <;> cases q <;> simp [State.setStation, StationLine.put, StationLine.at]

theorem gripper_setStation (s : State) (p : Position) (x : Station) :
    (s.setStation p x).line.gripper = if p = .gripper then x else s.line.gripper := by
  cases p <;> simp [State.setStation, StationLine.put]

/-- The commands at one station fit its position. -/
def StationFits (p : Position) (x : Station) : Prop :=
  (∀ c, x.operation = .command c → fitsPosition p c = true) ∧ ∀ c, x.deferred = some c → fitsPosition p c = true

theorem CommandsFit.station {s : State} (h : CommandsFit s) (p : Position) : StationFits p (s.line.at p) :=
  ⟨fun c => h.2.2.1 p c, fun c => h.2.2.2 p c⟩

/-- A station record that fits may be put where the other commands do. -/
theorem commandsFit_setStation {s : State} {p : Position} {x : Station} (hs : CommandsFit s) (hx : StationFits p x) :
    CommandsFit (s.setStation p x) := by
  obtain ⟨hreq, htx, hop, hdef⟩ := hs
  refine ⟨by simpa using hreq, by simpa using htx, fun q c hc => ?_, fun q c hc => ?_⟩ <;> rw [at_setStation] at hc <;>
    split at hc
  · subst q
    exact hx.1 c hc
  · exact hop q c hc
  · subst q
    exact hx.2 c hc
  · exact hdef q c hc

/-- A station record with no more ejects than before leaves no more standing. -/
theorem ejectsStanding_setStation {s : State} {p : Position} {x : Station}
    (hx : p = .gripper → ejectsAt x ≤ ejectsAt s.line.gripper) : ejectsStanding (s.setStation p x) ≤ ejectsStanding s := by
  rw [ejectsStanding_eq, ejectsStanding_eq, gripper_setStation]
  simp only [State.setStation_frame]
  split
  · exact Nat.add_le_add_left (hx ‹_›) _
  · exact le_rfl

/-- A station record replaced by one that fits and has no more ejects. -/
theorem boundsKept_setStation (s : State) (p : Position) {x : Station} (hx : CommandsFit s → StationFits p x)
    (he : CommandsFit s → p = .gripper → ejectsAt x ≤ ejectsAt (s.line.at p)) : BoundsKept s (s.setStation p x) :=
  .of_commands (by simp) (by simp) (by simp) (by simp) (by simp) (by simp) (fun h => commandsFit_setStation h (hx h))
    fun h => ejectsStanding_setStation fun hp => by
      have := he h hp
      subst hp
      exact this

/-- A station record with the same commands. -/
theorem boundsKept_setStation_same (s : State) (p : Position) {x : Station} (ho : x.operation = (s.line.at p).operation)
    (hd : x.deferred = (s.line.at p).deferred) : BoundsKept s (s.setStation p x) :=
  boundsKept_setStation s p (fun h => by simpa [StationFits, ho, hd] using h.station p)
    fun _ _ => by simp [ejectsAt, ho, hd]

/-- A station record whose operation has ended. -/
theorem boundsKept_setStation_ended (s : State) (p : Position) {x : Station} (ho : x.operation = .none)
    (hd : x.deferred = (s.line.at p).deferred ∨ x.deferred = none) : BoundsKept s (s.setStation p x) := by
  refine boundsKept_setStation s p (fun h => ⟨by simp [ho], fun c hc => ?_⟩) fun _ _ => ?_
  · rcases hd with hd | hd
    · exact (h.station p).2 c (hd ▸ hc)
    · simp [hd] at hc
  · unfold ejectsAt
    rcases hd with hd | hd <;> simp [ho, hd]

theorem boundsKept_withdrawHead (s : State) (c : StationCommand) : BoundsKept s (s.withdrawHead c) := by
  refine .of_commands (by simp) (by simp) (by simp) (by simp) (by simp) (by simp) (fun h => ?_) fun _ => ?_
  · obtain ⟨hreq, hrest⟩ := h
    exact ⟨fun d hd => hreq d (List.mem_of_mem_filter hd), hrest⟩
  · rw [ejectsStanding_eq, ejectsStanding_eq]
    have hsub : ((s.line.headRequests.filter fun d => d ≠ c).filter isEject).length ≤
        (s.line.headRequests.filter isEject).length :=
      (List.filter_sublist.filter isEject).length_le
    simp only [State.withdrawHead, State.withLine_line]
    omega

theorem boundsKept_dropDeferredFeed (s : State) (f : Feeder) : BoundsKept s (s.dropDeferredFeed f) := by
  unfold State.dropDeferredFeed
  dsimp only
  split
  · refine boundsKept_setStation s _ (fun h => ⟨(h.station (feederPosition f)).1, by simp⟩) fun _ hp => ?_
    cases f <;> cases hp
  · exact .refl s

/-! ### Feeds and bricks -/

theorem boundsKept_clearFeed (s : State) : BoundsKept s s.clearFeed := by
  unfold State.clearFeed
  split
  · exact .refl s
  · exact BoundsKept.trans (t := s.withIssue { s.issue with feed := none }) (.of_eq rfl rfl rfl rfl rfl rfl rfl)
      (boundsKept_dropDeferredFeed _ _)

theorem boundsKept_setLocation (s : State) (i : EntryIx) (l : Location) : BoundsKept s (s.setLocation i l) :=
  .of_list (by simp [State.setLocation]) (by simp) (by simp) (by simp) (by simp) (by simp) (by simp)

theorem boundsKept_endFeed (s : State) : BoundsKept s s.endFeed := by
  unfold State.endFeed
  split
  · exact .refl s
  · split
    · exact boundsKept_clearFeed s
    · exact (boundsKept_clearFeed s).trans (boundsKept_setLocation _ _ _)

theorem boundsKept_voidFeed (s : State) : BoundsKept s s.voidFeed := by
  unfold State.voidFeed
  split
  · exact .refl s
  · split
    · exact boundsKept_clearFeed s
    all_goals exact .of_eq rfl rfl rfl rfl rfl rfl rfl

theorem boundsKept_removeRecord (s : State) (i : EntryIx) : BoundsKept s (s.removeRecord i) :=
  .of_list (by simpa [State.removeRecord] using List.length_filter_le _ _) (by simp) (by simp) (by simp) (by simp)
    (by simp) (by simp)

theorem gripperFits_afterBayVoid {g : Gripper} (granted : Bool) (h : GripperFits g) :
    GripperFits (g.afterBayVoid granted) := by
  unfold Gripper.afterBayVoid
  split
  · split
    · exact h
    · exact gripperFits_cleared
  · exact h

theorem gripperFits_afterVoid {g : Gripper} (r p : Bool) (h : GripperFits g) : GripperFits (g.afterVoid r p) := by
  unfold Gripper.afterVoid
  dsimp only
  split
  · split
    · exact h
    · exact gripperFits_cleared
  · split <;> exact h
  · split
    · exact h
    · exact gripperFits_cleared
  all_goals exact h

theorem boundsKept_voidBay (s : State) : BoundsKept s s.voidBay := by
  unfold State.voidBay
  extract_lets x s1 s2
  have h1 : BoundsKept s s1 := boundsKept_putHead s rfl (gripperFits_afterBayVoid _)
  have h2 : BoundsKept s s2 := by
    simp only [s2]
    split
    · exact h1.trans (boundsKept_withdrawHead _ _)
    · exact h1
  split
  · exact h2.trans (boundsKept_withdrawHead _ _)
  · exact h2

theorem trimFits_endAttempt (s : State) : TrimFits s.endAttempt.trim := by simp [TrimFits, State.endAttempt]

theorem boundsKept_endAttempt (s : State) : BoundsKept s s.endAttempt :=
  .of_line (by simp) (by simp) (by simp) (fun _ => trimFits_endAttempt s) (fun h => by simpa [State.endAttempt] using h)
    (by simp) (by simp) (by simp)

theorem boundsKept_voidGripper (s : State) : BoundsKept s s.voidGripper := by
  unfold State.voidGripper
  extract_lets s1 x s2
  have h2 : BoundsKept s s2 := by
    refine (boundsKept_endAttempt s).trans (boundsKept_putHead s1 rfl fun h => gripperFits_afterVoid _ _ ?_)
    simpa [s1, State.endAttempt] using h
  clear_value s2
  split
  · exact h2.trans (boundsKept_withdrawHead _ _)
  · exact h2.trans (boundsKept_withdrawHead _ _)
  all_goals exact h2

theorem boundsKept_voidAtHead (s : State) (i : EntryIx) : BoundsKept s (s.voidAtHead i) := by
  unfold State.voidAtHead
  split
  · exact boundsKept_voidGripper s
  · split
    · exact boundsKept_voidBay s
    · exact .refl s

theorem boundsKept_voidCarrier (s : State) (i : EntryIx) : BoundsKept s (s.voidCarrier i) :=
  .of_line (by simp) (by simp [State.voidCarrier]) (by simp) (by simp) (by simp) (by simp) (by simp) (by simp)

theorem boundsKept_voidBrick (s : State) (r : IssueRecord) : BoundsKept s (s.voidBrick r) := by
  unfold State.voidBrick
  split
  · exact .refl s
  · exact boundsKept_voidFeed s
  · exact boundsKept_voidCarrier s _
  all_goals exact boundsKept_voidAtHead s _

theorem boundsKept_returnToPosted (s : State) (i : EntryIx) : BoundsKept s (s.returnToPosted i) :=
  .of_eq (by simp) (by simp) (by simp) (by simp) (by simp) (by simp) (by simp)

theorem boundsKept_displace (s : State) (r : IssueRecord) : BoundsKept s (s.displace r) :=
  ((boundsKept_removeRecord s r.entry).trans (boundsKept_returnToPosted _ r.entry)).trans (boundsKept_voidBrick _ r)

theorem boundsKept_showTrain (s : State) : BoundsKept s s.showTrain := .of_eq rfl rfl rfl rfl rfl rfl rfl

theorem boundsKept_retry (s : State) (i : EntryIx) : BoundsKept s (s.retry i) := by
  have h1 := (boundsKept_removeRecord s i).trans (boundsKept_returnToPosted _ i)
  unfold State.retry
  dsimp only
  split
  · exact (h1.trans (BoundsKept.foldl boundsKept_displace _ _)).trans (boundsKept_showTrain _)
  · exact h1

theorem boundsKept_failFinally (s : State) (i : EntryIx) (r : Reason) : BoundsKept s (s.failFinally i r) :=
  (boundsKept_removeRecord s i).trans
    (.of_eq (by simp [State.failFinally]) (by simp [State.failFinally]) (by simp [State.failFinally])
      (by simp [State.failFinally]) (by simp [State.failFinally]) (by simp [State.failFinally])
      (by simp [State.failFinally]))

theorem boundsKept_setAttempt (s : State) (i : EntryIx) (n : Nat) (r : Reason) : BoundsKept s (s.setAttempt i n r) :=
  .of_eq (by simp) (by simp) (by simp) (by simp) (by simp) (by simp) (by simp)

theorem boundsKept_attemptFailure (s : State) (i : EntryIx) (r : Reason) : BoundsKept s (s.attemptFailure i r) := by
  unfold State.attemptFailure
  split
  · exact .refl s
  · rename_i rec _
    dsimp only
    split
    · exact (boundsKept_setAttempt s i (rec.attemptsUsed + 1) r).trans (boundsKept_retry _ i)
    · exact (boundsKept_setAttempt s i (rec.attemptsUsed + 1) r).trans (boundsKept_failFinally _ i r)

theorem boundsKept_failAttempt (s : State) (i : EntryIx) (r : Reason) : BoundsKept s (s.failAttempt i r) :=
  (boundsKept_voidAtHead s i).trans (boundsKept_attemptFailure _ i r)

theorem boundsKept_failContent (s : State) (c : Content) : BoundsKept s (s.failContent c) := by
  unfold State.failContent
  split
  · exact boundsKept_attemptFailure s _ _
  · exact .refl s

/-! ### HALT -/

theorem boundsKept_voidPlaces (s : State) : BoundsKept s s.voidPlaces := by
  unfold State.voidPlaces
  extract_lets s1
  have h1 : BoundsKept s s1 := by
    simp only [s1]
    split
    · exact boundsKept_voidGripper s
    · exact .refl s
  split
  · exact h1.trans (boundsKept_voidBay s1)
  · exact h1

theorem boundsKept_voidTrain (s : State) : BoundsKept s s.voidTrain :=
  .of_line (by simp) (by simp [State.voidTrain]) (by simp) (by simp) (by simp) (by simp) (by simp) (by simp)

theorem boundsKept_enterHalt (s : State) : BoundsKept s s.enterHalt := by
  unfold State.enterHalt
  refine BoundsKept.trans (t := (s.withControl { s.control with state := .halt, haltHeld := false }).raise .halted)
    (.of_eq rfl rfl rfl rfl rfl rfl rfl) ?_
  generalize (s.withControl { s.control with state := .halt, haltHeld := false }).raise .halted = t
  exact (((BoundsKept.foldl boundsKept_displace t.issue.list t).trans (boundsKept_voidFeed t.emptyList)).trans
    (boundsKept_voidPlaces _)).trans (boundsKept_voidTrain _)

theorem boundsKept_requestHalt (s : State) : BoundsKept s s.requestHalt := by
  unfold State.requestHalt
  split
  · exact .of_eq rfl rfl rfl rfl rfl rfl rfl
  · exact .refl s
  all_goals exact boundsKept_enterHalt s

theorem boundsKept_raise (s : State) (c : Cause) : BoundsKept s (s.raise c) := .of_eq rfl rfl rfl rfl rfl rfl rfl

theorem boundsKept_trainFault (s : State) : BoundsKept s s.trainFault :=
  (boundsKept_raise s .trainFault).trans (boundsKept_requestHalt _)

/-! ### Loss of tracking -/

theorem boundsKept_recoverLoss (s : State) : BoundsKept s s.recoverLoss := by
  unfold State.recoverLoss
  split
  · exact .refl s
  · split
    · exact .refl s
    · exact boundsKept_failAttempt s _ _
    · split
      · exact boundsKept_failAttempt s _ _
      · exact .of_line le_rfl le_rfl id id id rfl rfl rfl

theorem boundsKept_recoverIfLost (s : State) : BoundsKept s s.recoverIfLost := by
  unfold State.recoverIfLost
  split
  · exact boundsKept_recoverLoss s
  · exact .refl s

theorem boundsKept_zeroSettle (s : State) : BoundsKept s s.zeroSettle :=
  .of_line (by simp) (by simp) (by simp) (fun ⟨_, h⟩ => ⟨by simp [State.zeroSettle], h⟩) (by simp) (by simp) (by simp) (by simp)

theorem boundsKept_enterLost (s : State) : BoundsKept s s.enterLost := by
  unfold State.enterLost
  refine BoundsKept.trans (t := (s.withTracker { s.tracker with
    state := .lost, history := [], window := [], lossTimer := none }).showTracking.raise .trackLost) ?_
    ((boundsKept_zeroSettle _).trans (boundsKept_recoverLoss _))
  exact .of_line le_rfl le_rfl (fun _ => ⟨by simp, by simp⟩) id id rfl rfl rfl

theorem boundsKept_expireLossIfDue (s : State) : BoundsKept s s.expireLossIfDue := by
  unfold State.expireLossIfDue
  split
  · split
    · exact boundsKept_enterLost s
    · exact .refl s
  · exact .refl s

end Sys2Proof
end

section
/-! SUPPORT. The bounds through samples, head operations, replies, requests and every other work, and the invariant about
them. -/

namespace Sys2Proof

open Sys2Proof.Machine

/-- A change that keeps the bounds, however many ejects wait to be counted. -/
def KeepsBounds (s t : State) : Prop := ∀ n, BoundsHeld n s → BoundsHeld n t

theorem BoundsKept.keeps {s t : State} (h : BoundsKept s t) : KeepsBounds s t := fun _ hs => h.held hs

theorem KeepsBounds.refl (s : State) : KeepsBounds s s := fun _ h => h

theorem KeepsBounds.trans {s t u : State} (h1 : KeepsBounds s t) (h2 : KeepsBounds t u) : KeepsBounds s u := fun n h =>
  h2 n (h1 n h)

theorem KeepsBounds.foldl {α : Type} {f : State → α → State} (h : ∀ s x, KeepsBounds s (f s x)) :
    ∀ (l : List α) (s : State), KeepsBounds s (l.foldl f s)
  | [], s => .refl s
  | x :: l, s => (h s x).trans (KeepsBounds.foldl h l (f s x))

/-! ### Samples -/

theorem length_voteHistory {h : List Sample} (cls : SampleClass) (c : Sample) (hh : h.length ≤ 2) :
    (voteHistory h cls c).length ≤ 2 := by
  unfold voteHistory
  split
  · split <;> simp
  · rename_i hne
    match h, hne with
    | [], _ => simp
    | [_], _ => simp
    | [a, b], hne => exact absurd rfl (hne a b)
    | a :: b :: c :: l, _ => simp at hh

theorem length_appendWindow {w : List SampleClass} (c : SampleClass) (hw : w.length ≤ 16) :
    (appendWindow w c).length ≤ 16 := by
  unfold appendWindow windowMax
  split
  · exact hw
  · simp only [List.length_drop, List.length_append, List.length_singleton]
    omega

theorem trackerFits_takeSample {t : Tracker} (p : Profile) (smp : Sample) (h : TrackerFits t) :
    TrackerFits (t.takeSample p smp) := ⟨length_voteHistory _ _ h.1, length_appendWindow _ h.2⟩

theorem Machine.Trim.moveSetPoint_counts (t : Trim) (sp : Pose) :
    (t.moveSetPoint sp).settleCount = t.settleCount ∧ (t.moveSetPoint sp).tally = t.tally ∧
      (t.moveSetPoint sp).saturated = t.saturated := by
  unfold Trim.moveSetPoint Trim.wantFrame
  split
  · simp
  · split <;> simp [Trim.beginFrame]

theorem trimFits_moveSetPoint {t : Trim} (sp : Pose) (h : TrimFits t) : TrimFits (t.moveSetPoint sp) := by
  simpa [TrimFits, t.moveSetPoint_counts sp] using h

theorem boundsKept_withTrim (s : State) {x : Trim} (h : TrimFits s.trim → TrimFits x) : BoundsKept s (s.withTrim x) :=
  .of_line le_rfl le_rfl id h id rfl rfl rfl

theorem boundsKept_showReach (s : State) : BoundsKept s s.showReach := .of_eq rfl rfl rfl rfl rfl rfl rfl

theorem boundsKept_testSaturation (s : State) (a : Attempt) (e : Pose) : BoundsKept s (s.testSaturation a e) := by
  unfold State.testSaturation
  split
  · dsimp only
    have h1 : BoundsKept s (s.withTrim { s.trim with saturated := min 1024 (s.trim.saturated + 1) }) :=
      boundsKept_withTrim s fun h => ⟨h.1, h.2.1, Nat.min_le_left _ _⟩
    split
    · exact ((boundsKept_raise _ _).after (boundsKept_showReach _)).after (h1.trans (boundsKept_withTrim _ id))
    · exact h1
  · exact (boundsKept_showReach _).after (boundsKept_withTrim s fun h => ⟨h.1, h.2.1, Nat.zero_le _⟩)

theorem natAbs_of_magnitude {x b : Int} (h : magnitude x ≤ b) : -b ≤ x ∧ x ≤ b := by
  unfold magnitude at h
  split at h <;> omega

/-- A residual within the latched tolerances fits the deviation fields (R18, R131, R133). -/
theorem deviationFits_of_tolerance {p : Profile} {d : Pose} (hp : ProfileInRange p) (h : withinTolerance p .lay d = true) :
    DeviationFits d := by
  simp only [withinTolerance, reduceCtorEq, false_or, decide_eq_true_eq] at h
  obtain ⟨hx, hy, hz, hyaw⟩ := h
  obtain ⟨hxy, hzt, hyawt, -⟩ := hp
  have hx' := natAbs_of_magnitude hx
  have hy' := natAbs_of_magnitude hy
  have hz' := natAbs_of_magnitude hz
  have hyaw' := natAbs_of_magnitude hyaw
  unfold DeviationFits
  omega

theorem keepsBounds_decideRelease (s : State) (a : Attempt) (d : Pose) (hd : ProfileInRange s.seq.profile → DeviationFits d) :
    KeepsBounds s (s.decideRelease a d) := fun _ hs =>
  BoundsKept.held (s := s) (.of_line le_rfl le_rfl id id (fun _ => ⟨hs.trim.2.1, hd hs.profile⟩) rfl rfl rfl) hs

theorem keepsBounds_decideProbe (s : State) (a : Attempt) (g z : Int) : KeepsBounds s (s.decideProbe a g z) := fun _ hs =>
  BoundsKept.held (s := s) (.of_line le_rfl le_rfl id id (fun hg => ⟨hs.trim.2.1, hg.2⟩) rfl rfl rfl) hs

theorem keepsBounds_takeDecision (s : State) (a : Attempt) (raised : Bool) (g e : Pose)
    (hr : raised = true → withinTolerance s.seq.profile a.kind (poseSub s.trim.setPoint e) = true) :
    KeepsBounds s (s.takeDecision a raised g e) := by
  unfold State.takeDecision
  split
  · rename_i hdec
    have hraised : raised = true := by
      simp only [Bool.and_eq_true] at hdec
      exact hdec.1.1
    split
    · rename_i hk
      split
      · unfold State.waitConfirm
        split
        · exact .refl s
        · refine BoundsKept.keeps ?_
          exact (boundsKept_raise _ _).after (boundsKept_withTrim s id)
      · exact keepsBounds_decideRelease s a _ fun hp => deviationFits_of_tolerance hp (hk ▸ hr hraised)
    · exact keepsBounds_decideProbe s a _ _
  · exact .refl s

@[simp] theorem testSaturation_setPoint (s : State) (a : Attempt) (e : Pose) :
    (s.testSaturation a e).trim.setPoint = s.trim.setPoint ∧ (s.testSaturation a e).seq = s.seq := by
  unfold State.testSaturation
  split
  · dsimp only
    split <;> simp
  · simp

theorem keepsBounds_workAttempt (s : State) (a : Attempt) (g e : Pose) : KeepsBounds s (s.workAttempt a g e) := by
  unfold State.workAttempt
  extract_lets raised tally x s1
  have h1 : BoundsKept s s1 := by
    refine boundsKept_withTrim s fun h => ⟨?_, ?_, h.2.2⟩
    · simp only [State.countSettle]
      split
      · exact Nat.min_le_left _ _
      · exact Nat.zero_le _
    · simp only [tally]
      split
      · exact h.2.1
      · exact Nat.min_le_left _ _
  refine (h1.trans (boundsKept_testSaturation s1 a e)).keeps.trans (keepsBounds_takeDecision _ a raised g e fun hr => ?_)
  have htol : withinTolerance s.seq.profile a.kind (poseSub s.trim.setPoint e) = true := by
    simp only [raised, Bool.and_eq_true] at hr
    exact hr.2
  simpa [s1] using htol

theorem keepsBounds_usableSample (s : State) (h : Pose) : KeepsBounds s (s.usableSample h) := by
  unfold State.usableSample
  dsimp only
  have h1 : BoundsKept s (s.withTrim (s.trim.moveSetPoint (s.nextSetPoint h))) :=
    boundsKept_withTrim s (trimFits_moveSetPoint _)
  split
  · exact h1.keeps
  · exact h1.keeps.trans (keepsBounds_workAttempt _ _ _ _)

theorem boundsKept_leaveLost (s : State) : BoundsKept s s.leaveLost := by
  unfold State.leaveLost
  split
  · exact .of_line le_rfl le_rfl id id id rfl rfl rfl
  · exact .refl s

theorem boundsKept_withTracker (s : State) {x : Tracker} (h : TrackerFits s.tracker → TrackerFits x) :
    BoundsKept s (s.withTracker x).showTracking := .of_line le_rfl le_rfl h id id rfl rfl rfl

theorem keepsBounds_takeSample (s : State) (h : Pose) : KeepsBounds s (s.takeSample h) := by
  unfold State.takeSample
  extract_lets s1 smp c t s2 s3 s4
  have h2 : BoundsKept s s2 :=
    (boundsKept_leaveLost s).trans (boundsKept_withTracker s1 (trackerFits_takeSample _ _))
  have h3 : BoundsKept s s3 := by
    simp only [s3]
    split
    · exact h2.trans (boundsKept_raise _ _)
    · exact h2
  have h4 : BoundsKept s s4 := by
    simp only [s4]
    split
    · exact h3.trans (boundsKept_zeroSettle _)
    · exact h3
  split
  · exact (h4.trans (boundsKept_zeroSettle _)).keeps
  · split
    · exact h4.keeps.trans (keepsBounds_usableSample s4 h)
    · exact h4.keeps

theorem trackerFits_noteSequence {t : Tracker} (q : Byte) (h : TrackerFits t) : TrackerFits (t.noteSequence q) := by
  unfold Tracker.noteSequence
  split <;> exact h

theorem keepsBounds_takeFrame (s : State) (bs : List Byte) : KeepsBounds s (s.takeFrame bs) := by
  unfold State.takeFrame
  split
  · exact (boundsKept_withTracker s (x := { s.tracker with
      malformed := s.tracker.malformed + 1, collected := (bs.drop 1).dropWhile fun b => b ≠ syncByte }) id).keeps
  · rename_i q _
    exact (boundsKept_withTracker s (x := { s.tracker.noteSequence q with
      nofix := (s.tracker.noteSequence q).nofix + 1, collected := [] }) (trackerFits_noteSequence q)).keeps
  · rename_i q h _
    refine KeepsBounds.trans (t := s.withTracker { s.tracker.noteSequence q with collected := [] }) ?_
      (keepsBounds_takeSample _ h)
    refine BoundsKept.keeps ?_
    exact .of_line le_rfl le_rfl (trackerFits_noteSequence q) id id rfl rfl rfl

theorem keepsBounds_takeByte (s : State) (b : Byte) : KeepsBounds s (s.takeByte b) := by
  unfold State.takeByte
  split
  · split
    · refine BoundsKept.keeps ?_
      exact .of_line le_rfl le_rfl id id id rfl rfl rfl
    · exact .refl s
  · split
    · exact keepsBounds_takeFrame s _
    · refine BoundsKept.keeps ?_
      exact .of_line le_rfl le_rfl id id id rfl rfl rfl

theorem keepsBounds_takeBytes (s : State) (bs : List Byte) : KeepsBounds s (s.takeBytes bs) := by
  unfold State.takeBytes
  split
  · exact .foldl keepsBounds_takeByte bs s
  · exact .refl s

theorem boundsKept_byteGap (s : State) : BoundsKept s s.byteGap := by
  unfold State.byteGap
  split
  · exact .refl s
  · exact boundsKept_withTracker s id

/-! ### Head operations -/

theorem boundsKept_spreadDone (s : State) : BoundsKept s s.spreadDone := by
  unfold State.spreadDone
  dsimp only
  split <;> exact boundsKept_putHead s rfl id

theorem trimFits_beginAttempt (t : Trim) (r : IssueRecord) (z : Int) : TrimFits (t.beginAttempt r z) := by
  simp [TrimFits, Trim.beginAttempt]

theorem boundsKept_handOverAttempt (s : State) (i : EntryIx) (z : Int) : BoundsKept s (s.handOverAttempt i z) := by
  unfold State.handOverAttempt
  split
  · exact .refl s
  · exact (boundsKept_withTrim s fun _ => trimFits_beginAttempt _ _ _).trans (boundsKept_showReach _)

/-- The gripper takes a brick with nothing recorded of it yet (R151). -/
theorem boundsKept_moveToGripper (s : State) (c : Content) : BoundsKept s (s.moveToGripper c) :=
  .of_line le_rfl le_rfl id id (fun _ => gripperFits_cleared) rfl rfl rfl

theorem boundsKept_stampTransit (s : State) (t : Option Word) : BoundsKept s (s.stampTransit t) := by
  unfold State.stampTransit
  split
  · exact .refl s
  · exact .of_line le_rfl le_rfl id id id rfl rfl rfl

theorem boundsKept_showHead (s : State) : BoundsKept s s.showHead := .of_eq rfl rfl rfl rfl rfl rfl rfl

theorem boundsKept_takeDone (s : State) : BoundsKept s s.takeDone := by
  unfold State.takeDone
  dsimp only
  split
  · rename_i i _
    have hword : BoundsKept (s.moveToGripper (.entry i))
        (((s.moveToGripper (.entry i)).setApplied i s.activeZc).moveEntry i .head .placing) :=
      .of_eq (by simp) (by simp) (by simp) (by simp) (by simp) (by simp) (by simp)
    exact ((((((boundsKept_moveToGripper s (.entry i)).trans hword).trans (boundsKept_setLocation _ i .gripper)).trans
      (boundsKept_handOverAttempt _ i s.activeZc)).trans (boundsKept_stampTransit _ s.head.bay.rootTime)).trans
      (boundsKept_showHead _)).trans (boundsKept_recoverIfLost _)
  · exact ((boundsKept_moveToGripper s _).trans (boundsKept_stampTransit _ s.head.bay.rootTime)).trans
      (boundsKept_showHead _)

theorem boundsKept_clearGripper (s : State) : BoundsKept s s.clearGripper :=
  (boundsKept_endAttempt s).trans (boundsKept_putHead _ rfl fun _ => gripperFits_cleared)

theorem boundsKept_releaseDone (s : State) : BoundsKept s s.releaseDone := by
  unfold State.releaseDone
  dsimp only
  split
  · rename_i i _
    have hword : BoundsKept s ((((s.setDeviation i s.head.gripper.deviation).setSamples i
        s.head.gripper.tally).clearProbeFields i).finishEntry i .laid .done) :=
      .of_eq (by simp) (by simp) (by simp) (by simp) (by simp) (by simp) (by simp)
    refine ((hword.trans (boundsKept_removeRecord _ i)).trans ?_).trans (boundsKept_clearGripper _)
    exact .of_eq (by simp) (by simp) (by simp) (by simp) (by simp) (by simp) (by simp)
  all_goals exact boundsKept_putHead s rfl fun _ => gripperFits_cleared

theorem boundsKept_probeDone (s : State) (n : Nat) : BoundsKept s (s.probeDone n) := by
  unfold State.probeDone
  dsimp only
  split
  · rename_i i a smp _ _ _
    have hword : BoundsKept s (((((s.setProbe i (measuredTop smp n) a.target.z).setSamples i
        s.head.gripper.tally).clearDeviation i).setApplied i 0).finishEntry i .probed .done) :=
      .of_eq (by simp) (by simp) (by simp) (by simp) (by simp) (by simp) (by simp)
    refine ((hword.trans (boundsKept_removeRecord _ i)).trans ?_).trans (boundsKept_clearGripper _)
    exact .of_eq (by simp) (by simp) (by simp) (by simp) (by simp) (by simp) (by simp)
  · exact boundsKept_clearGripper s

/-- An eject that has ended is counted into the bin, which had room for it (R165, R166). -/
theorem boundsHeld_countEject {s : State} (hs : BoundsHeld 1 s) : BoundsHeld 0 s.countEject := by
  have hroom : s.head.binCount < 12 := hs.room (by omega)
  have hnone : ejectsStanding s = 0 := by have := hs.ejects; omega
  have hcount : ejectsStanding (s.withHead { s.head with binCount := s.head.binCount + 1 }) = 0 :=
    (ejectsStanding_congr rfl).trans hnone
  have h1 : BoundsHeld 0 (s.withHead { s.head with binCount := s.head.binCount + 1 }) :=
    { list := hs.list, queue := hs.queue, tracker := hs.tracker, trim := hs.trim, gripper := hs.gripper
      profile := hs.profile, fits := hs.fits, bin := hroom
      ejects := by rw [hcount]; omega
      room := fun h => absurd hcount h }
  unfold State.countEject
  dsimp only
  split
  · exact (boundsKept_raise _ _).held h1
  · exact h1

theorem boundsHeld_ejectDone {s : State} (p : HeadPlace) (hs : BoundsHeld 1 s) : BoundsHeld 0 (s.ejectDone p) := by
  have h1 := boundsHeld_countEject hs
  refine BoundsKept.held (s := s.countEject) ?_ h1
  cases p with
  | bay => exact boundsKept_putHead _ rfl id
  | gripper => exact boundsKept_putHead _ rfl fun _ => gripperFits_cleared

/-- How many ejects a completed command is. -/
def ejectCount (c : StationCommand) : Nat := if isEject c then 1 else 0

theorem boundsHeld_operationDone {s : State} (c : StationCommand) (n : Nat) (hs : BoundsHeld (ejectCount c) s) :
    BoundsHeld 0 (s.operationDone c n) := by
  cases c with
  | spread => exact (boundsKept_spreadDone s).held hs
  | take => exact (boundsKept_takeDone s).held hs
  | release => exact (boundsKept_releaseDone s).held hs
  | probe => exact (boundsKept_probeDone s n).held hs
  | eject p => exact boundsHeld_ejectDone p hs
  | query => exact hs
  | feed _ => exact hs

theorem boundsKept_operationFailed (s : State) (c : StationCommand) : BoundsKept s (s.operationFailed c) := by
  unfold State.operationFailed
  dsimp only
  split
  · exact (boundsKept_failContent _ _).after (boundsKept_putHead s rfl id)
  · exact (boundsKept_failContent _ _).after (boundsKept_putHead s rfl fun _ => gripperFits_cleared)
  · refine (boundsKept_failContent _ _).after ((boundsKept_endAttempt s).trans ?_)
    exact boundsKept_putHead s.endAttempt rfl fun h => show GripperFits s.head.gripper by
      simpa [State.endAttempt] using h
  · exact (boundsKept_clearGripper s).trans (boundsKept_failContent _ _)
  · exact boundsKept_putHead s rfl id
  · exact boundsKept_putHead s rfl id
  all_goals exact .refl s

theorem boundsKept_headStationFault (s : State) (c : Option StationCommand) : BoundsKept s (s.headStationFault c) := by
  unfold State.headStationFault
  cases c with
  | none => exact (boundsKept_raise s _).trans (boundsKept_requestHalt _)
  | some c =>
    exact ((boundsKept_operationFailed s c).trans (boundsKept_raise _ _)).trans (boundsKept_requestHalt _)

/-! ### Requests of the head sequencer -/

/-- A head command placed with the arbiter fits where it goes, and is an eject only when none stands and the bin has room. -/
theorem boundsHeld_placeHead {s : State} {c : StationCommand} (hs : BoundsHeld 0 s)
    (hf : fitsPosition (headTarget c) c = true)
    (he : isEject c = true → ejectsStanding s = 0 ∧ s.head.binCount < 12) : BoundsHeld 0 (s.placeHead c) := by
  have hcount : ejectsStanding (s.placeHead c) = ejectsStanding s + ejectCount c := by
    rw [ejectsStanding_eq, ejectsStanding_eq]
    simp only [State.placeHead, State.withLine_line, List.filter_append, List.length_append, List.filter_singleton,
      ejectCount]
    cases isEject c
    · simp
    · simp
      omega
  obtain ⟨hreq, hrest⟩ := hs.fits
  refine ⟨hs.list, hs.queue, hs.tracker, hs.trim, hs.gripper, hs.profile, ⟨fun d hd => ?_, hrest⟩, hs.bin, ?_, ?_⟩
  · simp only [State.placeHead, State.withLine_line, List.mem_append, List.mem_singleton] at hd
    rcases hd with hd | rfl
    · exact hreq d hd
    · exact hf
  · rw [hcount, ejectCount]
    have := hs.ejects
    split
    · have := (he ‹_›).1
      omega
    · omega
  · rw [hcount, ejectCount]
    intro h
    split at h
    · exact (he ‹_›).2
    · exact hs.room (by omega)

theorem boundsHeld_spreaderRequest {s : State} (hs : BoundsHeld 0 s) : BoundsHeld 0 s.spreaderRequest := by
  unfold State.spreaderRequest
  split
  · refine boundsHeld_placeHead (BoundsKept.held (s := s) ?_ hs) rfl (by simp [isEject])
    exact boundsKept_putHead s rfl id
  · exact hs

/-- A gripper side that is free has no eject standing (R146, R165). -/
theorem ejectsStanding_of_sideFree {s : State} (h : s.sideFree .gripper = true) : ejectsStanding s = 0 := by
  simp only [State.sideFree, Bool.and_eq_true, Bool.not_eq_true', List.any_eq_false, decide_eq_true_eq] at h
  obtain ⟨⟨⟨hreq, htx⟩, hdef⟩, hop⟩ := h
  have hside : ∀ c : StationCommand, isEject c = true → c.onSide .gripper = true := by
    intro c hc
    cases c <;> simp_all [isEject, StationCommand.onSide]
  have h1 : s.line.headRequests.filter isEject = [] :=
    List.filter_eq_nil_iff.2 fun c hc he => hreq c hc (hside c he)
  have h2 : ejectSent s.line.transaction = 0 := by
    unfold ejectSent
    cases ht : s.line.transaction with
    | none => rfl
    | some t =>
      simp only [ht] at htx
      have hne : isEject t.command ≠ true := fun he => by simp [hside _ he] at htx
      simp [hne]
  have h3 : ejectsAt s.line.gripper = 0 := by
    have hdef' : s.line.gripper.deferred = none := hdef
    have hop' : s.line.gripper.operation = .none := hop
    simp [ejectsAt, hdef', hop']
  rw [ejectsStanding_eq, h1, h2, h3]
  rfl

/-- What the gripper side places goes to the gripper, and an eject only into a bin with room (R146, R165). -/
theorem gripperWants_spec {s : State} {c : StationCommand} (h : s.gripperWants = some c) :
    fitsPosition (headTarget c) c = true ∧ (isEject c = true → s.head.binCount < 12) := by
  unfold State.gripperWants at h
  dsimp only at h
  split at h
  · cases h
    exact ⟨rfl, by simp [isEject]⟩
  split at h
  · cases h
    exact ⟨rfl, by simp [isEject]⟩
  split at h
  · cases h
    exact ⟨rfl, by simp [isEject]⟩
  split at h
  · split at h
    · cases h
      exact ⟨rfl, fun _ => ‹_›⟩
    · cases h
  split at h
  · split at h
    · cases h
      exact ⟨rfl, fun _ => ‹_›⟩
    · cases h
  · cases h

theorem boundsHeld_gripperRequest {s : State} (hs : BoundsHeld 0 s) : BoundsHeld 0 s.gripperRequest := by
  unfold State.gripperRequest
  split
  · rename_i hfree
    split
    · exact hs
    · refine boundsHeld_placeHead (BoundsKept.held (s := s) ?_ hs) rfl (by simp [isEject])
      exact boundsKept_putHead s rfl fun _ => gripperFits_cleared
    · rename_i c _ hc
      obtain ⟨hfit, hroom⟩ := gripperWants_spec hc
      exact boundsHeld_placeHead hs hfit fun he => ⟨ejectsStanding_of_sideFree hfree, hroom he⟩
  · exact hs

theorem boundsKept_takeUpProbe (s : State) : BoundsKept s s.takeUpProbe := by
  unfold State.takeUpProbe
  split
  · exact .refl s
  · rename_i r _
    split
    · have h1 : BoundsKept s (s.putHead { s.head with
          gripper := { Gripper.cleared with state := .holding, content := .entry r.entry } }) := by
        exact boundsKept_putHead s rfl fun _ => gripperFits_cleared
      refine (((h1.trans ?_).trans (boundsKept_setLocation _ r.entry .gripper)).trans
        (boundsKept_handOverAttempt _ r.entry 0)).trans (boundsKept_recoverIfLost _)
      exact .of_eq (by simp) (by simp) (by simp) (by simp) (by simp) (by simp) (by simp)
    · exact .refl s

end Sys2Proof
end

section
/-! SUPPORT. The bounds through the station line (R87 to R100, R145, R165): a command passes from the requests to the line,
from there to its station, and ends there; an eject that stands at none of these places waits to be counted. -/

namespace Sys2Proof

open Sys2Proof.Machine

/-- A change of the line alone, which may hand on ejects that stood or waited. -/
theorem BoundsHeld.of_line {n m : Nat} {s t : State} (hs : BoundsHeld n s)
    (hl : t.issue.list.length ≤ s.issue.list.length) (hq : t.train.queue = s.train.queue) (hr : t.tracker = s.tracker)
    (ht : t.trim = s.trim) (hh : t.head = s.head) (hp : t.seq.profile = s.seq.profile) (hf : CommandsFit t)
    (he : ejectsStanding t + m ≤ ejectsStanding s + n) : BoundsHeld m t where
  list := hl.trans hs.list
  queue := hq ▸ hs.queue
  tracker := hr ▸ hs.tracker
  trim := ht ▸ hs.trim
  gripper := hh ▸ hs.gripper
  profile := hp ▸ hs.profile
  fits := hf
  bin := hh ▸ hs.bin
  ejects := he.trans hs.ejects
  room := fun h => hh ▸ hs.room (by omega)

theorem BoundsHeld.mono {n m : Nat} {s : State} (h : BoundsHeld n s) (hm : m ≤ n) : BoundsHeld m s :=
  h.of_line le_rfl rfl rfl rfl rfl rfl h.fits (Nat.add_le_add_left hm _)

/-! ### One station -/

/-- A station record that takes over ejects that waited, or hands on some that stood there. -/
theorem BoundsHeld.setStation {n m : Nat} {s : State} {p : Position} {x : Station} (hs : BoundsHeld n s)
    (hx : StationFits p x) (hg : p = .gripper → ejectsAt x + m ≤ ejectsAt (s.line.at p) + n)
    (ho : p ≠ .gripper → m ≤ n) : BoundsHeld m (s.setStation p x) := by
  refine hs.of_line (by simp) (by simp) (by simp) (by simp) (by simp) (by simp) (commandsFit_setStation hs.fits hx) ?_
  rw [ejectsStanding_eq, ejectsStanding_eq, gripper_setStation]
  simp only [State.setStation_frame]
  split
  · rename_i hp
    have h := hg hp
    subst hp
    have hat : s.line.at .gripper = s.line.gripper := rfl
    rw [hat] at h
    omega
  · have h := ho ‹_›
    omega

theorem pollAfter_commands (x : Station) (w : Nat) (now : Word) (b : Bool) :
    (pollAfter x w now b).operation = x.operation ∧ (pollAfter x w now b).deferred = x.deferred := by
  unfold pollAfter
  split
  · exact ⟨rfl, rfl⟩
  · dsimp only
    repeat' split
    all_goals exact ⟨rfl, rfl⟩

theorem boundsKept_schedulePoll (s : State) (p : Position) (b : Bool) : BoundsKept s (s.schedulePoll p b) :=
  boundsKept_setStation_same s p (pollAfter_commands _ _ _ _).1 (pollAfter_commands _ _ _ _).2

theorem boundsKept_withdrawIfNotReady (s : State) (p : Position) : BoundsKept s (s.withdrawIfNotReady p) := by
  unfold State.withdrawIfNotReady
  split
  · exact .refl s
  · split
    · exact boundsKept_endFeed s
    · exact .refl s

theorem boundsKept_changeStation_ended (s : State) (p : Position) {x : Station} (ho : x.operation = .none)
    (hd : x.deferred = (s.line.at p).deferred ∨ x.deferred = none) : BoundsKept s (s.changeStation p x) :=
  (boundsKept_withdrawIfNotReady _ p).after (boundsKept_setStation_ended s p ho hd)

theorem boundsKept_endSentFeed (s : State) (p : Position) : BoundsKept s (s.endSentFeed p) := by
  unfold State.endSentFeed
  split
  · exact .refl s
  · split
    · exact boundsKept_endFeed s
    · exact .refl s

/-! ### Transactions -/

/-- The transaction on the line ends, and its command waits to be handed on. -/
theorem boundsHeld_freeLine {s : State} {t : Transaction} (hs : BoundsHeld 0 s) (ht : s.line.transaction = some t) :
    BoundsHeld (ejectCount t.command) s.freeLine := by
  obtain ⟨hreq, -, hrest⟩ := hs.fits
  refine hs.of_line le_rfl rfl rfl rfl rfl rfl ⟨hreq, by simp [State.freeLine], hrest⟩ ?_
  rw [ejectsStanding_eq, ejectsStanding_eq, ht]
  cases he : isEject t.command <;> simp [State.freeLine, ejectSent, ejectCount, he]

theorem boundsKept_freeLine (s : State) : BoundsKept s s.freeLine := by
  refine .of_commands le_rfl rfl rfl rfl rfl rfl (fun ⟨hreq, _, hrest⟩ => ⟨hreq, by simp [State.freeLine], hrest⟩)
    fun _ => ?_
  rw [ejectsStanding_eq, ejectsStanding_eq]
  simp [State.freeLine, ejectSent]

/-- A command that waits goes on a line that is free. -/
theorem boundsHeld_sendFrame {s : State} {p : Position} {c : StationCommand} (hs : BoundsHeld (ejectCount c) s)
    (hfree : s.line.transaction = none) (hc : c = .query ∨ fitsPosition p c = true) : BoundsHeld 0 (s.sendFrame p c) := by
  obtain ⟨hreq, -, hrest⟩ := hs.fits
  refine hs.of_line le_rfl rfl rfl rfl rfl rfl ⟨hreq, ?_, hrest⟩ ?_
  · intro x hx
    cases hx
    exact hc
  · rw [ejectsStanding_eq, ejectsStanding_eq, hfree]
    cases he : isEject c <;> simp [State.sendFrame, ejectSent, ejectCount, he]
    omega

/-- A first failure sends the same command again (R99). -/
theorem boundsKept_resend (s : State) {t : Transaction} (ht : s.line.transaction = some t) : BoundsKept s (s.resend t) := by
  unfold State.resend
  generalize hy : ({ s.line.at t.position with retry := true } : Station) = y
  have h1 : BoundsKept s (s.setStation t.position y) := boundsKept_setStation_same s _ (by simp [← hy]) (by simp [← hy])
  refine h1.trans (.of_commands le_rfl rfl rfl rfl rfl rfl (fun ⟨hreq, htx, hrest⟩ => ⟨hreq, ?_, hrest⟩) fun _ => ?_)
  · intro x hx
    cases hx
    exact htx t (by simpa using ht)
  · rw [ejectsStanding_eq, ejectsStanding_eq]
    simp [State.sendFrame, ejectSent, ht]

theorem boundsKept_secondFailure (s : State) (t : Transaction) : BoundsKept s (s.secondFailure t) := by
  unfold State.secondFailure
  extract_lets x s0 s1 failed
  have h0 : BoundsKept s s0 := (boundsKept_freeLine s).trans (boundsKept_endSentFeed _ t.position)
  have h1 : BoundsKept s s1 :=
    (h0.trans (boundsKept_changeStation_ended s0 t.position (x := unresponsiveStation (s0.line.at t.position)) rfl
      (.inl rfl))).trans (boundsKept_schedulePoll _ t.position false)
  clear_value s1 failed
  have h2 : BoundsKept s (s1.raise .stationFault) := h1.trans (boundsKept_raise _ _)
  split
  · cases failed with
    | some c => exact h1.trans (boundsKept_operationFailed s1 c)
    | none => exact h1
  · split
    · exact h2
    · exact h2.trans (boundsKept_headStationFault _ _)

theorem boundsKept_failTransaction (s : State) {t : Transaction} (ht : s.line.transaction = some t) :
    BoundsKept s (s.failTransaction t) := by
  unfold State.failTransaction
  split
  · exact boundsKept_secondFailure s t
  · exact boundsKept_resend s ht

/-! ### Replies to commands (R90) -/

/-- An ACCEPTED reply makes the command the operation outstanding at its station. -/
theorem boundsHeld_commandAccepted {s : State} {p : Position} {c : StationCommand} (hs : BoundsHeld (ejectCount c) s)
    (hc : fitsPosition p c = true) : BoundsHeld 0 (s.commandAccepted p c) := by
  have hline : (s.acceptFeed p).line = s.line := by simp
  have hfeed : BoundsHeld (ejectCount c) (s.acceptFeed p) :=
    hs.of_line (by simp) (by simp) (by simp) (by simp) (by simp) (by simp)
      ((commandsFit_congr hline).2 hs.fits) (by rw [ejectsStanding_congr hline])
  have hstation : BoundsHeld 0 ((s.acceptFeed p).setStation p
      { s.line.at p with operation := .command c, state := .busy, retry := false }) := by
    refine hfeed.setStation ⟨fun d hd => ?_, fun d hd => ?_⟩ (fun _ => ?_) fun _ => Nat.zero_le _
    · cases hd
      exact hc
    · exact (hs.fits.station p).2 d hd
    · rw [hline]
      simp only [ejectsAt, ejectCount]
      split <;> omega
  exact ((boundsKept_withdrawIfNotReady _ p).trans (boundsKept_schedulePoll _ p true)).held hstation

/-- A station that holds a command back. -/
theorem boundsHeld_defer {s : State} {p : Position} {c : StationCommand} (hs : BoundsHeld (ejectCount c) s)
    (hc : fitsPosition p c = true) : BoundsHeld 0 (s.setStation p { s.line.at p with deferred := some c }) := by
  refine hs.setStation ⟨fun d hd => (hs.fits.station p).1 d hd, fun d hd => ?_⟩ (fun _ => ?_) fun _ => Nat.zero_le _
  · cases hd
    exact hc
  · simp only [ejectsAt, ejectCount, Option.map_some, Option.some.injEq]
    omega

theorem boundsHeld_busyFeed {s : State} {p : Position} {c : StationCommand} (hs : BoundsHeld (ejectCount c) s)
    (hc : fitsPosition p c = true) : BoundsHeld 0 (s.busyFeed p c) := by
  have hframe : ∀ f, BoundsHeld (ejectCount c) (s.withIssue { s.issue with feed := f }) := fun f =>
    BoundsKept.held (s := s) (.of_eq rfl rfl rfl rfl rfl rfl rfl) hs
  unfold State.busyFeed
  split
  · exact hs.weaken
  · rename_i f _
    split
    · split
      · exact (hframe none).weaken
      · exact boundsHeld_defer (hframe (some { f with phase := .requested })) hc
    · exact hs.weaken

/-- A BUSY reply holds the command back at its station. -/
theorem boundsHeld_commandBusy {s : State} {p : Position} {c : StationCommand} (hs : BoundsHeld (ejectCount c) s)
    (hc : fitsPosition p c = true) : BoundsHeld 0 (s.commandBusy p c) := by
  unfold State.commandBusy
  extract_lets x s1 y s2
  have h1 : BoundsHeld (ejectCount c) s1 := 
    BoundsKept.held (s := s) (boundsKept_setStation_same s p (x := { x with retry := false }) rfl rfl) hs
  have h2 : BoundsHeld 0 s2 := by
    simp only [s2]
    split
    · exact boundsHeld_busyFeed h1 hc
    · exact boundsHeld_defer h1 hc
  exact ((boundsKept_withdrawIfNotReady s2 p).trans (boundsKept_schedulePoll _ p true)).held h2

theorem boundsKept_commandError (s : State) (p : Position) (c : StationCommand) (e : Half) :
    BoundsKept s (s.commandError p c e) := by
  unfold State.commandError
  dsimp only
  generalize hy : ({ (s.endSentFeed p).line.at p with
    state := .faulted, operation := .none, lastError := e, retry := false, hold := none } : Station) = y
  have h1 : BoundsKept s (((s.endSentFeed p).changeStation p y).schedulePoll p false) :=
    ((boundsKept_endSentFeed s p).trans (boundsKept_changeStation_ended _ p (by simp [← hy]) (.inl (by simp [← hy])))).trans
      (boundsKept_schedulePoll _ p false)
  split
  · exact h1
  · split
    · exact h1.trans (boundsKept_operationFailed _ c)
    · exact h1.trans (boundsKept_headStationFault _ _)

/-! ### Replies to QUERY (R91) -/

/-- Of what stood at a station, what its settlement leaves outstanding, keeps deferred and hands on as completed. -/
structure SettlesFrom (op : Outstanding) (deferred : Option StationCommand) (r : Settlement) : Prop where
  outstanding : ∀ c, r.operation = .command c →
    (op = .command c ∧ r.dropDeferred = false) ∨ (op = .none ∧ deferred = some c ∧ r.dropDeferred = true)
  completed : ∀ c, r.completed = some c → r.operation = .none ∧
    ((op = .command c ∧ r.dropDeferred = false) ∨ (op = .none ∧ deferred = some c ∧ r.dropDeferred = true))

theorem adoptedRequest_eq_some {deferred : Option StationCommand} {b : Byte} {c : StationCommand}
    (h : adoptedRequest deferred b = some c) : deferred = some c := by
  unfold adoptedRequest at h
  split at h
  · cases h
  · split at h
    · exact h
    · cases h
  · cases h

theorem settleDone_completed {c d : StationCommand} {drop : Bool} {q : QueryData}
    (h : (settleDone c drop q).completed = some d) : d = c := by
  unfold settleDone at h
  split at h
  · cases h
  · cases h
    rfl

theorem settleDone_operation (c : StationCommand) (drop : Bool) (q : QueryData) :
    (settleDone c drop q).operation = .none ∧ (settleDone c drop q).dropDeferred = drop := by
  unfold settleDone
  split <;> exact ⟨rfl, rfl⟩

/-- An operation reported DONE ends, and is completed if it has not failed. -/
theorem settlesFrom_settleDone {op : Outstanding} {deferred : Option StationCommand} {c : StationCommand} {drop : Bool}
    {q : QueryData}
    (h : (op = .command c ∧ drop = false) ∨ (op = .none ∧ deferred = some c ∧ drop = true)) :
    SettlesFrom op deferred (settleDone c drop q) := by
  obtain ⟨ho, hd⟩ := settleDone_operation c drop q
  refine ⟨fun d hop => by simp [ho] at hop, fun d hcomp => ⟨ho, ?_⟩⟩
  rw [settleDone_completed hcomp, hd]
  exact h

/-- A settlement that leaves nothing outstanding and completes nothing. -/
theorem settlesFrom_idle (op : Outstanding) (deferred : Option StationCommand) {r : Settlement}
    (ho : ∀ c, r.operation ≠ .command c) (hc : r.completed = none) : SettlesFrom op deferred r :=
  ⟨fun c h => absurd h (ho c), fun c h => by simp [hc] at h⟩

theorem settleOperation_settlesFrom (op : Outstanding) (deferred : Option StationCommand) (d : QueryData) :
    SettlesFrom op deferred (settleOperation op deferred d) := by
  unfold settleOperation
  split
  · rename_i c
    split
    · exact ⟨fun e h => by cases h; exact .inl ⟨rfl, rfl⟩, fun e h => by cases h⟩
    · split
      · exact settlesFrom_settleDone (.inl ⟨rfl, rfl⟩)
      · exact settlesFrom_idle _ _ (by simp) rfl
    · exact settlesFrom_idle _ _ (by simp) rfl
    · exact settlesFrom_idle _ _ (by simp) rfl
  · split <;> exact settlesFrom_idle _ _ (by simp) rfl
  · split
    · exact settlesFrom_idle _ _ (by simp) rfl
    · split
      · rename_i c hc
        exact ⟨fun e h => by cases h; exact .inr ⟨rfl, adoptedRequest_eq_some hc, rfl⟩, fun e h => by cases h⟩
      · exact settlesFrom_idle _ _ (by simp) rfl
    · split
      · rename_i c hc
        exact settlesFrom_settleDone (.inr ⟨rfl, adoptedRequest_eq_some hc, rfl⟩)
      · exact settlesFrom_idle _ _ (by simp) rfl
    · split <;> exact settlesFrom_idle _ _ (by simp) rfl

/-- What a settled station record keeps of its settlement. -/
theorem settledStation_commands (p : Position) (x : Station) (d : QueryData) (r : Settlement) :
    (settledStation p x d r).operation = r.operation ∧
      (settledStation p x d r).deferred = if r.dropDeferred then none else x.deferred := by
  unfold settledStation
  dsimp only
  split
  · exact ⟨rfl, rfl⟩
  · split
    · exact ⟨rfl, rfl⟩
    · split
      · exact ⟨rfl, rfl⟩
      · split <;> exact ⟨rfl, rfl⟩

/-- How many ejects a settlement completes. -/
def completedEjects (o : Option StationCommand) : Nat :=
  match o with
  | some c => ejectCount c
  | none => 0

/-- Only the gripper completes an eject. -/
theorem completedEjects_zero {p : Position} {o : Option StationCommand} (hp : p ≠ .gripper)
    (h : ∀ c, o = some c → fitsPosition p c = true) : completedEjects o = 0 := by
  cases o with
  | none => rfl
  | some c =>
    have hfit := h c rfl
    cases p <;> cases c <;> simp_all [completedEjects, ejectCount, isEject, fitsPosition]

/-- The settled record fits its station, and an eject that it completes is no longer counted there. -/
theorem boundsHeld_settled {s : State} (p : Position) (d : QueryData) (hs : BoundsHeld 0 s) :
    let r := settleOperation (s.line.at p).operation (s.line.at p).deferred d
    BoundsHeld (completedEjects r.completed) (s.setStation p (settledStation p (s.line.at p) d r)) := by
  intro r
  obtain ⟨hop, hdef⟩ := settledStation_commands p (s.line.at p) d r
  have hfrom := settleOperation_settlesFrom (s.line.at p).operation (s.line.at p).deferred d
  obtain ⟨hfop, hfdef⟩ := hs.fits.station p
  have hstands : ∀ c, ((s.line.at p).operation = .command c ∧ r.dropDeferred = false) ∨
      ((s.line.at p).operation = .none ∧ (s.line.at p).deferred = some c ∧ r.dropDeferred = true) →
      fitsPosition p c = true := fun c h => h.elim (fun h => hfop c h.1) fun h => hfdef c h.2.1
  refine hs.setStation ⟨fun c hc => ?_, fun c hc => ?_⟩ (fun _ => ?_) fun hp => ?_
  · exact hstands c (hfrom.outstanding c (hop ▸ hc))
  · rw [hdef] at hc
    split at hc
    · cases hc
    · exact hfdef c hc
  · have hcount : ∀ c, ((s.line.at p).operation = .command c ∧ r.dropDeferred = false) ∨
        ((s.line.at p).operation = .none ∧ (s.line.at p).deferred = some c ∧ r.dropDeferred = true) →
        ejectCount c + (if (if r.dropDeferred then none else (s.line.at p).deferred).map isEject = some true then 1 else 0) ≤
          ejectsAt (s.line.at p) := by
      rintro c (⟨h1, h2⟩ | ⟨h1, h2, h3⟩)
      · simp [ejectsAt, h1, h2, ejectCount]
      · simp [ejectsAt, h1, h2, h3, ejectCount]
    have hrest : (if (if r.dropDeferred then none else (s.line.at p).deferred).map isEject = some true then 1 else 0) ≤
        ejectsAt (s.line.at p) := by
      cases r.dropDeferred <;> simp [ejectsAt]
    rw [ejectsAt, hop, hdef]
    cases hc : r.completed with
    | some c =>
      obtain ⟨hnone, hwhich⟩ := hfrom.completed c hc
      have := hcount c hwhich
      rw [hnone]
      simp only [completedEjects]
      omega
    | none =>
      cases ho : r.operation with
      | command c =>
        have := hcount c (hfrom.outstanding c ho)
        simpa [completedEjects, ejectCount] using this
      | none => simpa [completedEjects] using hrest
      | foreign => simpa [completedEjects] using hrest
  · rw [completedEjects_zero hp fun c hc => hstands c (hfrom.completed c hc).2]

theorem boundsHeld_reportSettled {s : State} (p : Position) (r : Settlement) (n : Nat) (b : Bool)
    (hs : BoundsHeld (completedEjects r.completed) s) : BoundsHeld 0 (s.reportSettled p r n b) := by
  unfold State.reportSettled
  split
  · exact hs.weaken
  · extract_lets s1 failed
    have h1 : BoundsHeld 0 s1 := by
      simp only [s1]
      cases hc : r.completed with
      | some c => exact boundsHeld_operationDone c n (by simpa [completedEjects, hc] using hs)
      | none => exact hs.weaken
    clear_value s1 failed
    split
    · exact (boundsKept_headStationFault s1 _).held h1
    · cases failed with
      | some c => exact (boundsKept_operationFailed s1 c).held h1
      | none => exact h1

/-- A head command placed again, or given up with its place (log entries 13 and 39). -/
theorem boundsHeld_replaceHead {s : State} {c : StationCommand} (hs : BoundsHeld (ejectCount c) s)
    (hf : fitsPosition (headTarget c) c = true) : BoundsHeld 0 (s.replaceHead c) := by
  unfold State.replaceHead
  split
  · exact BoundsKept.held (s := s) (boundsKept_putHead s rfl id) hs.weaken
  · split
    · exact BoundsKept.held (s := s) (boundsKept_putHead s rfl fun _ => gripperFits_cleared) hs.weaken
    · obtain ⟨hreq, hrest⟩ := hs.fits
      refine hs.of_line le_rfl rfl rfl rfl rfl rfl ⟨fun d hd => ?_, hrest⟩ ?_
      · simp only [State.placeHead, State.withLine_line, List.mem_append, List.mem_singleton] at hd
        rcases hd with hd | rfl
        · exact hreq d hd
        · exact hf
      · rw [ejectsStanding_eq, ejectsStanding_eq]
        simp only [State.placeHead, State.withLine_line, List.filter_append, List.length_append, List.filter_singleton,
          ejectCount]
        cases isEject c
        · simp
        · simp
          omega

/-- A deferred command of a head station is one that is sent to it. -/
theorem headTarget_fits {p : Position} {c : StationCommand} (h : fitsPosition p c = true) (hf : ∀ n, c ≠ .feed n) :
    fitsPosition (headTarget c) c = true := by
  cases p <;> cases c <;> simp_all [fitsPosition, headTarget]

theorem boundsHeld_replaceDeferred {s : State} (p : Position) (hs : BoundsHeld 0 s) : BoundsHeld 0 (s.replaceDeferred p) := by
  unfold State.replaceDeferred
  dsimp only
  split
  · exact hs
  · rename_i c hc
    split
    · have hfit : fitsPosition p c = true := (hs.fits.station p).2 c hc
      have hdropped : BoundsHeld (ejectCount c) (s.setStation p { s.line.at p with deferred := none }) := by
        refine hs.setStation ⟨(hs.fits.station p).1, by simp⟩ (fun _ => ?_) fun hp => ?_
        · simp [ejectsAt, hc, ejectCount]
        · have := completedEjects_zero (o := some c) hp fun d hd => by cases hd; exact hfit
          simpa [completedEjects] using this.le
      split
      · exact hdropped.weaken
      · rename_i hne
        exact boundsHeld_replaceHead hdropped (headTarget_fits hfit fun n h => hne n h)
    · exact hs

theorem boundsHeld_queryStatus {s : State} (p : Position) (d : QueryData) (hs : BoundsHeld 0 s) :
    BoundsHeld 0 (s.queryStatus p d) := by
  unfold State.queryStatus
  extract_lets x r y s1 s2
  have h1 : BoundsHeld (completedEjects r.completed) s1 :=
    (boundsKept_withdrawIfNotReady _ p).held (boundsHeld_settled p d hs)
  exact (boundsKept_schedulePoll _ p false).held
    (boundsHeld_replaceDeferred p (boundsHeld_reportSettled p r _ _ h1))

theorem boundsKept_queryError (s : State) (p : Position) (e : Half) : BoundsKept s (s.queryError p e) := by
  unfold State.queryError
  extract_lets x s1 s2
  have h1 : BoundsKept s s1 := boundsKept_changeStation_ended s p rfl (.inl rfl)
  refine BoundsKept.trans (t := s2) ?_ (boundsKept_schedulePoll _ p _)
  simp only [s2]
  split
  · exact h1
  · split
    · split
      · exact h1.trans (boundsKept_operationFailed _ _)
      · exact h1
    · exact h1.trans (boundsKept_headStationFault _ _)

/-! ### Taking a reply (R88) -/

/-- ACCEPTED and BUSY answer commands, not polls. -/
theorem fitReply_command {q : Bool} {w : Half} {data : List Byte} {r : Reply} (h : fitReply q w data = .good r)
    (hr : r = .accepted ∨ r = .busy) : q = false := by
  unfold fitReply at h
  split at h
  · split at h
    · cases h
      simp at hr
    · cases h
  · split at h
    · split at h
      · split at h
        · split at h
          · cases h
            simp at hr
          · cases h
        · cases h
      · cases h
    · simpa using ‹¬q = true›

theorem judgeReply_command {p : Position} {q : Bool} {bs : List Byte} {r : Reply} (h : judgeReply p q bs = .good r)
    (hr : r = .accepted ∨ r = .busy) : q = false := by
  unfold judgeReply at h
  split at h
  · split at h
    · cases h
    · split at h
      · cases h
      · split at h
        · cases h
        · exact fitReply_command h hr
  · cases h

theorem boundsHeld_goodReply {s : State} {t : Transaction} {r : Reply} (hs : BoundsHeld 0 s)
    (ht : s.line.transaction = some t) (hr : r = .accepted ∨ r = .busy → t.command ≠ .query) :
    BoundsHeld 0 (s.goodReply t r) := by
  have hfit : r = .accepted ∨ r = .busy → fitsPosition t.position t.command = true := fun h =>
    (hs.fits.2.1 t ht).resolve_left (hr h)
  have hfree := boundsHeld_freeLine hs ht
  unfold State.goodReply
  dsimp only
  split
  · exact boundsHeld_commandAccepted hfree (hfit (.inl rfl))
  · exact boundsHeld_commandBusy hfree (hfit (.inr rfl))
  · split
    · exact (boundsKept_queryError _ _ _).held hfree.weaken
    · exact (boundsKept_commandError _ _ _ _).held hfree.weaken
  · exact boundsHeld_queryStatus _ _ hfree.weaken

theorem boundsHeld_receiveReply {s : State} (bs : List Byte) (hs : BoundsHeld 0 s) : BoundsHeld 0 (s.receiveReply bs) := by
  unfold State.receiveReply
  split
  · exact hs
  · rename_i t ht
    split
    · exact hs
    · split
      · exact hs
      · exact (boundsKept_failTransaction s ht).held hs
      · rename_i r hgood
        exact boundsHeld_goodReply hs ht fun h => by simpa using judgeReply_command hgood h

/-! ### Grants (R95) -/

/-- A request that is withdrawn to be sent waits until it stands on the line. -/
theorem boundsHeld_withdrawHead {s : State} {c : StationCommand} (hs : BoundsHeld 0 s) (hc : c ∈ s.line.headRequests) :
    BoundsHeld (ejectCount c) (s.withdrawHead c) := by
  refine hs.of_line (by simp) (by simp) (by simp) (by simp) (by simp) (by simp)
    ((boundsKept_withdrawHead s c).fits hs.fits) ?_
  rw [ejectsStanding_eq, ejectsStanding_eq]
  simp only [State.withdrawHead, State.withLine_line]
  have hsub : (s.line.headRequests.filter fun d => d ≠ c).Sublist s.line.headRequests := List.filter_sublist
  have hle := (hsub.filter isEject).length_le
  by_cases he : isEject c = true
  · have hlt : ((s.line.headRequests.filter fun d => d ≠ c).filter isEject).length <
        (s.line.headRequests.filter isEject).length := by
      refine lt_of_le_of_ne hle fun heq => ?_
      have hsame := (hsub.filter isEject).eq_of_length heq
      have hmem : c ∈ s.line.headRequests.filter isEject := List.mem_filter.2 ⟨hc, he⟩
      rw [← hsame] at hmem
      simp at hmem
    simp only [ejectCount, he, if_true]
    omega
  · rw [ejectCount, if_neg he]
    omega

theorem boundsKept_markEjecting (s : State) (c : StationCommand) : BoundsKept s (s.markEjecting c) := by
  unfold State.markEjecting
  split
  · exact boundsKept_putHead s rfl id
  · exact boundsKept_putHead s rfl id
  · exact .refl s

theorem boundsHeld_grantHead {s : State} {c : StationCommand} (hs : BoundsHeld 0 s) (hc : c ∈ s.line.headRequests)
    (hfree : s.line.transaction = none) : BoundsHeld 0 (s.grantHead c) :=
  boundsHeld_sendFrame ((boundsKept_markEjecting _ c).held (boundsHeld_withdrawHead hs hc)) (by simpa using hfree)
    (.inr (hs.fits.1 c hc))

theorem boundsHeld_grantLine {s : State} (hs : BoundsHeld 0 s) : BoundsHeld 0 s.grantLine := by
  unfold State.grantLine
  split
  · exact hs
  · rename_i htx
    have hfree : s.line.transaction = none := by simpa using htx
    split
    · rename_i c _ hc
      exact boundsHeld_grantHead hs (List.mem_of_find?_eq_some hc) hfree
    · rename_i f _ _ _
      have hfeed : BoundsHeld 0 (s.withIssue { s.issue with feed := some { f with phase := .sent } }) :=
        BoundsKept.held (s := s) (.of_eq rfl rfl rfl rfl rfl rfl rfl) hs
      exact boundsHeld_sendFrame hfeed hfree (.inr (by cases f.feeder <;> rfl))
    · split
      · rename_i p _
        generalize hy : ({ s.line.at p with nextPoll := none, pollPending := false } : Station) = y
        have hpoll : BoundsHeld 0 (s.setStation p y) :=
          (boundsKept_setStation_same s p (by simp [← hy]) (by simp [← hy])).held hs
        rw [State.grantPoll, hy]
        exact boundsHeld_sendFrame hpoll (by simpa using hfree) (.inl rfl)
      · exact hs

end Sys2Proof
end

section
/-! SUPPORT. Every work, every reset and the passing of time keep the bounds, and with them every step (O60). -/

namespace Sys2Proof

open Sys2Proof.Machine

/-! ### The latched profile (R18) -/

theorem profileInt_bounds {lo hi : Int} (s : State) (f : ProfileField) (h : lo ≤ hi) :
    lo ≤ s.profileInt f lo hi ∧ s.profileInt f lo hi ≤ hi := clampInt_bounds h _

theorem profileNat_bounds {lo hi : Nat} (s : State) (f : ProfileField) (h : lo ≤ hi) :
    lo ≤ s.profileNat f lo hi ∧ s.profileNat f lo hi ≤ hi := by
  have := profileInt_bounds (lo := lo) (hi := hi) s f (by omega)
  unfold State.profileNat
  omega

/-- The off threshold lies below an on threshold that is at least 1. -/
theorem unsteadyOffOf_lt {on : Nat} (off : Nat) (h : 0 < on) : unsteadyOffOf on off < on := by
  unfold unsteadyOffOf
  split <;> omega

/-- Whatever the profile words hold, a latch reads a profile within its ranges. -/
theorem profileInRange_readProfile (s : State) : ProfileInRange s.readProfile := by
  have hon := profileNat_bounds (lo := 2) (hi := 16) s .unsteadyOn (by omega)
  exact ⟨profileInt_bounds s _ (by decide), profileInt_bounds s _ (by decide), profileInt_bounds s _ (by decide),
    profileInt_bounds s _ (by decide), profileInt_bounds s _ (by decide), profileInt_bounds s _ (by decide),
    profileInt_bounds s _ (by decide), profileInt_bounds s _ (by decide), profileNat_bounds s _ (by omega),
    profileNat_bounds s _ (by omega), profileNat_bounds s _ (by omega), profileNat_bounds s _ (by omega),
    (profileNat_bounds s .restartDelay (lo := 0) (by omega)).2, hon, unsteadyOffOf_lt _ (by omega),
    profileNat_bounds s _ (by omega), profileNat_bounds s _ (by omega), profileNat_bounds s _ (by omega),
    profileInt_bounds s _ (by decide), profileInt_bounds s _ (by decide)⟩

theorem boundsHeld_latchProfile {s : State} (ws : List LatchWrite) (hs : BoundsHeld 0 s) :
    BoundsHeld 0 (s.latchProfile ws) := by
  have hwrites : BoundsHeld 0 (s.afterWrites ws) :=
    BoundsKept.held (s := s) (.of_eq (by simp) (by simp) (by simp) (by simp) (by simp) (by simp) (by simp)) hs
  exact { hwrites with profile := profileInRange_readProfile _ }

theorem boundsKept_activate (s : State) (k : Slot) (late : List LateWrite) : BoundsKept s (s.activate k late) :=
  .of_eq (by simp) (by simp) (by simp) (by simp) (by simp) (by simp) (by simp)

/-! ### Works that lengthen a list -/

theorem boundsKept_orderFeed (s : State) (i : EntryIx) (n : Nat) : BoundsKept s (s.orderFeed i n) := by
  unfold State.orderFeed
  split
  · exact .refl s
  · exact (boundsKept_setLocation _ i .feed).after (.of_eq rfl rfl rfl rfl rfl rfl rfl)

/-- A record is appended when the list has room for it (R46). -/
theorem boundsHeld_appendRecord {s : State} (r : IssueRecord) (hs : BoundsHeld 0 s) (h : s.issue.list.length < 12) :
    BoundsHeld 0 (s.appendRecord r) :=
  { hs with list := by simpa [State.appendRecord] using h }

theorem boundsHeld_takeEntry {s : State} (k : Slot) (i : EntryIx) (seen : Byte) (hs : BoundsHeld 0 s)
    (h : s.issue.list.length < 12) : BoundsHeld 0 (s.takeEntry k i seen) := by
  have hissued : BoundsHeld 0 (s.setEntryState i .issued) :=
    BoundsKept.held (s := s) (.of_eq (by simp) (by simp) (by simp) (by simp) (by simp) (by simp) (by simp)) hs
  have happend : ∀ r, BoundsHeld 0 ((s.setEntryState i .issued).appendRecord r) := fun r =>
    boundsHeld_appendRecord r hissued (by simpa using h)
  have hissue : BoundsHeld 0 (s.issueEntry k i) := by
    unfold State.issueEntry
    split
    · exact (boundsKept_orderFeed _ i _).held (happend _)
    · exact happend _
    · exact BoundsKept.held (s := s) (.of_eq (by simp [State.failAtTake]) (by simp [State.failAtTake])
        (by simp [State.failAtTake]) (by simp [State.failAtTake]) (by simp [State.failAtTake])
        (by simp [State.failAtTake]) (by simp [State.failAtTake])) hs
  unfold State.takeEntry
  split
  · split
    · exact hissue
    · exact hs
  · split
    · exact hs
    · exact hissue

/-- A carrier is appended while the queue is not full (R67). -/
theorem boundsHeld_appendCarrier {s : State} (content former : Option EntryIx) (hs : BoundsHeld 0 s)
    (h : s.train.queue.length < trainMax) : BoundsHeld 0 (s.appendCarrier content former) :=
  { hs with queue := by simpa [State.appendCarrier, trainMax] using h }

theorem boundsKept_moveEntry (s : State) (i : EntryIx) (a b : EntryState) : BoundsKept s (s.moveEntry i a b) :=
  .of_eq (by simp) (by simp) (by simp) (by simp) (by simp) (by simp) (by simp)

theorem boundsHeld_matchBrick {s : State} (f : FeedPending) (hs : BoundsHeld 0 s) (h : s.train.queue.length < trainMax) :
    BoundsHeld 0 (s.matchBrick f) := by
  unfold State.matchBrick
  split
  · rename_i i _
    have happended := boundsHeld_appendCarrier (some i) none hs h
    exact (((boundsKept_clearFeed _).after (boundsKept_setLocation _ i .train)).after
      (boundsKept_moveEntry _ i .issued .transit)).held happended
  · exact (boundsKept_clearFeed _).held (boundsHeld_appendCarrier none f.former hs h)

theorem boundsKept_arriveBay (s : State) (c : Content) (t : Option Word) : BoundsKept s (s.arriveBay c t) :=
  boundsKept_putHead s rfl id

theorem boundsKept_popFront {s : State} {c : Carrier} {rest : List Carrier} (h : s.train.queue = c :: rest) :
    BoundsKept s (s.popFront c rest) := by
  have hpop : BoundsKept s (s.withTrain { s.train with queue := rest, limitReached := false }).showTrain :=
    .of_line (by simp) (by simp [h]) (by simp) (by simp) (by simp) (by simp) (by simp) (by simp)
  unfold State.popFront
  extract_lets x s1
  have h1 : BoundsKept s s1 := hpop
  clear_value s1
  split
  · rename_i i _
    exact (((boundsKept_setLocation _ i .bay).after (boundsKept_moveEntry _ i .transit .head)).after
      (boundsKept_arriveBay s1 _ _)).after h1
  · exact (boundsKept_arriveBay s1 _ _).after h1

/-! ### Machine control and calibration -/

theorem boundsKept_withdrawTake (s : State) : BoundsKept s s.withdrawTake := by
  unfold State.withdrawTake
  split
  · exact (boundsKept_withdrawHead _ .take).after (boundsKept_putHead s rfl fun _ => gripperFits_cleared)
  · exact .refl s

theorem boundsKept_holdBoom (s : State) (b : Bool) : BoundsKept s (s.holdBoom b) := by
  unfold State.holdBoom
  split
  · exact (boundsKept_zeroSettle _).after (.of_eq rfl rfl rfl rfl rfl rfl rfl)
  · exact .of_eq rfl rfl rfl rfl rfl rfl rfl

theorem trimFits_stopDrive {t : Trim} (h : TrimFits t) : TrimFits t.stopDrive := by
  unfold TrimFits at h ⊢
  simp only [Trim.stopDrive, Trim.wantFrame, Trim.beginFrame]
  split <;> exact ⟨Nat.zero_le _, h.2⟩

theorem trimFits_wantFrame {t : Trim} (h : TrimFits t) : TrimFits t.wantFrame := by
  unfold TrimFits at h ⊢
  simp only [Trim.wantFrame, Trim.beginFrame]
  split <;> exact h

theorem boundsKept_takeCalibration (s : State) (o r : Pose) : BoundsKept s (s.takeCalibration o r) :=
  boundsKept_withTrim s fun h => trimFits_moveSetPoint _ h

theorem boundsKept_handOver (s : State) (v : Vector Word 32) : BoundsKept s (s.handOver v) := by
  unfold State.handOver
  split <;> exact boundsKept_takeCalibration s _ _

theorem boundsKept_withCal (s : State) (c : Calibration) : BoundsKept s (s.withCal c) := .of_eq rfl rfl rfl rfl rfl rfl rfl

theorem boundsKept_withControl (s : State) (c : Control) : BoundsKept s (s.withControl c) :=
  .of_eq rfl rfl rfl rfl rfl rfl rfl

theorem boundsKept_completeCommit (s : State) : BoundsKept s s.completeCommit := by
  unfold State.completeCommit
  exact ((boundsKept_withCal s _).trans (boundsKept_takeCalibration _ _ _)).trans (boundsKept_raise _ _)

theorem boundsKept_setWord (s : State) (a : Nat) (v : Word) : BoundsKept s (s.setWord a v) :=
  .of_eq rfl rfl rfl rfl rfl rfl rfl

theorem boundsKept_copyImage (s : State) (v : Vector Word 32) : BoundsKept s (s.copyImage v) :=
  BoundsKept.foldl (fun t (j : Fin 32) => boundsKept_setWord t (imageAddr j.val) v[j]) _ s

/-- The load, whatever store and image stand. -/
theorem boundsKept_load (s : State) (c : Calibration) (v : Vector Word 32) (d : Control) :
    BoundsKept s (((s.withCal c).handOver v).withControl d) :=
  ((boundsKept_withCal s c).trans (boundsKept_handOver _ v)).trans (boundsKept_withControl _ d)

/-! ### Polls and feeder timers -/

theorem boundsKept_pollPending (s : State) (p : Position) :
    BoundsKept s (s.setStation p { s.line.at p with pollPending := true }) := by
  generalize hx : ({ s.line.at p with pollPending := true } : Station) = x
  exact boundsKept_setStation_same s p (by simp [← hx]) (by simp [← hx])

theorem boundsKept_holdExpires (s : State) (f : Feeder) :
    BoundsKept s
      (s.changeStation (feederPosition f) { s.line.at (feederPosition f) with state := .ready, hold := none }) := by
  generalize hx : ({ s.line.at (feederPosition f) with state := .ready, hold := none } : Station) = x
  exact (boundsKept_withdrawIfNotReady _ _).after
    (boundsKept_setStation_same s (feederPosition f) (x := x) (by simp [← hx]) (by simp [← hx]))

theorem boundsKept_timedOut (s : State) (p : Position) : BoundsKept s (s.setStation p (timedOutFeeder (s.line.at p))) := by
  generalize hx : timedOutFeeder (s.line.at p) = x
  exact boundsKept_setStation_ended s p (by simp [← hx, timedOutFeeder]) (.inl (by simp [← hx, timedOutFeeder]))

/-! ### Every work -/

theorem boundsHeld_emptyBin {s : State} (hs : BoundsHeld 0 s) : BoundsHeld 0 (s.putHead { s.head with binCount := 0 }) :=
  { hs with bin := Nat.zero_le _, room := fun _ => by simp }

theorem BoundsHeld.work {s u : State} (hu : Work s u) (hs : BoundsHeld 0 s) : BoundsHeld 0 u := by
  cases hu with
  | enterHalt _ => exact (boundsKept_enterHalt s).held hs
  | manualGrant _ =>
    exact (((boundsKept_raise _ .manualGranted).after (boundsKept_zeroSettle _)).after
      (boundsKept_withdrawTake (s.withControl { s.control with manualGrant := true }))).held
      (BoundsKept.held (s := s) (.of_eq rfl rfl rfl rfl rfl rfl rfl) hs)
  | emergencyAssert _ =>
    exact (boundsKept_requestHalt _).held (BoundsKept.held (s := s)
      (.of_line le_rfl le_rfl id trimFits_stopDrive id rfl rfl rfl) hs)
  | emergencyClear _ =>
    exact BoundsKept.held (s := s) (.of_line le_rfl le_rfl id (fun h => trimFits_wantFrame h) id rfl rfl rfl) hs
  | boomWord v moving => exact ((boundsKept_setWord s _ v).trans (boundsKept_holdBoom _ moving)).held hs
  | emptyBin _ => exact boundsHeld_emptyBin hs
  | confirmEntry i =>
    refine BoundsKept.held (s := s) ?_ hs
    unfold State.confirmEntry
    split
    · split
      · exact .of_line le_rfl le_rfl id id id rfl rfl rfl
      · exact .refl s
    · exact .of_eq rfl rfl rfl rfl rfl rfl rfl
  | completeCommit => exact (boundsKept_completeCommit s).held hs
  | loadCalibration _ => exact ((boundsKept_copyImage s s.cal.store).trans (boundsKept_load _ _ _ _)).held hs
  | takeBytes bs => exact keepsBounds_takeBytes s bs 0 hs
  | takeBytesGap bs => exact (boundsKept_byteGap _).held (keepsBounds_takeBytes s bs 0 hs)
  | enterLost _ => exact (boundsKept_enterLost s).held hs
  | beginFrame _ => exact BoundsKept.held (s := s) (.of_line le_rfl le_rfl id id id rfl rfl rfl) hs
  | endFrame _ => exact BoundsKept.held (s := s) (.of_line le_rfl le_rfl id id id rfl rfl rfl) hs
  | settleLimit i _ =>
    exact (boundsKept_failAttempt _ i _).held (BoundsKept.held (s := s) (.of_line le_rfl le_rfl id id id rfl rfl rfl) hs)
  | failAttempt i r => exact (boundsKept_failAttempt s i r).held hs
  | gripperRequest => exact boundsHeld_gripperRequest hs
  | spreaderRequest => exact boundsHeld_spreaderRequest hs
  | bothRequests => exact boundsHeld_spreaderRequest (boundsHeld_gripperRequest hs)
  | takeUpProbe => exact (boundsKept_takeUpProbe s).held hs
  | receiveReply bs => exact boundsHeld_receiveReply bs hs
  | failTransaction t ht => exact (boundsKept_failTransaction s ht).held hs
  | pollDue p _ => exact (boundsKept_pollPending s p).held hs
  | grantLine => exact boundsHeld_grantLine hs
  | holdExpires f _ =>
    exact (boundsKept_holdExpires s f).held hs
  | feedTimeout f _ =>
    exact ((boundsKept_endFeed s).trans (boundsKept_timedOut _ (feederPosition f))).held hs
  | activation during late _ =>
    exact ((boundsKept_expireLossIfDue _).trans (boundsKept_activate _ _ late)).held (boundsHeld_latchProfile during hs)
  | takeEntry k i seen _ hm _ =>
    have hroom : s.issue.list.length < 12 := by
      simp only [State.mayTake, Bool.and_eq_true, decide_eq_true_eq] at hm
      exact hm.2
    exact boundsHeld_takeEntry k i seen hs hroom
  | orderFeed r _ _ => exact (boundsKept_orderFeed s _ _).held hs
  | matchBrick f _ hq => exact boundsHeld_matchBrick f hs hq
  | strayAtRoot _ hq => exact (boundsKept_trainFault _).held (boundsHeld_appendCarrier none none hs hq)
  | trainFault => exact (boundsKept_trainFault s).held hs
  | popFront c rest _ hq => exact (boundsKept_popFront hq).held hs
  | strayAtBay _ _ => exact ((boundsKept_arriveBay s _ _).trans (boundsKept_trainFault _)).held hs
  | _ =>
    exact BoundsKept.held (s := s) (.of_eq (by simp) (by simp) (by simp) (by simp) (by simp) (by simp) (by simp)) hs

/-! ### Resets, time and the closing of a command -/

/-- Station sense leaves no command anywhere (R84). -/
theorem sensedStation_commands (p : Position) (k : StationKind) (now : Word) :
    (sensedStation p k now).operation = .none ∧ (sensedStation p k now).deferred = none := by
  unfold sensedStation
  split <;> exact ⟨rfl, rfl⟩

theorem sensedLine_commands (l : IdentityLines) (now : Word) (last : List Byte) (p : Position) :
    ((sensedLine l now last).at p).operation = .none ∧ ((sensedLine l now last).at p).deferred = none := by
  cases p <;> exact sensedStation_commands _ _ now

/-- A control reset empties every bounded collection but the reject bin, and latches the profile. -/
theorem boundsHeld_controlReset {s : State} (inputs : InitInputs) (hbin : s.head.binCount ≤ 12) :
    BoundsHeld 0 (s.controlReset inputs) := by
  have hline : (s.controlReset inputs).line = sensedLine inputs.lines s.time s.line.lastFrame := by
    simp [State.controlReset, State.resetBlocks]
  have hnone := sensedLine_commands inputs.lines s.time s.line.lastFrame
  have hejects : ejectsStanding (s.controlReset inputs) = 0 := by
    rw [ejectsStanding_eq, hline]
    simp [sensedLine, ejectSent, ejectsAt, (sensedStation_commands _ _ _).1, (sensedStation_commands _ _ _).2]
  refine
    { list := Nat.zero_le _, queue := Nat.zero_le _, tracker := ⟨Nat.zero_le _, Nat.zero_le _⟩,
      trim := ⟨Nat.zero_le _, Nat.zero_le _, Nat.zero_le _⟩, gripper := gripperFits_cleared,
      profile := profileInRange_readProfile _, fits := ?_, bin := by
        simpa [State.controlReset, State.resetBlocks, Head.reset] using hbin,
      ejects := by omega, room := by omega }
  unfold CommandsFit
  rw [hline]
  refine ⟨by simp [sensedLine], by simp [sensedLine], fun p c hc => ?_, fun p c hc => ?_⟩
  · rw [(hnone p).1] at hc
    cases hc
  · rw [(hnone p).2] at hc
    cases hc

theorem BoundsHeld.reset {s u : State} (hu : ResetWork s u) (hs : BoundsHeld 0 s) : BoundsHeld 0 u := by
  cases hu with
  | power inputs e w => exact boundsHeld_controlReset inputs (by simp [State.powerUp, State.reset])
  | control inputs => exact boundsHeld_controlReset inputs hs.bin

theorem length_trainTick (t : Train) (limit : Nat) : (t.tick limit).queue.length = t.queue.length := by
  unfold Train.tick
  split
  · simp [*]
  · rfl

theorem at_tick (s : State) (p : Position) : s.tick.line.at p = (s.line.at p).tick := by cases p <;> rfl

theorem boundsKept_tick (s : State) : BoundsKept s s.tick where
  list := le_rfl
  queue := (length_trainTick s.train _).le
  tracker := id
  trim := id
  gripper := id
  profile := rfl
  fits := fun ⟨hreq, htx, hop, hdef⟩ =>
    ⟨hreq, htx, fun p c hc => hop p c (by simpa [at_tick, Station.tick] using hc),
      fun p c hc => hdef p c (by simpa [at_tick, Station.tick] using hc)⟩
  ejects := fun _ => le_rfl
  bin := rfl

/-- Settles O60: list, queue and bin have room where something is put into them, the counts hold at their largest values,
and an eject that is placed passes through the line to its station and is counted once. -/
theorem stepsKeepTheBounds : Obligations.StepsKeepTheBounds := fun s t h hs =>
  (boundsHeld_iff t).1
    (step_keeps (P := BoundsHeld 0)
      (fun s _ hs => BoundsKept.held (s := s) (.of_eq rfl rfl rfl rfl rfl rfl rfl) hs)
      (fun s hs => (boundsKept_tick s).held hs) BoundsHeld.work
      (fun _ u hu => BoundsKept.held (s := u)
        (.of_eq (by simp) (by simp) (by simp) (by simp) (by simp) (by simp) (by simp)) hu)
      (fun {_ u} hu hs => BoundsKept.held (s := u)
        (.of_eq (by simp) (by simp) (by simp) (by simp) (by simp) (by simp) (by simp)) (BoundsHeld.reset hu hs))
      h ((boundsHeld_iff s).2 hs))

end Sys2Proof
end

section
/-! SUPPORT. The outputs that every command leaves as the state demands (R20, R58, R73, R190): the entries of a course in
order, the candidate, and the starved condition as Sys2Proof/Safety.lean describes them. -/

namespace Sys2Proof

open Sys2Proof.Machine

/-! ### The entries of a course in order -/

theorem mem_courseEntries (s : State) (k : Slot) (i : EntryIx) : i ∈ s.courseEntries k ↔ s.inCourse k i = true := by
  have hi := i.isLt
  simp only [State.courseEntries, State.inCourse, List.mem_filterMap, List.mem_range'_1, decide_eq_true_eq]
  constructor
  · rintro ⟨n, hn, h⟩
    split at h
    · obtain rfl := Option.some.inj h
      dsimp only
      omega
    · cases h
  · intro h
    exact ⟨i.val, by omega, by simp [hi]⟩

theorem pairwise_courseEntries (s : State) (k : Slot) : (s.courseEntries k).Pairwise (· < ·) := by
  unfold State.courseEntries
  rw [List.pairwise_filterMap]
  refine (List.pairwise_lt_range' (s := s.courseFirst k)).imp fun {a b} hab x hx y hy => ?_
  split at hx
  · split at hy
    · cases hx
      cases hy
      exact hab
    · cases hy
  · cases hx

/-- The first element that satisfies a test in an ascending list is the least that does. -/
theorem find?_eq_some_iff_least {l : List EntryIx} (hl : l.Pairwise (· < ·)) (p : EntryIx → Bool) (i : EntryIx) :
    l.find? p = some i ↔ i ∈ l ∧ p i = true ∧ ∀ j ∈ l, j < i → p j = false := by
  induction l with
  | nil => simp
  | cons x l ih =>
    obtain ⟨hx, hl'⟩ := List.pairwise_cons.1 hl
    rw [List.find?_cons]
    cases hp : p x with
    | true =>
      simp only [Option.some.injEq, List.mem_cons, forall_eq_or_imp]
      constructor
      · rintro rfl
        exact ⟨.inl rfl, hp, fun h => absurd h (lt_irrefl _), fun j hj h => absurd (h.trans (hx j hj)) (lt_irrefl _)⟩
      · rintro ⟨rfl | hi, -, hle, -⟩
        · rfl
        · rw [hle (hx i hi)] at hp
          cases hp
    | false =>
      simp only [ih hl', List.mem_cons, forall_eq_or_imp]
      constructor
      · rintro ⟨hi, hpi, hle⟩
        exact ⟨.inr hi, hpi, fun _ => hp, hle⟩
      · rintro ⟨rfl | hi, hpi, -, hle⟩
        · rw [hp] at hpi
          cases hpi
        · exact ⟨hi, hpi, hle⟩

theorem find?_courseEntries (s : State) (k : Slot) (p : EntryIx → Bool) (i : EntryIx) :
    (s.courseEntries k).find? p = some i ↔
      s.inCourse k i = true ∧ p i = true ∧ ∀ j, s.inCourse k j = true → j < i → p j = false := by
  rw [find?_eq_some_iff_least (pairwise_courseEntries s k)]
  simp only [mem_courseEntries]

/-! ### The candidate (R49) -/

theorem terminal_iff (s : State) (i : EntryIx) : Terminal s i ↔ ∃ e, s.entryState i = some e ∧ e.terminal = true := by
  unfold Terminal
  constructor
  · rintro (h | h | h | h) <;> exact ⟨_, h, rfl⟩
  · rintro ⟨e, h, ht⟩
    cases e <;> simp [EntryState.terminal, h] at ht ⊢

theorem inIssueList_iff (s : State) (i : EntryIx) : s.inIssueList i = true ↔ ∃ r ∈ s.issue.list, r.entry = i := by
  simp [State.inIssueList]

theorem notBegun_iff (s : State) (i : EntryIx) :
    s.notBegun i = true ↔ (∀ r ∈ s.issue.list, r.entry ≠ i) ∧ ¬Terminal s i := by
  rw [terminal_iff]
  cases h : s.entryState i <;> simp [State.notBegun, State.inIssueList, h]

theorem notBegun_eq_false_iff (s : State) (i : EntryIx) :
    s.notBegun i = false ↔ Terminal s i ∨ ∃ r ∈ s.issue.list, r.entry = i := by
  rw [← Bool.not_eq_true, notBegun_iff]
  constructor
  · intro h
    by_cases ht : Terminal s i
    · exact .inl ht
    · refine .inr (by_contra fun hr => h ⟨fun r hr' he => hr ⟨r, hr', he⟩, ht⟩)
  · rintro (ht | ⟨r, hr, he⟩) h
    · exact h.2 ht
    · exact h.1 r hr he

/-- A POSTED entry is not terminal. -/
theorem not_terminal_posted {s : State} {i : EntryIx} (h : s.entryState i = some .posted) : ¬Terminal s i := by
  simp [Terminal, h]

theorem candidate_iff (s : State) (k : Slot) (i : EntryIx) : s.candidate k = some i ↔ Chosen s k i := by
  have hfirst := find?_courseEntries s k (fun i => s.entryState i = some .posted)
  have hbegun := find?_courseEntries s k s.notBegun i
  simp only [decide_eq_true_eq, decide_eq_false_iff_not] at hfirst
  unfold State.candidate Chosen
  cases hf : (s.courseEntries k).find? fun i => s.entryState i = some .posted with
  | none =>
    simp only [reduceCtorEq, false_iff]
    rintro ⟨h1, h2, h3, -⟩
    rw [(hfirst i).2 ⟨h1, h2, h3⟩] at hf
    cases hf
  | some j =>
    obtain ⟨hj1, hj2, hj3⟩ := (hfirst j).1 hf
    have huniq : (s.inCourse k i = true ∧ s.entryState i = some .posted ∧
        ∀ m, s.inCourse k m = true → m < i → s.entryState m ≠ some .posted) ↔ j = i := by
      rw [← hfirst i, hf, Option.some.injEq]
    cases hstrict : s.courseStrict k with
    | false =>
      simp only [Bool.false_eq_true, if_false, Option.some.injEq, ← huniq]
      constructor
      · rintro ⟨h1, h2, h3⟩
        exact ⟨h1, h2, h3, fun h => by cases h⟩
      · rintro ⟨h1, h2, h3, -⟩
        exact ⟨h1, h2, h3⟩
    | true =>
      have hnext : (s.courseEntries k).find? s.notBegun = some j ↔ (∀ r ∈ s.issue.list, r.entry ≠ j) ∧
          ∀ m, s.inCourse k m = true → m < j → Terminal s m ∨ ∃ r ∈ s.issue.list, r.entry = m := by
        rw [find?_courseEntries s k s.notBegun j, notBegun_iff]
        simp only [notBegun_eq_false_iff]
        exact ⟨fun h => ⟨h.2.1.1, h.2.2⟩, fun h => ⟨hj1, ⟨h.1, not_terminal_posted hj2⟩, h.2⟩⟩
      simp only [if_true, forall_const]
      constructor
      · intro h
        split at h
        · rename_i hn
          cases h
          exact ⟨hj1, hj2, hj3, hnext.1 hn⟩
        · cases h
      · rintro ⟨h1, h2, h3, h4⟩
        have hji : j = i := huniq.1 ⟨h1, h2, h3⟩
        subst hji
        rw [if_pos (hnext.2 h4)]

/-! ### The starved condition (R58) -/

theorem needsFeed_iff (r : IssueRecord) : r.needsFeed = true ↔ NeedsFeed r := by simp [IssueRecord.needsFeed, NeedsFeed]

theorem feederReady_iff (s : State) (f : Feeder) : s.feederReady f = true ↔ FeederReady s f := by
  simp [State.feederReady, FeederReady]

theorem feederAvailable_iff (s : State) : s.feederAvailable = true ↔ ∃ f, FeederReady s f := by
  simp only [State.feederAvailable, Bool.or_eq_true, feederReady_iff]
  constructor
  · rintro (h | h) <;> exact ⟨_, h⟩
  · rintro ⟨f, h⟩
    cases f
    · exact .inl h
    · exact .inr h

theorem layRoom_iff (s : State) : s.layRoom = true ↔ LayRoom s := by
  simp only [State.layRoom, LayRoom, Bool.and_eq_true, decide_eq_true_eq, Bool.not_eq_true', List.any_eq_false,
    needsFeed_iff, and_assoc]
  rfl

theorem mayTake_iff {s : State} {k : Slot} (h : s.seq.active = some k) : s.mayTake = true ↔ MayTake s k := by
  simp only [State.mayTake, MayTake, Bool.and_eq_true, decide_eq_true_eq, Bool.not_eq_true', h, true_and, and_assoc]
  rfl

theorem refeedWanted_iff (s : State) :
    s.refeedWanted = true ↔ s.issue.feed = none ∧ ∃ r ∈ s.issue.list, NeedsFeed r := by
  simp [State.refeedWanted, ← needsFeed_iff]

theorem layWanted_iff (s : State) :
    s.layWanted = true ↔ ∃ k i, MayTake s k ∧ Chosen s k i ∧ s.entryKind i = kindLay ∧ LayRoom s := by
  unfold State.layWanted
  cases ha : s.seq.active with
  | none =>
    simp only [Bool.false_eq_true, false_iff]
    rintro ⟨k, i, ⟨-, hk, -⟩, -⟩
    rw [ha] at hk
    cases hk
  | some k =>
    have hslot : ∀ l, MayTake s l → l = k := fun l h => by
      have := h.2.1
      rw [ha] at this
      exact (Option.some.inj this).symm
    simp only [Bool.and_eq_true, mayTake_iff ha, layRoom_iff]
    constructor
    · rintro ⟨⟨hm, hl⟩, hc⟩
      split at hc
      · cases hc
      · rename_i i hi
        exact ⟨k, i, hm, (candidate_iff s k i).1 hi, by simpa using hc, hl⟩
    · rintro ⟨l, i, hm, hc, hkind, hl⟩
      obtain rfl := hslot l hm
      rw [(candidate_iff s l i).2 hc]
      exact ⟨⟨hm, hl⟩, by simpa using hkind⟩

theorem starvedNow_iff (s : State) : s.starvedNow = true ↔ Starved s := by
  unfold State.starvedNow Starved
  rw [Bool.and_eq_true, Bool.or_eq_true, refeedWanted_iff, layWanted_iff, Bool.not_eq_true', ← Bool.not_eq_true,
    feederAvailable_iff, not_exists]

/-! ### Interrupt, drive and status block -/

theorem attentionLevel_iff (h : HostPort) : attentionLevel h = true ↔ h.cause &&& h.mask ≠ 0 := by simp [attentionLevel]

theorem driveWanted_iff (s : State) :
    s.driveWanted = true ↔
      s.train.queue ≠ [] ∧ s.head.bay.state = .empty ∧ (s.control.state = .run ∨ s.control.state = .drain) := by
  simp [State.driveWanted, and_assoc]

/-- The outputs stand as the functions that evaluate them give them. -/
theorem derived_iff (s : State) :
    Derived s ↔ s.host.attention = attentionLevel s.host ∧ s.train.drive = s.driveWanted ∧
      s.issue.starved = s.starvedNow ∧ s.status.fields = s.statusNow := by
  unfold Derived
  rw [← attentionLevel_iff, ← driveWanted_iff, ← starvedNow_iff, ← Bool.eq_iff_iff, ← Bool.eq_iff_iff, ← Bool.eq_iff_iff]

/-- The drive depends on the queue, the bay and the machine state. -/
theorem driveWanted_congr {s t : State} (hq : t.train.queue.isEmpty = s.train.queue.isEmpty)
    (hb : t.head.bay.state = s.head.bay.state) (hc : t.control.state = s.control.state) : t.driveWanted = s.driveWanted := by
  unfold State.driveWanted
  rw [hq, hb, hc]

theorem derived_finish (old u : State) : Derived (finish old u) := by
  obtain ⟨hs, hd, ha, -⟩ := finish_outputs old u
  refine (derived_iff _).2 ⟨ha, ?_, ?_, finish_status old u⟩
  · rw [hd]
    exact (driveWanted_congr (by simp) (by simp) (by simp)).symm
  · rw [hs]
    exact (starvedNow_congr u _ (by simp) (by simp) (by simp) (by simp) (by simp) (by simp) (by simp) (by simp)).symm

theorem status_evalStarved (s : State) : s.evalStarved.status = s.status := by
  unfold State.evalStarved
  dsimp only
  split <;> rfl

/-- With no record in the list and no active course there is no feed to order. -/
theorem starvedNow_eq_false {s : State} (hl : s.issue.list = []) (ha : s.seq.active = none) : s.starvedNow = false := by
  simp [State.starvedNow, State.refeedWanted, State.layWanted, hl, ha]

/-- A reset leaves nothing starved, which its status block shows. -/
theorem derived_reset {s u : State} (hu : ResetWork s u) (old : State) : Derived (finishReset old u) := by
  have hreset : u.issue.list = [] ∧ u.seq.active = none ∧ u.issue.starved = false ∧ u.status.fields = u.statusNow := by
    cases hu <;> exact ⟨rfl, rfl, rfl, rfl⟩
  obtain ⟨hlist, hactive, hstarved, hstatus⟩ := hreset
  have hnow := starvedNow_eq_false hlist hactive
  obtain ⟨hs, hd, ha, -⟩ := finishReset_outputs old u
  refine (derived_iff _).2 ⟨ha, ?_, ?_, ?_⟩
  · rw [hd]
    exact (driveWanted_congr (by simp) (by simp) (by simp)).symm
  · rw [hs]
    exact (starvedNow_congr u _ (by simp) (by simp) (by simp) (by simp) (by simp) (by simp) (by simp) (by simp)).symm
  · have hfields : (finishReset old u).status.fields = u.status.fields := by
      simp [finishReset, State.spendFree, State.evaluate, State.evalDrive, State.evalAttention, status_evalStarved]
    have hsame : (finishReset old u).issue.starved = u.issue.starved := by rw [hs, hnow, hstarved]
    rw [hfields, hstatus]
    unfold State.statusNow State.supply Train.shown Train.voids
    rw [hsame]
    simp

/-! ### The passing of time -/

theorem isEmpty_trainTick (t : Train) (limit : Nat) : (t.tick limit).queue.isEmpty = t.queue.isEmpty := by
  unfold Train.tick
  split
  · simp [*]
  · rfl

theorem shown_trainTick (t : Train) (limit : Nat) : (t.tick limit).shown = t.shown := by
  unfold Train.tick Train.shown Train.voids
  split
  · simp [*, List.filter_cons]
    split <;> rfl
  · rfl

theorem starvedNow_tick (s : State) : s.tick.starvedNow = s.starvedNow := by
  have hroom : s.tick.layRoom = s.layRoom := by
    unfold State.layRoom
    simp only [State.tick, length_trainTick, Head.tick]
    rfl
  have hlay : s.tick.layWanted = s.layWanted := by
    unfold State.layWanted
    rw [hroom]
    rfl
  unfold State.starvedNow
  rw [hlay]
  rfl

theorem statusNow_tick (s : State) : s.tick.statusNow = s.statusNow := by
  have htrain : s.tick.train.shown = s.train.shown := shown_trainTick _ _
  unfold State.statusNow
  rw [htrain]
  rfl

theorem derived_tick {s : State} (hs : Derived s) : Derived s.tick := by
  obtain ⟨ha, hd, hstarved, hstatus⟩ := (derived_iff s).1 hs
  have hdrive : s.tick.train.drive = s.train.drive := by
    simp only [State.tick, Train.tick]
    split <;> rfl
  refine (derived_iff _).2 ⟨ha, ?_, ?_, ?_⟩
  · rw [hdrive, hd]
    exact (driveWanted_congr (s := s) (t := s.tick) (isEmpty_trainTick s.train _) rfl rfl).symm
  · rw [starvedNow_tick]
    exact hstarved
  · rw [statusNow_tick]
    exact hstatus

/-- Settles O56: a command is closed by evaluating the outputs, a reset leaves nothing starved and a status block written
afresh, and a millisecond touches nothing that they depend on. -/
theorem stepsKeepTheOutputsDerived : Obligations.StepsKeepTheOutputsDerived := by
  intro s t h hs
  unfold step at h
  split at h
  · injection h with h
    exact h ▸ derived_tick hs
  · rcases exec_closesWork h with ⟨u, -, rfl⟩ | ⟨u, hu, rfl⟩
    · exact derived_finish _ u
    · exact derived_reset hu _

end Sys2Proof
end

section
/-! SUPPORT. Frames and causes as relations that compose: what an operation may touch, which causes it may raise, and how
both pass through the closing of a command. -/

namespace Sys2Proof

open Sys2Proof.Machine

/-! ### Frames -/

/-- A frame, block by block. -/
theorem keptBut_iff (bs : List Block) (s t : State) :
    KeptBut bs s t ↔
      (.bytes ∉ bs → ∀ a, t.book.cells.read a = s.book.cells.read a) ∧ (.seq ∉ bs → t.seq = s.seq) ∧
      (.list ∉ bs → t.issue.list = s.issue.list) ∧ (.feed ∉ bs → t.issue.feed = s.issue.feed) ∧
      (.queue ∉ bs → t.train.queue = s.train.queue) ∧ (.limit ∉ bs → t.train.limitReached = s.train.limitReached) ∧
      (.line ∉ bs → t.line = s.line) ∧ (.tracker ∉ bs → t.tracker = s.tracker) ∧ (.trim ∉ bs → t.trim = s.trim) ∧
      (.head ∉ bs → t.head = s.head) ∧ (.control ∉ bs → t.control = s.control) ∧ (.cal ∉ bs → t.cal = s.cal) ∧
      (.time ∉ bs → t.time = s.time) ∧ (.mask ∉ bs → t.host.mask = s.host.mask) ∧
      (.readData ∉ bs → t.host.readData = s.host.readData) ∧ (.waiting ∉ bs → t.pending = s.pending) := by
  constructor
  · intro h
    exact ⟨h .bytes, h .seq, h .list, h .feed, h .queue, h .limit, h .line, h .tracker, h .trim, h .head, h .control,
      h .cal, h .time, h .mask, h .readData, h .waiting⟩
  · rintro ⟨h1, h2, h3, h4, h5, h6, h7, h8, h9, h10, h11, h12, h13, h14, h15, h16⟩ b
    cases b
    exacts [h1, h2, h3, h4, h5, h6, h7, h8, h9, h10, h11, h12, h13, h14, h15, h16]

theorem keptBut_trans {bs : List Block} {s t u : State} (h1 : KeptBut bs s t) (h2 : KeptBut bs t u) : KeptBut bs s u := by
  intro b hb
  have hst := h1 b hb
  have htu := h2 b hb
  cases b
  case bytes => exact fun a => (htu a).trans (hst a)
  all_goals exact Eq.trans htu hst

theorem keptBut_mono {bs cs : List Block} {s t : State} (h : KeptBut bs s t) (hsub : bs ⊆ cs) : KeptBut cs s t :=
  fun b hb => h b fun hb' => hb (hsub hb')

/-! ### Causes -/

/-- An operation that clears no cause, raises none but those named, and leaves the starved mark alone. -/
structure Raises (cs : List Cause) (s t : State) : Prop where
  stand : ∀ c, hasCause s c = true → hasCause t c = true
  others : ∀ c, c ∉ cs → hasCause t c = hasCause s c
  starved : t.issue.starved = s.issue.starved

theorem Raises.of_eq {cs : List Cause} {s t : State} (hc : t.host.cause = s.host.cause)
    (hs : t.issue.starved = s.issue.starved) : Raises cs s t :=
  ⟨fun c h => (hasCause_congr hc c).trans h, fun c _ => hasCause_congr hc c, hs⟩

theorem Raises.refl (cs : List Cause) (s : State) : Raises cs s s := .of_eq rfl rfl

theorem Raises.mono {cs ds : List Cause} {s t : State} (h : Raises cs s t) (hsub : cs ⊆ ds) : Raises ds s t :=
  ⟨h.stand, fun c hc => h.others c fun hc' => hc (hsub hc'), h.starved⟩

theorem Raises.trans {cs : List Cause} {s t u : State} (h1 : Raises cs s t) (h2 : Raises cs t u) : Raises cs s u :=
  ⟨fun c h => h2.stand c (h1.stand c h), fun c hc => (h2.others c hc).trans (h1.others c hc),
    h2.starved.trans h1.starved⟩

theorem raises_raise (s : State) (c : Cause) : Raises [c] s (s.raise c) :=
  ⟨fun d hd => by simp [hd], fun d hd => by simp [List.ne_of_not_mem_cons hd], rfl⟩

/-! ### Both together -/

/-- An operation touches no block but those named and raises no cause but those named. -/
structure Touches (bs : List Block) (cs : List Cause) (s t : State) : Prop where
  frame : KeptBut bs s t
  causes : Raises cs s t

theorem Touches.refl (bs : List Block) (cs : List Cause) (s : State) : Touches bs cs s s :=
  ⟨keptBut_refl bs s, .refl cs s⟩

theorem Touches.trans {bs : List Block} {cs : List Cause} {s t u : State} (h1 : Touches bs cs s t)
    (h2 : Touches bs cs t u) : Touches bs cs s u :=
  ⟨keptBut_trans h1.frame h2.frame, h1.causes.trans h2.causes⟩

theorem Touches.mono {bs bs' : List Block} {cs cs' : List Cause} {s t : State} (h : Touches bs cs s t)
    (hb : bs ⊆ bs' := by decide) (hc : cs ⊆ cs' := by decide) : Touches bs' cs' s t :=
  ⟨keptBut_mono h.frame hb, h.causes.mono hc⟩

theorem Touches.foldl {α : Type} {bs : List Block} {cs : List Cause} {f : State → α → State}
    (h : ∀ s x, Touches bs cs s (f s x)) : ∀ (l : List α) (s : State), Touches bs cs s (l.foldl f s)
  | [], s => .refl bs cs s
  | x :: l, s => (h s x).trans (Touches.foldl h l (f s x))

theorem touches_raise (s : State) (c : Cause) : Touches [] [c] s (s.raise c) :=
  ⟨by simp [keptBut_iff], raises_raise s c⟩

/-- An operation that raises nothing, judged by its frame. -/
theorem touches_of_frame {bs : List Block} {s t : State} (h : KeptBut bs s t) (hc : t.host.cause = s.host.cause)
    (hs : t.issue.starved = s.issue.starved) : Touches bs [] s t := ⟨h, .of_eq hc hs⟩

/-- What an operation touches is what the command closed after it touches. -/
theorem Touches.closed {bs : List Block} {cs : List Cause} {s u : State} (h : Touches bs cs s u) :
    KeptBut bs s (finish s u) ∧ CausesKeptBut cs s (finish s u) :=
  ⟨keptBut_finish h.frame, causesKeptBut_finish h.causes.others h.causes.starved⟩

/-- A cause that stands before a command is closed stands after it. -/
theorem hasCause_finish_raised (old : State) {u : State} {c : Cause} (h : hasCause u c = true) :
    hasCause (finish old u) c = true := hasCause_finish_of old u c h

theorem noEffect_of_exec {c : Instr} {s : State} (h : exec c s = answer s s) : NoEffect c s :=
  ⟨_, h, (Touches.refl [] [] s).closed⟩

/-! ### The blocks that operations replace -/

theorem touches_withControl (s : State) (x : Control) : Touches [.control] [] s (s.withControl x) :=
  touches_of_frame (by simp [keptBut_iff]) rfl rfl

theorem touches_withTrim (s : State) (x : Trim) : Touches [.trim] [] s (s.withTrim x) :=
  touches_of_frame (by simp [keptBut_iff]) rfl rfl

theorem touches_withTracker (s : State) (x : Tracker) : Touches [.tracker] [] s (s.withTracker x) :=
  touches_of_frame (by simp [keptBut_iff]) rfl rfl

theorem touches_withCal (s : State) (x : Calibration) : Touches [.cal] [] s (s.withCal x) :=
  touches_of_frame (by simp [keptBut_iff]) rfl rfl

theorem touches_withLine (s : State) (x : StationLine) : Touches [.line] [] s (s.withLine x) :=
  touches_of_frame (by simp [keptBut_iff]) rfl rfl

theorem touches_withSeq (s : State) (x : Sequencer) : Touches [.seq] [] s (s.withSeq x) :=
  touches_of_frame (by simp [keptBut_iff]) rfl rfl

theorem touches_withHead (s : State) (x : Head) : Touches [.head] [] s (s.withHead x) :=
  touches_of_frame (by simp [keptBut_iff]) rfl rfl

theorem touches_putHead (s : State) (x : Head) : Touches [.head] [] s (s.putHead x) :=
  touches_of_frame (by simp [keptBut_iff]) rfl rfl

theorem touches_setStation (s : State) (p : Position) (x : Station) : Touches [.line] [] s (s.setStation p x) :=
  touches_of_frame (by simp [keptBut_iff]) rfl rfl

theorem touches_setWord (s : State) (a : Nat) (v : Word) : Touches [.bytes] [] s (s.setWord a v) :=
  touches_of_frame (by simp [keptBut_iff]) rfl rfl

end Sys2Proof
end

section
/-! SUPPORT. The step and the passing of time, the vote and the arithmetic of the trim stage, carried height correction and
frames: statements about the model's functions on values. -/

namespace Sys2Proof

open Sys2Proof.Machine

/-! ### The step -/

/-- Settles O1: `step` is defined by the front of the queue. -/
theorem stepRunsFrontCommand : Obligations.StepRunsFrontCommand := by
  intro s c rest h
  rw [step, h]

theorem exec_completes (c : Instr) (s : State) : ∃ t, exec c s = .next t := by
  cases c
  case reset inputs =>
    change ∃ t, execReset inputs s = .next t
    unfold execReset
    split <;> exact ⟨_, rfl⟩
  all_goals exact ⟨_, rfl⟩

theorem Work.pending {s u : State} (hu : Work s u) : u.pending = s.pending := by
  cases hu with
  | takeBytesGap bs => simp
  | _ => simp

/-- Settles O3: every command closes a work or a reset, and none of them touches the queue. -/
theorem everyCommandCompletes : Obligations.EveryCommandCompletes := by
  intro c s
  obtain ⟨t, ht⟩ := exec_completes c s
  refine ⟨t, ht, ?_⟩
  rcases exec_closesWork ht with ⟨u, hu, rfl⟩ | ⟨u, hu, rfl⟩
  · simpa using hu.pending
  · cases hu with
    | power inputs e w => simp [State.controlReset, State.resetBlocks, State.powerUp]
    | control inputs => simp [State.controlReset, State.resetBlocks]

theorem step_idle {s : State} (h : s.pending = []) : step s = .next s.tick := by rw [step, h]

theorem trainTick_stopped {t : Train} (limit : Nat) (h : t.drive = false ∨ t.queue = []) :
    t.tick limit = { t with limitReached := false } := by
  unfold Train.tick
  split
  · rename_i hq hd
    rcases h with h | h
    · rw [h] at hd
      cases hd
    · rw [h] at hq
      cases hq
  · rfl

theorem trainTick_running {t : Train} {c : Carrier} {rest : List Carrier} (limit : Nat) (hd : t.drive = true)
    (hq : t.queue = c :: rest) :
    t.tick limit = { t with
      queue := { c with running := min 60000 (c.running + 1) } :: rest
      limitReached := decide (limit * 1000 ≤ min 60000 (c.running + 1)) } := by
  simp [Train.tick, hd, hq, runningMax]

/-- Settles O2: the tick, block by block; of the train, by whether a carrier is timed. -/
theorem idleStepCountsOneMillisecond : Obligations.IdleStepCountsOneMillisecond := by
  intro s h
  refine ⟨s.tick, step_idle h, rfl, rfl, rfl, rfl, fun hstop => trainTick_stopped _ hstop, ?_, fun p => at_tick s p, rfl,
    rfl, rfl, rfl, rfl, rfl, rfl, rfl, rfl, ?_⟩
  · rintro c rest n hd hq rfl
    exact trainTick_running _ hd hq
  · simp [keptBut_iff, State.tick]

/-! ### The vote (R111) -/

theorem magnitude_le_iff (x b : Int) : magnitude x ≤ b ↔ -b ≤ x ∧ x ≤ b := by
  unfold magnitude
  split <;> omega

/-- The wrapped difference is the one that differs by whole turns and lies in −18000..17999. -/
theorem wrapYaw_spec (d : Int) : -18000 ≤ wrapYaw d ∧ wrapYaw d < 18000 ∧ ∃ n : Int, wrapYaw d = d + 36000 * n := by
  unfold wrapYaw
  exact ⟨by omega, by omega, -((d + 18000) / 36000), by omega⟩

theorem wrapYaw_unique {d n : Int} (h1 : -18000 ≤ d + 36000 * n) (h2 : d + 36000 * n < 18000) :
    wrapYaw d = d + 36000 * n := by
  unfold wrapYaw
  omega

theorem agree_iff (p : Profile) (a b : Pose) :
    agree p a b = true ↔
      (-p.windowXYZ ≤ a.x - b.x ∧ a.x - b.x ≤ p.windowXYZ) ∧ (-p.windowXYZ ≤ a.y - b.y ∧ a.y - b.y ≤ p.windowXYZ) ∧
        (-p.windowXYZ ≤ a.z - b.z ∧ a.z - b.z ≤ p.windowXYZ) ∧
        ∃ n : Int, -18000 ≤ a.yaw - b.yaw + 36000 * n ∧ a.yaw - b.yaw + 36000 * n < 18000 ∧
          -p.windowYaw ≤ a.yaw - b.yaw + 36000 * n ∧ a.yaw - b.yaw + 36000 * n ≤ p.windowYaw := by
  have hyaw : magnitude (wrapYaw (a.yaw - b.yaw)) ≤ p.windowYaw ↔
      ∃ n : Int, -18000 ≤ a.yaw - b.yaw + 36000 * n ∧ a.yaw - b.yaw + 36000 * n < 18000 ∧
        -p.windowYaw ≤ a.yaw - b.yaw + 36000 * n ∧ a.yaw - b.yaw + 36000 * n ≤ p.windowYaw := by
    rw [magnitude_le_iff]
    constructor
    · intro h
      obtain ⟨h1, h2, n, hn⟩ := wrapYaw_spec (a.yaw - b.yaw)
      rw [hn] at h h1 h2
      exact ⟨n, h1, h2, h⟩
    · rintro ⟨n, h1, h2, h⟩
      rw [wrapYaw_unique h1 h2]
      exact h
  simp only [agree, decide_eq_true_eq, magnitude_le_iff, ← hyaw]

/-- Settles O38: the table read off from `voteClass` and `voteHistory`, and agreement axis by axis. -/
theorem sampleVoteFollowsTheTable : Obligations.SampleVoteFollowsTheTable := by
  refine ⟨fun p older newer c h => by simp [voteClass, h], fun p older newer c h1 h2 => by simp [voteClass, h1, h2],
    fun p older newer c h1 h2 h3 => by simp [voteClass, h1, h2, h3],
    fun p older newer c h1 h2 h3 => by simp [voteClass, h1, h2, h3], fun p history c h => ?_,
    fun h1 c => ⟨rfl, rfl⟩, fun older newer c => ⟨rfl, fun cls h => by simp [voteHistory, h]⟩, agree_iff⟩
  unfold voteClass
  split
  · simp at h
  · rfl

/-! ### The arithmetic of the trim stage (R127 to R131) -/

/-- The values of a clamp, as the manual describes it. -/
theorem clamped_clampInt {lo hi : Int} (h : lo ≤ hi) (x : Int) : Clamped lo hi x (clampInt lo hi x) := by
  unfold Clamped clampInt
  refine ⟨fun h1 h2 => ?_, fun h1 => ?_, fun h1 => ?_⟩
  · rw [if_neg (by omega), if_neg (by omega)]
  · rw [if_pos h1]
  · rw [if_neg (by omega), if_pos h1]

theorem poseYaw_spec (d : Int) : 0 ≤ poseYaw d ∧ poseYaw d < 36000 ∧ ∃ n : Int, poseYaw d = d + 36000 * n := by
  unfold poseYaw
  exact ⟨by omega, by omega, -(d / 36000), by omega⟩

/-- A slew step goes to the demand, or the limit's width toward it. -/
theorem clamped_slewStep {limit : Int} (hl : 0 ≤ limit) (demand current : Int) :
    Clamped (current - limit) (current + limit) demand (slewStep limit demand current) := by
  unfold Clamped slewStep
  simp only [magnitude_le_iff]
  refine ⟨fun h1 h2 => ?_, fun h1 => ?_, fun h1 => ?_⟩
  · rw [if_pos (by omega)]
  · rw [if_neg (by omega), if_neg (by omega)]
  · rw [if_neg (by omega), if_pos (by omega)]

/-- A slew step and the clamp to the range, on one axis. -/
theorem slewedAndClamped {limit range : Int} (hl : 0 ≤ limit) (hr : 0 ≤ range) (demand current : Int) :
    SlewedAndClamped limit range demand current (clampRange range (slewStep limit demand current)) :=
  ⟨slewStep limit demand current, clamped_slewStep hl demand current, clamped_clampInt (by omega) _⟩

theorem withinTolerance_iff (p : Profile) (k : Kind) (d : Pose) :
    withinTolerance p k d = true ↔
      Within p.toleranceXY d.x ∧ Within p.toleranceXY d.y ∧ Within p.toleranceZ d.z ∧
        (k = .lay → Within p.toleranceYaw d.yaw) := by
  simp only [withinTolerance, decide_eq_true_eq, magnitude_le_iff, Within]
  cases k <;> simp

/-- Settles O39, function by function. -/
theorem trimArithmeticFollowsTheRules : Obligations.TrimArithmeticFollowsTheRules := by
  refine ⟨?_, fun p a g => ⟨fun h => by simp [effectiveTarget, h], fun h => by simp [effectiveTarget, h]⟩, ?_, ?_,
    withinTolerance_iff⟩
  · rintro h o g rfl
    exact ⟨rfl, rfl, rfl, (poseYaw_spec _).1, (poseYaw_spec _).2.1, (poseYaw_spec _).2.2⟩
  · rintro x g e rfl
    obtain ⟨h1, h2, n, hn⟩ := wrapYaw_spec (x.yaw - g.yaw)
    exact ⟨rfl, rfl, rfl, h1, h2, n, hn⟩
  · rintro p r a cur next rfl h1 h2 h3 h4 h5 h6 h7
    exact ⟨slewedAndClamped h1 h4 _ _, slewedAndClamped h1 h5 _ _, slewedAndClamped h2 h6 _ _,
      slewedAndClamped h3 h7 _ _⟩

/-! ### Carried height correction (R40) -/

/-- The quotient truncated toward zero, from its description. -/
theorem tdiv_eq_of_truncates {sum q : Int} {n : Nat} (hn : 0 < n)
    (h : q * n ≤ sum ∧ sum < (q + 1) * n ∧ 0 ≤ sum ∨ (q - 1) * n < sum ∧ sum ≤ q * n ∧ sum ≤ 0) :
    sum.tdiv (n : Int) = q := by
  have hpos : (0 : Int) < n := by exact_mod_cast hn
  rcases h with ⟨h1, h2, h3⟩ | ⟨h1, h2, h3⟩
  · rw [Int.tdiv_eq_ediv_of_nonneg h3]
    exact (Int.ediv_eq_iff_of_pos hpos).2 ⟨h1, by linarith⟩
  · have hneg : (-sum).tdiv (n : Int) = -q := by
      rw [Int.tdiv_eq_ediv_of_nonneg (by omega)]
      exact (Int.ediv_eq_iff_of_pos hpos).2 ⟨by linarith, by linarith⟩
    rw [Int.neg_tdiv] at hneg
    omega

/-- Settles O52: `computeZc` clamps the truncated quotient. -/
theorem carriedCorrectionTruncatesAndClamps : Obligations.CarriedCorrectionTruncatesAndClamps := by
  refine ⟨fun sum zmax => by simp [computeZc], fun sum n zmax hz => ?_, fun sum n q zmax hn hz hq => ?_⟩
  · unfold computeZc
    split
    · exact ⟨by omega, hz⟩
    · exact clampInt_bounds (by omega) _
  · have hzc : computeZc sum n zmax = clampInt (-zmax) zmax q := by
      rw [computeZc, if_neg (by omega), tdiv_eq_of_truncates hn hq]
    obtain ⟨h1, h2, h3⟩ := clamped_clampInt (lo := -zmax) (hi := zmax) (by omega) q
    rw [hzc]
    exact ⟨fun h => h1 h.1 h.2, h3, h2⟩

/-! ### Frames -/

theorem byteSum_append (l m : List Byte) : byteSum (l ++ m) = byteSum l + byteSum m := by
  have hfrom : ∀ (m : List Byte) (a : Byte), m.foldl (· + ·) a = a + byteSum m := by
    intro m
    induction m with
    | nil => simp [byteSum]
    | cons b m ih =>
      intro a
      have hb : byteSum (b :: m) = 0 + b + byteSum m := ih (0 + b)
      rw [List.foldl_cons, ih, hb]
      simp [BitVec.add_assoc]
  rw [byteSum, List.foldl_append, hfrom]
  rfl

/-- The check byte brings the sum to 0. -/
theorem byteSum_withCheck (l : List Byte) : byteSum (withCheck l) = 0 := by
  unfold withCheck
  rw [byteSum_append]
  simp [byteSum]

/-- Settles O53: frames sent are closed by their check byte; the judges of frames received look at the sum. -/
theorem framesSumToZero : Obligations.FramesSumToZero := by
  refine ⟨fun p c => ⟨byteSum_withCheck _, ?_⟩, fun n e sp => ⟨byteSum_withCheck _, ?_⟩, fun bytes h => ?_,
    fun p q lead w0 w1 rest hlen hne h => ?_⟩
  · simp [commandFrame, withCheck]
    omega
  · simp [setPointFrame, withCheck, signed16Bytes]
  · unfold judgeFrame
    split
    · rw [if_pos (.inl h)]
    · rfl
  · have hpos : 0 < rest.length := List.length_pos_iff.2 hne
    have hn : (BitVec.ofNat 8 (rest.length - 1)).toNat = rest.length - 1 := by
      rw [BitVec.toNat_ofNat, Nat.mod_eq_of_lt (by omega)]
    have hall : (lead :: w0 :: w1 :: BitVec.ofNat 8 (rest.length - 1) :: rest).take (5 + (rest.length - 1)) =
        lead :: w0 :: w1 :: BitVec.ofNat 8 (rest.length - 1) :: rest :=
      List.take_of_length_le (by simp; omega)
    unfold judgeReply
    dsimp only
    rw [hn, if_neg (by omega), if_neg (by omega), hall, if_pos (.inr h)]

end Sys2Proof
end

section
/-! SUPPORT. Host writes that store a word, are discarded or do nothing (chapter 1): the header, fields of entries and course
records, jog and profile words, the calibration image and the state words of course records. -/

namespace Sys2Proof

open Sys2Proof.Machine

/-! ### The book through the closing of a command -/

@[simp] theorem read_finish (old u : State) (a : Nat) :
    (finish old u).book.cells.read a = u.book.cells.read a := by rw [(finish_frame old u).2.2.1]

@[simp] theorem word_finish (old u : State) (a : Nat) : (finish old u).word a = u.word a :=
  State.word_congr (by simp) a

@[simp] theorem entryState_finish (old u : State) (i : EntryIx) : (finish old u).entryState i = u.entryState i :=
  State.entryState_congr (word_finish _ _ _)

@[simp] theorem courseState_finish (old u : State) (k : Slot) : (finish old u).courseState k = u.courseState k :=
  State.courseState_congr (word_finish _ _ _)

@[simp] theorem courseFigures_finish (old u : State) (k : Slot) : (finish old u).courseFigures k = u.courseFigures k :=
  State.courseFigures_congr fun _ _ _ => word_finish _ _ _

/-! ### Storing a word -/

theorem storesWord_setWord {s : State} {a : Nat} (v : Word) (h : BookWf s) (ha : a + 4 ≤ 65536) :
    StoresWord a v s (s.setWord a v) :=
  ⟨State.word_setWord s a v h ha, fun x hx => State.read_setWord_ne s a x v h ha hx⟩

theorem storesWord_finish {a : Nat} {v : Word} {s u : State} (old : State) (h : StoresWord a v s u) :
    StoresWord a v s (finish old u) :=
  ⟨(word_finish _ _ _).trans h.1, fun x hx => (read_finish _ _ _).trans (h.2 x hx)⟩

/-- A command whose whole work is to store a word of the book. -/
theorem stores_of_exec {c : Instr} {s : State} {a : Nat} {v : Word} (h : exec c s = answer s (s.setWord a v))
    (hw : BookWf s) (ha : a + 4 ≤ 65536) :
    ∃ t, exec c s = .next t ∧ StoresWord a v s t ∧ KeptBut [.bytes] s t ∧ CausesKeptBut [] s t :=
  ⟨_, h, storesWord_finish s (storesWord_setWord v hw ha), (touches_setWord s a v).closed⟩

/-! ### The boom word and the bin-emptied word (R15, R16, R181) -/

theorem exec_boomWordWrite (v : Word) (s : State) :
    exec (.boomWordWrite v) s = answer s ((s.setWord boomWordAddr v).holdBoom (decide (v ≠ 0))) := rfl

theorem holdBoom_control (s : State) (b : Bool) : (s.holdBoom b).control = { s.control with boomMoving := b } := by
  unfold State.holdBoom
  split
  · rename_i h
    simp only [Bool.and_eq_true] at h
    simp [h.1]
  · rfl

/-- A change to MOVING returns the settle count to 0. -/
theorem holdBoom_trim (s : State) (b : Bool) :
    (s.holdBoom b).trim =
      if b = true ∧ s.control.boomMoving = false then { s.trim with settleCount := 0 } else s.trim := by
  unfold State.holdBoom
  cases b <;> cases h : s.control.boomMoving <;> simp [State.zeroSettle]

theorem touches_holdBoom (s : State) (b : Bool) : Touches [.control, .trim] [] s (s.holdBoom b) := by
  unfold State.holdBoom
  split
  · exact touches_of_frame (by simp [keptBut_iff]) (by simp) (by simp)
  · exact (touches_withControl s _).mono

theorem boomWordWrite_stores (v : Word) (s : State) (hw : BookWf s) :
    ∃ t, exec (.boomWordWrite v) s = .next t ∧ StoresWord boomWordAddr v s t ∧
      t.control = { s.control with boomMoving := decide (v ≠ 0) } ∧
      (v ≠ 0 → s.control.boomMoving = false → t.trim = { s.trim with settleCount := 0 }) ∧
      (v = 0 ∨ s.control.boomMoving = true → t.trim = s.trim) ∧
      KeptBut [.bytes, .control, .trim] s t ∧ CausesKeptBut [] s t := by
  have htrim := holdBoom_trim (s.setWord boomWordAddr v) (decide (v ≠ 0))
  refine ⟨_, exec_boomWordWrite v s, storesWord_finish s ?_, ?_, fun hv hb => ?_, fun h => ?_, Touches.closed ?_⟩
  · obtain ⟨hword, hbytes⟩ := storesWord_setWord v hw (a := boomWordAddr) (by decide)
    exact ⟨(State.word_congr (by simp) _).trans hword, fun x hx => by simpa using hbytes x hx⟩
  · simpa using holdBoom_control (s.setWord boomWordAddr v) (decide (v ≠ 0))
  · rw [if_pos ⟨decide_eq_true hv, by simpa using hb⟩] at htrim
    simpa using htrim
  · rcases h with h | h <;> simpa [h] using htrim
  · exact (touches_setWord s _ v).mono.trans (touches_holdBoom _ _).mono

theorem ejecting_iff (h : Head) : h.ejecting = true ↔ h.bay.state = .ejecting ∨ h.gripper.state = .ejecting := by
  simp [Head.ejecting]

theorem exec_binEmptiedWrite (v : Word) (s : State) :
    exec (.binEmptiedWrite v) s =
      answer s (if s.head.ejecting then s.discardWrite else s.putHead { s.head with binCount := 0 }) := rfl

theorem binEmptiedWrite_empties {v : Word} {s : State} (hb : s.head.bay.state ≠ .ejecting)
    (hg : s.head.gripper.state ≠ .ejecting) :
    ∃ t, exec (.binEmptiedWrite v) s = .next t ∧ t.head = { s.head with binCount := 0 } ∧
      (s.word binEmptiedAddr = 0 → t.word binEmptiedAddr = 0) ∧ KeptBut [.head] s t ∧ CausesKeptBut [] s t := by
  have h : ¬s.head.ejecting = true := fun h => ((ejecting_iff _).1 h).elim hb hg
  refine ⟨_, by rw [exec_binEmptiedWrite, if_neg h]; rfl, by simp, fun h0 => ?_, (touches_putHead s _).closed⟩
  rw [word_finish]
  exact h0

/-- Settles O9: the boom word, then the bin-emptied word by whether an eject is in progress. -/
theorem headerWordsTakeEffect : Obligations.HeaderWordsTakeEffect := by
  refine ⟨boomWordWrite_stores, fun v s hb hg => binEmptiedWrite_empties hb hg, fun v s h => ?_⟩
  exact discarded_of_exec (by rw [exec_binEmptiedWrite, if_pos ((ejecting_iff _).2 h)])

/-! ### Words that take no write (R1, R2, R3, R11, R14, R20, R182) -/

theorem inFlight_eq_true_iff (e : EntryState) :
    e.inFlight = true ↔ e = .issued ∨ e = .transit ∨ e = .head ∨ e = .placing := by
  cases e <;> simp [EntryState.inFlight]

/-- The words of an entry take writes when it is known and not in flight. -/
theorem entryWritable_iff (s : State) (i : EntryIx) :
    s.entryWritable i = true ↔ ∃ e, s.entryState i = some e ∧ e.inFlight = false := by
  unfold State.entryWritable
  split <;> rename_i h
  · simp [h]
  · simp [h]

theorem not_entryWritable_inFlight {s : State} {i : EntryIx} (h : InFlight s i) : s.entryWritable i = false := by
  rw [Bool.eq_false_iff, Ne, entryWritable_iff]
  rintro ⟨e, he, hf⟩
  rcases h with h | h | h | h <;> rw [h] at he <;> cases he <;> cases hf

/-- Host writes but CONFIRM to an entry in flight are discarded. -/
theorem writesEntry_discarded {c : Instr} {i : EntryIx} {s : State} (hc : WritesEntry i c) (h : InFlight s i) :
    Discarded c s := by
  have hnot := not_entryWritable_inFlight h
  apply discarded_of_exec
  cases c with
  | entryPostWrite j =>
    cases hc
    change answer s (s.postEntry i) = _
    rcases h with h | h | h | h <;> simp [State.postEntry, h]
  | entryFreeWrite j =>
    cases hc
    change answer s (s.freeEntry i) = _
    rcases h with h | h | h | h <;> simp [State.freeEntry, h, EntryState.terminal]
  | entryCancelWrite j =>
    cases hc
    change answer s (s.cancelWrite i) = _
    rcases h with h | h | h | h <;> simp [State.cancelWrite, h]
  | entryFieldWrite j w v =>
    cases hc
    change answer s (if s.entryWritable i then _ else _) = _
    rw [hnot]
    rfl
  | stateWriteDiscarded target code =>
    cases target with
    | entry j =>
      cases hc
      change answer s (if s.entryWritable i && _ then _ else _) = _
      rw [hnot]
      rfl
    | course k => cases hc
  | _ => cases hc

theorem exec_stateWriteDiscarded (target : StateWordOf) (code : Byte) (s : State) :
    exec (.stateWriteDiscarded target code) s = answer s (if s.holdsCode target code then s else s.discardWrite) := rfl

theorem stateWrite_noEffect {target : StateWordOf} {code : Byte} {s : State} (h : s.holdsCode target code = true) :
    NoEffect (.stateWriteDiscarded target code) s :=
  noEffect_of_exec (by rw [exec_stateWriteDiscarded, if_pos h])

theorem stateWrite_discarded {target : StateWordOf} {code : Byte} {s : State} (h : ¬s.holdsCode target code = true) :
    Discarded (.stateWriteDiscarded target code) s :=
  discarded_of_exec (by rw [exec_stateWriteDiscarded, if_neg h])

/-- Settles O10: the words that no write reaches, the writes to an entry in flight, and the codes that no row takes by
whether the record holds them. -/
theorem protectedWordsTakeNoWrite : Obligations.ProtectedWordsTakeNoWrite := by
  refine ⟨fun o lanes v s => discarded_of_exec rfl, fun o v s => discarded_of_exec rfl,
    fun o v s => discarded_of_exec rfl, fun v s => discarded_of_exec rfl, fun r lanes v s => noEffect_of_exec rfl,
    fun c i s hc h => writesEntry_discarded hc h, fun i e code s _ he hf hcode => stateWrite_noEffect ?_,
    fun i code s _ h => stateWrite_discarded ?_, fun k e code s _ he hne hcode => stateWrite_noEffect ?_,
    fun k code s _ h => stateWrite_discarded ?_⟩
  · simpa [State.holdsCode, hcode] using (entryWritable_iff s i).2 ⟨e, he, hf⟩
  · rcases h with h | h
    · simp [State.holdsCode, not_entryWritable_inFlight h]
    · simp [State.holdsCode, h]
  · simp [State.holdsCode, he, hne, hcode]
  · rcases h with h | h <;> simp [State.holdsCode, h]

/-! ### Fields, jog and profile words, the image (R11, R17, R18, R21) -/

theorem entryFieldWrite_stores {i : EntryIx} (w : EntryWord) (v : Word) {s : State} (hw : BookWf s)
    (h : s.entryWritable i = true) :
    ∃ t, exec (.entryFieldWrite i w v) s = .next t ∧
      StoresWord (entryAddr i (entryWordNumber w)) (v &&& entryWordMask w) s t ∧ KeptBut [.bytes] s t ∧
      CausesKeptBut [] s t := by
  refine stores_of_exec ?_ hw (entryAddr_fits i _ (entryWordNumber_lt w))
  change answer s (if s.entryWritable i then _ else _) = _
  rw [if_pos h]

theorem exec_calImageWrite (j : Fin 32) (v : Word) (s : State) :
    exec (.calImageWrite j v) s = answer s (if s.cal.busy then s.discardWrite else s.setWord (imageAddr j.val) v) := rfl

/-- Settles O15, word by word; the image by whether a commit is busy. -/
theorem fieldWritesAreKept : Obligations.FieldWritesAreKept := by
  refine ⟨fun i w v e s hw he hf => entryFieldWrite_stores w v hw ((entryWritable_iff s i).2 ⟨e, he, hf⟩),
    fun axis v s hw => stores_of_exec rfl hw (jogAddr_fits axis),
    fun f v s hw => stores_of_exec rfl hw (profileAddr_fits f), fun j v s hw hb => ?_, fun j v s hb => ?_⟩
  · exact stores_of_exec (by rw [exec_calImageWrite, hb]; rfl) hw (imageAddr_fits j)
  · exact discarded_of_exec (by rw [exec_calImageWrite, hb]; rfl)

/-! ### Course records (R14) -/

/-- A command whose whole work is to write the state word of a course record. -/
theorem setsCourse_of_exec {c : Instr} {s : State} {k : Slot} {x : CourseState}
    (h : exec c s = answer s (s.setCourseState k x)) (hw : BookWf s) :
    ∃ t, exec c s = .next t ∧ StoresWord (courseAddr k 1) ((courseCodeOf x).zeroExtend 32) s t ∧
      t.courseState k = some x ∧ KeptBut [.bytes] s t ∧ CausesKeptBut [] s t := by
  obtain ⟨t, ht, hstores, hframe⟩ := stores_of_exec (a := courseAddr k 1) h hw (courseAddr_fits k 1 (by omega))
  have hstate : t = finish s (s.setCourseState k x) := by
    rw [h] at ht
    injection ht with ht
    exact ht.symm
  exact ⟨t, ht, hstores, by rw [hstate, courseState_finish, State.courseState_setCourseState _ _ _ hw], hframe⟩

theorem courseOpenWrite_cases (k : Slot) (s : State) :
    exec (.courseOpenWrite k) s = answer s
      (match s.courseState k with
        | some .empty => s.setCourseState k .opened
        | some .opened => s
        | _ => s.discardWrite) := rfl

theorem courseEmptyWrite_cases (k : Slot) (s : State) :
    exec (.courseEmptyWrite k) s = answer s
      (match s.courseState k with
        | some .opened | some .closed => s.setCourseState k .empty
        | some .empty => s
        | _ => s.discardWrite) := rfl

theorem exec_courseFieldWrite (k : Slot) (w : CourseWord) (v : Word) (s : State) :
    exec (.courseFieldWrite k w v) s = answer s
      (if s.courseWritable k w then s.setWord (courseAddr k (courseWordNumber w)) (v &&& courseWordMask w)
      else s.discardWrite) := rfl

theorem courseWritable_iff (s : State) (k : Slot) (w : CourseWord) :
    s.courseWritable k w = true ↔ s.courseState k ≠ some .active ∧ w ≠ .updateCount := by
  simp [State.courseWritable]

/-- Settles O16, write by write and state by state. -/
theorem courseRecordTakesHostWrites : Obligations.CourseRecordTakesHostWrites := by
  refine ⟨fun k s hw h => ?_, fun k s hw h => ?_, fun k s h => ?_, fun k s h => ?_, fun k s h => ?_, fun k s h => ?_,
    fun k w v e s hw he hne hup => ?_, fun k w v s h => ?_⟩
  · exact setsCourse_of_exec (x := .opened) (by rw [courseOpenWrite_cases, h]) hw
  · exact setsCourse_of_exec (x := .empty) (by rcases h with h | h <;> rw [courseEmptyWrite_cases, h]) hw
  · exact noEffect_of_exec (by rw [courseOpenWrite_cases, h])
  · exact noEffect_of_exec (by rw [courseEmptyWrite_cases, h])
  · exact discarded_of_exec (by rcases h with h | h <;> rw [courseOpenWrite_cases, h])
  · exact discarded_of_exec (by rw [courseEmptyWrite_cases, h])
  · have hok : s.courseWritable k w = true := (courseWritable_iff s k w).2 ⟨by simp [he, hne], hup⟩
    exact stores_of_exec (by rw [exec_courseFieldWrite, if_pos hok]) hw
      (courseAddr_fits k _ (courseWordNumber_lt w))
  · have hno : ¬s.courseWritable k w = true := fun hok =>
      h.elim ((courseWritable_iff s k w).1 hok).1 ((courseWritable_iff s k w).1 hok).2
    exact discarded_of_exec (by rw [exec_courseFieldWrite, if_neg hno])

end Sys2Proof
end

section
/-! SUPPORT. What the operations of the part touch and which causes they may raise: counting, feeds, voiding, failed attempts,
HALT and the head operations. -/

namespace Sys2Proof

open Sys2Proof.Machine

/-- What the failure of an attempt may touch: the entries and their counts, the list, and the bricks that it voids. -/
def failBlocks : List Block := [.bytes, .seq, .list, .feed, .queue, .line, .trim, .head]

/-! ### Entries and counts -/

theorem touches_setEntryState (s : State) (i : EntryIx) (e : EntryState) : Touches [.bytes] [] s (s.setEntryState i e) :=
  touches_setWord s _ _

theorem touches_finishEntry (s : State) (i : EntryIx) (e : EntryState) (r : ResultCode) :
    Touches [.bytes] [] s (s.finishEntry i e r) :=
  ((touches_setWord s _ _).trans (touches_setWord _ _ _)).trans (touches_setEntryState _ i e)

theorem touches_setCourseFigures (s : State) (k : Slot) (f : CourseFigures) :
    Touches [.bytes] [] s (s.setCourseFigures k f) :=
  touches_of_frame (by simp [keptBut_iff]) (by simp) (by simp)

theorem touches_bumpCourse (s : State) (k : Slot) : Touches [.bytes] [] s (s.bumpCourse k) := touches_setWord s _ _

theorem touches_closeCourse (s : State) (k : Slot) : Touches [.bytes, .seq] [.courseClosed] s (s.closeCourse k) := by
  unfold State.closeCourse
  extract_lets f s1 x
  have h1 : Touches [.bytes, .seq] [.courseClosed] s s1 :=
    (((touches_setWord s _ _).trans (touches_setWord _ _ _)).trans (touches_bumpCourse _ k)).mono
  refine h1.trans (Touches.trans ?_ (touches_raise _ .courseClosed).mono)
  exact ⟨by simp [keptBut_iff], .of_eq (by simp) (by simp)⟩

theorem touches_countTerminal (s : State) (i : EntryIx) (e : EntryState) :
    Touches [.bytes, .seq] [.courseClosed] s (s.countTerminal i e) := by
  unfold State.countTerminal
  split
  · exact .refl _ _ s
  · rename_i k _
    split
    · extract_lets f0 f s1
      have h1 : Touches [.bytes, .seq] [.courseClosed] s s1 :=
        ((touches_setCourseFigures s k f).trans (touches_bumpCourse _ k)).mono
      split
      · exact h1.trans (touches_closeCourse s1 k)
      · exact h1
    · exact .refl _ _ s

theorem touches_uncountTerminal (s : State) (i : EntryIx) (e : EntryState) :
    Touches [.bytes] [] s (s.uncountTerminal i e) := by
  unfold State.uncountTerminal
  split
  · exact .refl _ _ s
  · split
    · exact (touches_setCourseFigures s _ _).trans (touches_bumpCourse _ _)
    · exact .refl _ _ s

theorem touches_cancelEntry (s : State) (i : EntryIx) : Touches [.bytes, .seq] [.courseClosed] s (s.cancelEntry i) :=
  (touches_finishEntry s i .cancelled .cancelled).mono.trans (touches_countTerminal _ i .cancelled)

theorem touches_cancelIfClosing (s : State) (i : EntryIx) :
    Touches [.bytes, .seq] [.courseClosed] s (s.cancelIfClosing i) := by
  unfold State.cancelIfClosing
  split
  · exact .refl _ _ s
  · split
    · exact touches_cancelEntry s i
    · exact .refl _ _ s

theorem touches_returnToPosted (s : State) (i : EntryIx) :
    Touches [.bytes, .seq] [.courseClosed] s (s.returnToPosted i) :=
  (touches_setEntryState s i .posted).mono.trans (touches_cancelIfClosing _ i)

/-! ### Feeds and bricks -/

theorem touches_removeRecord (s : State) (i : EntryIx) : Touches [.list] [] s (s.removeRecord i) :=
  touches_of_frame (by simp [keptBut_iff, State.removeRecord]) rfl rfl

theorem touches_setLocation (s : State) (i : EntryIx) (l : Location) : Touches [.list] [] s (s.setLocation i l) :=
  touches_of_frame (by simp [keptBut_iff, State.setLocation]) rfl rfl

theorem touches_dropDeferredFeed (s : State) (f : Feeder) : Touches [.line] [] s (s.dropDeferredFeed f) := by
  unfold State.dropDeferredFeed
  dsimp only
  split
  · exact touches_setStation s _ _
  · exact .refl _ _ s

theorem touches_clearFeed (s : State) : Touches [.feed, .line] [] s s.clearFeed := by
  unfold State.clearFeed
  split
  · exact .refl _ _ s
  · have h1 : Touches [.feed] [] s (s.withIssue { s.issue with feed := none }) :=
      touches_of_frame (by simp [keptBut_iff]) rfl rfl
    exact h1.mono.trans (touches_dropDeferredFeed _ _).mono

theorem touches_endFeed (s : State) : Touches [.feed, .line, .list] [] s s.endFeed := by
  unfold State.endFeed
  split
  · exact .refl _ _ s
  · split
    · exact (touches_clearFeed s).mono
    · exact (touches_clearFeed s).mono.trans (touches_setLocation _ _ _).mono

theorem touches_withFeed (s : State) (f : Option FeedPending) :
    Touches [.feed] [] s (s.withIssue { s.issue with feed := f }) := touches_of_frame (by simp [keptBut_iff]) rfl rfl

theorem touches_voidFeed (s : State) : Touches [.feed, .line] [] s s.voidFeed := by
  unfold State.voidFeed
  split
  · exact .refl _ _ s
  · split
    · exact touches_clearFeed s
    all_goals exact (touches_withFeed s _).mono

theorem touches_withdrawHead (s : State) (c : StationCommand) : Touches [.line] [] s (s.withdrawHead c) :=
  touches_withLine s _

theorem touches_voidBay (s : State) : Touches [.head, .line] [] s s.voidBay := by
  unfold State.voidBay
  extract_lets x s1 s2
  have h1 : Touches [.head, .line] [] s s1 := (touches_putHead s _).mono
  have h2 : Touches [.head, .line] [] s s2 := by
    simp only [s2]
    split
    · exact h1.trans (touches_withdrawHead _ _).mono
    · exact h1
  split
  · exact h2.trans (touches_withdrawHead _ _).mono
  · exact h2

theorem touches_endAttempt (s : State) : Touches [.trim, .head] [] s s.endAttempt :=
  touches_of_frame (by simp [keptBut_iff]) (by simp) (by simp)

theorem touches_voidGripper (s : State) : Touches [.trim, .head, .line] [] s s.voidGripper := by
  unfold State.voidGripper
  extract_lets s1 x s2
  have h2 : Touches [.trim, .head, .line] [] s s2 := (touches_endAttempt s).mono.trans (touches_putHead s1 _).mono
  clear_value s2
  split
  · exact h2.trans (touches_withdrawHead _ _).mono
  · exact h2.trans (touches_withdrawHead _ _).mono
  all_goals exact h2

theorem touches_voidAtHead (s : State) (i : EntryIx) : Touches [.trim, .head, .line] [] s (s.voidAtHead i) := by
  unfold State.voidAtHead
  split
  · exact touches_voidGripper s
  · split
    · exact (touches_voidBay s).mono
    · exact .refl _ _ s

theorem touches_voidCarrier (s : State) (i : EntryIx) : Touches [.queue] [] s (s.voidCarrier i) :=
  touches_of_frame (by simp [keptBut_iff, State.voidCarrier]) rfl rfl

theorem touches_voidBrick (s : State) (r : IssueRecord) :
    Touches [.feed, .queue, .line, .trim, .head] [] s (s.voidBrick r) := by
  unfold State.voidBrick
  split
  · exact .refl _ _ s
  · exact (touches_voidFeed s).mono
  · exact (touches_voidCarrier s _).mono
  all_goals exact (touches_voidAtHead s _).mono

/-! ### Failed attempts -/

theorem touches_displace (s : State) (r : IssueRecord) : Touches failBlocks [.courseClosed] s (s.displace r) :=
  ((touches_removeRecord s r.entry).mono.trans (touches_returnToPosted _ r.entry).mono).trans (touches_voidBrick _ r).mono

theorem touches_showTrain (s : State) : Touches [] [] s s.showTrain := touches_of_frame (by simp [keptBut_iff]) rfl rfl

theorem touches_retry (s : State) (i : EntryIx) : Touches failBlocks [.courseClosed] s (s.retry i) := by
  have h1 : Touches failBlocks [.courseClosed] s ((s.removeRecord i).returnToPosted i) :=
    (touches_removeRecord s i).mono.trans (touches_returnToPosted _ i).mono
  unfold State.retry
  dsimp only
  split
  · exact (h1.trans (Touches.foldl touches_displace _ _)).trans (touches_showTrain _).mono
  · exact h1

theorem touches_failFinally (s : State) (i : EntryIx) (r : Reason) :
    Touches [.bytes, .seq, .list] [.entryFailed, .courseClosed] s (s.failFinally i r) :=
  (((touches_removeRecord s i).mono.trans (touches_finishEntry _ i .failed (reasonResult r)).mono).trans
    (touches_countTerminal _ i .failed).mono).trans (touches_raise _ .entryFailed).mono

theorem touches_setAttempt (s : State) (i : EntryIx) (n : Nat) (r : Reason) :
    Touches [.bytes] [] s (s.setAttempt i n r) := touches_setWord s _ _

theorem touches_attemptFailure (s : State) (i : EntryIx) (r : Reason) :
    Touches failBlocks [.entryFailed, .courseClosed] s (s.attemptFailure i r) := by
  unfold State.attemptFailure
  split
  · exact .refl _ _ s
  · dsimp only
    split
    · exact (touches_setAttempt s i _ r).mono.trans (touches_retry _ i).mono
    · exact (touches_setAttempt s i _ r).mono.trans (touches_failFinally _ i r).mono

theorem touches_failAttempt (s : State) (i : EntryIx) (r : Reason) :
    Touches failBlocks [.entryFailed, .courseClosed] s (s.failAttempt i r) :=
  (touches_voidAtHead s i).mono.trans (touches_attemptFailure _ i r)

theorem touches_failContent (s : State) (c : Content) :
    Touches failBlocks [.entryFailed, .courseClosed] s (s.failContent c) := by
  unfold State.failContent
  split
  · exact touches_attemptFailure s _ _
  · exact .refl _ _ s

/-! ### HALT -/

theorem touches_voidPlaces (s : State) : Touches [.trim, .head, .line] [] s s.voidPlaces := by
  unfold State.voidPlaces
  extract_lets s1
  have h1 : Touches [.trim, .head, .line] [] s s1 := by
    simp only [s1]
    split
    · exact touches_voidGripper s
    · exact .refl _ _ s
  split
  · exact h1.trans (touches_voidBay s1).mono
  · exact h1

theorem touches_voidTrain (s : State) : Touches [.queue, .limit] [] s s.voidTrain :=
  touches_of_frame (by simp [keptBut_iff, State.voidTrain]) rfl rfl

theorem touches_emptyList (s : State) : Touches failBlocks [.courseClosed] s s.emptyList :=
  Touches.foldl touches_displace _ s

theorem touches_enterHalt (s : State) : Touches haltBlocks [.halted, .courseClosed] s s.enterHalt := by
  unfold State.enterHalt
  have h1 : Touches haltBlocks [.halted, .courseClosed] s
      ((s.withControl { s.control with state := .halt, haltHeld := false }).raise .halted) :=
    (touches_withControl s _).mono.trans (touches_raise _ _).mono
  exact (((h1.trans (touches_emptyList _).mono).trans (touches_voidFeed _).mono).trans (touches_voidPlaces _).mono).trans
    (touches_voidTrain _).mono

theorem touches_requestHalt (s : State) : Touches haltBlocks [.halted, .courseClosed] s s.requestHalt := by
  unfold State.requestHalt
  split
  · exact (touches_withControl s _).mono
  · exact .refl _ _ s
  all_goals exact touches_enterHalt s

theorem touches_trainFault (s : State) : Touches haltBlocks [.trainFault, .halted, .courseClosed] s s.trainFault :=
  (touches_raise s .trainFault).mono.trans (touches_requestHalt _).mono

/-! ### Head stations -/

theorem touches_clearGripper (s : State) : Touches [.trim, .head] [] s s.clearGripper :=
  (touches_endAttempt s).trans (touches_putHead _ _).mono

theorem touches_operationFailed (s : State) (c : StationCommand) :
    Touches failBlocks [.entryFailed, .courseClosed] s (s.operationFailed c) := by
  unfold State.operationFailed
  dsimp only
  split
  · exact (touches_putHead s _).mono.trans (touches_failContent _ _)
  · exact (touches_putHead s _).mono.trans (touches_failContent _ _)
  · exact ((touches_endAttempt s).mono.trans (touches_putHead _ _).mono).trans (touches_failContent _ _)
  · exact (touches_clearGripper s).mono.trans (touches_failContent _ _)
  · exact (touches_putHead s _).mono
  · exact (touches_putHead s _).mono
  · exact .refl _ _ s
  · exact .refl _ _ s

theorem touches_headStationFault (s : State) (c : Option StationCommand) :
    Touches haltBlocks [.headStation, .halted, .entryFailed, .courseClosed] s (s.headStationFault c) := by
  unfold State.headStationFault
  extract_lets s1
  have h1 : Touches haltBlocks [.headStation, .halted, .entryFailed, .courseClosed] s s1 := by
    simp only [s1]
    split
    · exact (touches_operationFailed s _).mono
    · exact .refl _ _ s
  exact (h1.trans (touches_raise _ .headStation).mono).trans (touches_requestHalt _).mono

end Sys2Proof
end

section
/-! SUPPORT. What an entry into HALT does (R65, R72, R163, R173): the bricks at the head, the carriers, the feed and the
entries of the list. -/

namespace Sys2Proof

open Sys2Proof.Machine

/-! ### Voiding at the head (R163) -/

theorem headGranted_iff (s : State) (c : StationCommand) : s.headGranted c = true ↔ Granted s c := by
  simp only [State.headGranted, Granted, Bool.or_eq_true, decide_eq_true_eq, or_assoc, Option.map_eq_some_iff]

/-- The trim controller holds no attempt. -/
def AttemptGone (t : Trim) : Prop := t.attempt = none ∧ t.settleTimer = none ∧ t.settleCount = 0

/-- The bay has been voided once, with its SPREAD and the TAKE of its brick. -/
def BayGone (s t : State) : Prop :=
  t.head.bay = s.head.bay.afterVoid (s.headGranted .spread) ∧
    (s.head.bay.state = .spreading → .spread ∉ t.line.headRequests) ∧
    (s.head.gripper.state = .taking →
      t.head.gripper = s.head.gripper.afterBayVoid (s.headGranted .take) ∧ .take ∉ t.line.headRequests)

/-- The gripper has been voided once, with its RELEASE or PROBE and its attempt. -/
def GripperGone (s t : State) : Prop :=
  t.head.gripper = s.head.gripper.afterVoid (s.headGranted .release) (s.headGranted .probe) ∧ AttemptGone t.trim ∧
    (s.head.gripper.state = .releasing → .release ∉ t.line.headRequests) ∧
    (s.head.gripper.state = .probing → .probe ∉ t.line.headRequests)

/-- Between two states each place at the head has been left alone or voided once. -/
structure HeadPath (s t : State) : Prop where
  granted : ∀ c, t.headGranted c = s.headGranted c
  bay : (t.head.bay = s.head.bay ∧ (s.head.gripper.state = .taking → t.head.gripper = s.head.gripper)) ∨ BayGone s t
  gripper : s.head.gripper.state ≠ .taking → t.head.gripper = s.head.gripper ∨ GripperGone s t

theorem HeadPath.refl (s : State) : HeadPath s s := ⟨fun _ => rfl, .inl ⟨rfl, fun _ => rfl⟩, fun _ => .inl rfl⟩

/-- A change that leaves the head, its requests and the ended attempt alone. -/
structure HeadStands (s t : State) : Prop where
  granted : ∀ c, t.headGranted c = s.headGranted c
  bay : t.head.bay = s.head.bay
  gripper : t.head.gripper = s.head.gripper
  requests : t.line.headRequests = s.line.headRequests
  attempt : AttemptGone s.trim → AttemptGone t.trim

theorem HeadPath.stands {s t u : State} (h : HeadPath s t) (hu : HeadStands t u) : HeadPath s u where
  granted := fun c => (hu.granted c).trans (h.granted c)
  bay := by
    unfold BayGone
    rw [hu.bay, hu.gripper, hu.requests]
    exact h.bay
  gripper := fun hs => by
    unfold GripperGone
    rw [hu.gripper, hu.requests]
    exact (h.gripper hs).imp_right fun ⟨hg, ha, hrest⟩ => ⟨hg, hu.attempt ha, hrest⟩

theorem afterVoid_state_ne_taking {g : Gripper} (r p : Bool) (h : g.state ≠ .taking) :
    (g.afterVoid r p).state ≠ .taking := by
  cases hs : g.state <;> cases r <;> cases p <;> cases hb : g.brick <;>
    simp_all [Gripper.afterVoid, Gripper.cleared]

/-- A gripper that was not TAKING is not made so. -/
theorem HeadPath.not_taking {s t : State} (h : HeadPath s t) (hs : s.head.gripper.state ≠ .taking) :
    t.head.gripper.state ≠ .taking := by
  rcases h.gripper hs with hg | hg
  · rw [hg]
    exact hs
  · rw [hg.1]
    exact afterVoid_state_ne_taking _ _ hs

theorem headGranted_congr {s t : State} (ht : t.line.transaction = s.line.transaction)
    (hs : t.line.spreader = s.line.spreader) (hg : t.line.gripper = s.line.gripper) (c : StationCommand) :
    t.headGranted c = s.headGranted c := by
  unfold State.headGranted
  rw [ht, hs, hg]

/-- A command that is withdrawn leaves what has been granted. -/
theorem headGranted_withdrawHead (s : State) (c d : StationCommand) : (s.withdrawHead c).headGranted d = s.headGranted d :=
  headGranted_congr rfl rfl rfl d

theorem headGranted_voidBay (s : State) (c : StationCommand) : s.voidBay.headGranted c = s.headGranted c := by
  unfold State.voidBay
  dsimp only
  split <;> split <;> exact headGranted_congr rfl rfl rfl c

theorem headGranted_voidGripper (s : State) (c : StationCommand) : s.voidGripper.headGranted c = s.headGranted c := by
  unfold State.voidGripper
  dsimp only
  split <;> exact headGranted_congr rfl rfl rfl c

theorem voidBay_requests (s : State) :
    (∀ c, c ∉ s.line.headRequests → c ∉ s.voidBay.line.headRequests) ∧
      (s.head.bay.state = .spreading → .spread ∉ s.voidBay.line.headRequests) ∧
      (s.head.gripper.state = .taking → .take ∉ s.voidBay.line.headRequests) := by
  unfold State.voidBay
  dsimp only
  split <;> split <;> simp_all [State.withdrawHead]

theorem voidGripper_requests (s : State) :
    (∀ c, c ∉ s.line.headRequests → c ∉ s.voidGripper.line.headRequests) ∧
      (s.head.gripper.state = .releasing → .release ∉ s.voidGripper.line.headRequests) ∧
      (s.head.gripper.state = .probing → .probe ∉ s.voidGripper.line.headRequests) := by
  unfold State.voidGripper
  dsimp only
  split <;> rename_i h <;> simp +contextual [h, State.withdrawHead, State.endAttempt]

theorem voidGripper_trim (s : State) : s.voidGripper.trim = s.endAttempt.trim := by
  unfold State.voidGripper
  dsimp only
  split <;> simp

theorem voidBay_trim (s : State) : s.voidBay.trim = s.trim := by
  unfold State.voidBay
  dsimp only
  split <;> split <;> simp

theorem afterVoid_content_ne (g : Gripper) (r p : Bool) (i : EntryIx) : (g.afterVoid r p).content ≠ .entry i := by
  rcases g.afterVoid_content r p with h | h <;> rw [h]
  · exact voided_ne_entry _ i
  · simp

theorem afterBayVoid_content_ne {g : Gripper} (granted : Bool) (h : g.state = .taking) (i : EntryIx) :
    (g.afterBayVoid granted).content ≠ .entry i := by
  unfold Gripper.afterBayVoid
  rw [if_pos h]
  split
  · exact voided_ne_entry _ i
  · simp [Gripper.cleared]

theorem bay_afterVoid_content_ne (b : Bay) (granted : Bool) (i : EntryIx) : (b.afterVoid granted).content ≠ .entry i :=
  voided_ne_entry _ i

theorem afterBayVoid_of_not_taking {g : Gripper} (granted : Bool) (h : g.state ≠ .taking) : g.afterBayVoid granted = g := by
  unfold Gripper.afterBayVoid
  rw [if_neg h]

/-- The bay is voided only while it, or a gripper that is taking its brick, holds an entry. -/
theorem HeadPath.voidBay {s t : State} (h : HeadPath s t)
    (hentry : (∃ i, t.head.bay.content = .entry i) ∨ (∃ i, t.head.gripper.content = .entry i) ∧ t.head.gripper.state = .taking) :
    HeadPath s t.voidBay ∧ BayGone s t.voidBay := by
  obtain ⟨hreq, hspread, htake⟩ := voidBay_requests t
  have hintact : t.head.bay = s.head.bay ∧ (s.head.gripper.state = .taking → t.head.gripper = s.head.gripper) := by
    refine h.bay.resolve_right fun hgone => ?_
    obtain ⟨hb, -, hg⟩ := hgone
    rcases hentry with ⟨i, hi⟩ | ⟨⟨i, hi⟩, hst⟩
    · rw [hb] at hi
      exact bay_afterVoid_content_ne _ _ i hi
    · by_cases hs : s.head.gripper.state = .taking
      · rw [(hg hs).1] at hi
        exact afterBayVoid_content_ne _ hs i hi
      · exact h.not_taking hs hst
  obtain ⟨hbay, hgrip⟩ := hintact
  have hgone : BayGone s t.voidBay := by
    refine ⟨?_, fun hs => hspread (by rw [hbay]; exact hs), fun hs => ⟨?_, htake (by rw [hgrip hs]; exact hs)⟩⟩
    · simp only [State.voidBay_head, h.granted, hbay]
    · simp only [State.voidBay_head, h.granted, hgrip hs]
  refine ⟨⟨fun c => (headGranted_voidBay t c).trans (h.granted c), .inr hgone, fun hs => ?_⟩, hgone⟩
  have hkeep : t.voidBay.head.gripper = t.head.gripper := by
    rw [State.voidBay_head]
    exact afterBayVoid_of_not_taking _ (h.not_taking hs)
  rcases h.gripper hs with hg | ⟨hg, ha, hr, hp⟩
  · exact .inl (hkeep.trans hg)
  · exact .inr ⟨hkeep.trans hg, by rw [voidBay_trim]; exact ha, fun hs => hreq _ (hr hs), fun hs => hreq _ (hp hs)⟩

/-- The gripper is voided only while it holds an entry and is not TAKING. -/
theorem HeadPath.voidGripper {s t : State} (h : HeadPath s t) {i : EntryIx} (hi : t.head.gripper.content = .entry i)
    (hst : t.head.gripper.state ≠ .taking) : HeadPath s t.voidGripper ∧ GripperGone s t.voidGripper := by
  obtain ⟨hreq, hrelease, hprobe⟩ := voidGripper_requests t
  have hs : s.head.gripper.state ≠ .taking := fun hs => by
    rcases h.bay with ⟨-, hg⟩ | ⟨-, -, hg⟩
    · exact hst (by rw [hg hs]; exact hs)
    · rw [(hg hs).1] at hi
      exact afterBayVoid_content_ne _ hs i hi
  have hg : t.head.gripper = s.head.gripper := by
    refine (h.gripper hs).resolve_right fun hgone => ?_
    rw [hgone.1] at hi
    exact afterVoid_content_ne _ _ _ i hi
  have hbay : t.voidGripper.head.bay = t.head.bay := by rw [State.voidGripper_head]
  have hgone : GripperGone s t.voidGripper := by
    refine ⟨?_, ?_, fun hs => hrelease (by rw [hg]; exact hs), fun hs => hprobe (by rw [hg]; exact hs)⟩
    · simp only [State.voidGripper_head, h.granted, hg]
    · rw [voidGripper_trim]
      exact ⟨rfl, rfl, rfl⟩
  refine ⟨⟨fun c => (headGranted_voidGripper t c).trans (h.granted c), ?_, fun _ => .inr hgone⟩, hgone⟩
  rcases h.bay with ⟨hb, -⟩ | ⟨hb, hspread, -⟩
  · exact .inl ⟨hbay.trans hb, fun htaking => absurd htaking hs⟩
  · exact .inr ⟨hbay.trans hb, fun hsp => hreq _ (hspread hsp), fun htaking => absurd htaking hs⟩

theorem HeadPath.voidAtHead {s t : State} (h : HeadPath s t) (i : EntryIx) : HeadPath s (t.voidAtHead i) := by
  unfold State.voidAtHead
  split
  · rename_i hg
    exact (h.voidGripper hg.1 hg.2).1
  · split
    · exact (h.voidBay (.inl ⟨i, ‹_›⟩)).1
    · exact h

theorem isEntry_iff (c : Content) : c.isEntry = true ↔ ∃ i, c = .entry i := by cases c <;> simp [Content.isEntry]

theorem HeadPath.voidPlaces {s t : State} (h : HeadPath s t) : HeadPath s t.voidPlaces := by
  unfold State.voidPlaces
  extract_lets t1
  have h1 : HeadPath s t1 := by
    simp only [t1]
    split
    · rename_i hc
      simp only [Bool.and_eq_true, isEntry_iff, decide_eq_true_eq] at hc
      obtain ⟨⟨i, hi⟩, hst⟩ := hc
      exact (h.voidGripper hi hst).1
    · exact h
  split
  · rename_i hc
    simp only [Bool.or_eq_true, Bool.and_eq_true, isEntry_iff, decide_eq_true_eq] at hc
    exact (h1.voidBay hc).1
  · exact h1

/-- An operation that leaves line, head and trim controller as they are. -/
theorem HeadStands.of_eq {s t : State} (hl : t.line = s.line) (hh : t.head = s.head) (ht : t.trim = s.trim) :
    HeadStands s t := ⟨headGranted_congr (by rw [hl]) (by rw [hl]) (by rw [hl]), by rw [hh], by rw [hh], by rw [hl], by rw [ht]; exact id⟩

/-- The feeders' stations are no part of the head. -/
theorem headStands_clearFeed (s : State) : HeadStands s s.clearFeed := by
  have hline : s.clearFeed.line.spreader = s.line.spreader ∧ s.clearFeed.line.gripper = s.line.gripper := by
    unfold State.clearFeed
    split
    · exact ⟨rfl, rfl⟩
    · rename_i f _
      unfold State.dropDeferredFeed
      dsimp only
      split
      · cases f.feeder <;> exact ⟨rfl, rfl⟩
      · exact ⟨rfl, rfl⟩
  exact ⟨headGranted_congr (by simp) hline.1 hline.2, by simp, by simp, by simp, by simp⟩

theorem headStands_voidFeed (s : State) : HeadStands s s.voidFeed := by
  unfold State.voidFeed
  split
  · exact .of_eq rfl rfl rfl
  · split
    · exact headStands_clearFeed s
    all_goals exact .of_eq rfl rfl rfl

theorem HeadPath.voidBrick {s t : State} (h : HeadPath s t) (r : IssueRecord) : HeadPath s (t.voidBrick r) := by
  unfold State.voidBrick
  split
  · exact h
  · exact h.stands (headStands_voidFeed t)
  · exact h.stands (.of_eq (by simp) (by simp) (by simp))
  all_goals exact h.voidAtHead r.entry

theorem HeadPath.displace {s t : State} (h : HeadPath s t) (r : IssueRecord) : HeadPath s (t.displace r) :=
  HeadPath.voidBrick (h.stands (.of_eq (by simp) (by simp) (by simp))) r

theorem HeadPath.foldl_displace {s : State} :
    ∀ (l : List IssueRecord) {t : State}, HeadPath s t → HeadPath s (l.foldl State.displace t)
  | [], _, h => h
  | r :: l, _, h => HeadPath.foldl_displace l (h.displace r)

/-- The part as it enters HALT, with the work in flight still standing. -/
def haltBegun (s : State) : State := (s.withControl { s.control with state := .halt, haltHeld := false }).raise .halted

theorem enterHalt_eq (s : State) : s.enterHalt = (haltBegun s).emptyList.voidFeed.voidPlaces.voidTrain := rfl

@[simp] theorem haltBegun_frame (s : State) :
    (haltBegun s).book = s.book ∧ (haltBegun s).seq = s.seq ∧
      (haltBegun s).issue = s.issue ∧ (haltBegun s).train = s.train ∧ (haltBegun s).line = s.line ∧
      (haltBegun s).tracker = s.tracker ∧ (haltBegun s).trim = s.trim ∧ (haltBegun s).head = s.head ∧
      (haltBegun s).control = { s.control with state := .halt, haltHeld := false } ∧ (haltBegun s).cal = s.cal ∧
      (haltBegun s).time = s.time := by
  simp [haltBegun]

theorem touches_haltBegun (s : State) : Touches [.control] [.halted] s (haltBegun s) :=
  (touches_withControl s _).mono.trans (touches_raise _ .halted).mono

theorem HeadPath.enterHalt {s t : State} (h : HeadPath s t) : HeadPath s t.enterHalt := by
  have h1 : HeadPath s (haltBegun t) := h.stands (.of_eq (by simp) (by simp) (by simp))
  have h2 : HeadPath s (haltBegun t).emptyList := HeadPath.foldl_displace _ h1
  rw [enterHalt_eq]
  exact ((h2.stands (headStands_voidFeed _)).voidPlaces).stands (.of_eq (by simp) (by simp) (by simp))

/-! ### The table of R163 from a voided place -/

theorem BayGone.voided {s t : State} (h : BayGone s t) : BayVoided s t := by
  obtain ⟨hb, hspread, htake⟩ := h
  refine ⟨by rw [hb]; rfl, by rw [hb]; rfl, fun hs => ?_, fun hs hg => ?_, fun hs hg => ?_, fun hs hg => ?_,
    fun hs hg => ?_⟩
  · rw [hb]
    exact if_neg fun hc => hs hc.1
  · rw [hb]
    simp [Bay.afterVoid, (headGranted_iff s _).2 hg, hs]
  · have hno : s.headGranted .spread = false := Bool.eq_false_iff.2 fun hy => hg ((headGranted_iff s _).1 hy)
    exact ⟨by rw [hb]; simp [Bay.afterVoid, hno, hs], hspread hs⟩
  · rw [(htake hs).1]
    simp [Gripper.afterBayVoid, (headGranted_iff s _).2 hg, hs]
  · have hno : s.headGranted .take = false := Bool.eq_false_iff.2 fun hy => hg ((headGranted_iff s _).1 hy)
    exact ⟨by rw [(htake hs).1]; simp [Gripper.afterBayVoid, hno, hs], (htake hs).2⟩

theorem GripperGone.voided {s t : State} (h : GripperGone s t) : GripperVoided s t := by
  obtain ⟨hg, ⟨ha, -, -⟩, hrelease, hprobe⟩ := h
  have hno : ∀ {c}, ¬Granted s c → s.headGranted c = false := fun hg =>
    Bool.eq_false_iff.2 fun hy => hg ((headGranted_iff s _).1 hy)
  have hyes : ∀ {c}, Granted s c → s.headGranted c = true := fun hg => (headGranted_iff s _).2 hg
  rw [GripperVoided, hg]
  refine ⟨ha, ?_, ?_, fun h1 h2 => ?_, fun h1 h2 => ?_, fun h1 h2 => ?_, fun h1 h2 => ⟨?_, ?_, hrelease h1⟩, fun h1 h2 => ?_,
    fun h1 h2 => ⟨?_, hprobe h1⟩⟩
  · unfold Gripper.afterVoid
    dsimp only
    split <;> (try split) <;> rfl
  · unfold Gripper.afterVoid
    dsimp only
    split <;> (try split) <;> rfl
  · simp [Gripper.afterVoid, h1, h2]
  · simp [Gripper.afterVoid, h1, h2]
  · simp [Gripper.afterVoid, h1, hyes h2]
  · simp [Gripper.afterVoid, h1, hno h2]
  · simp [Gripper.afterVoid, h1, hno h2]
  · simp [Gripper.afterVoid, h1, hyes h2]
  · simp [Gripper.afterVoid, h1, hno h2]

/-- A bay that held an entry and no longer does has been voided. -/
theorem HeadPath.bayGone {s t : State} (h : HeadPath s t) {i : EntryIx} (hi : s.head.bay.content = .entry i)
    (ht : t.head.bay.content ≠ .entry i) : BayGone s t :=
  h.bay.resolve_left fun hb => ht (by rw [hb.1]; exact hi)

theorem HeadPath.gripperGone {s t : State} (h : HeadPath s t) {i : EntryIx} (hi : s.head.gripper.content = .entry i)
    (hst : s.head.gripper.state ≠ .taking) (ht : t.head.gripper.content ≠ .entry i) : GripperGone s t :=
  (h.gripper hst).resolve_left fun hg => ht (by rw [hg]; exact hi)

/-- Where no place holds an entry any more, each has been voided as R163 has it. -/
theorem HeadPath.headVoided {s t : State} (h : HeadPath s t) (ht : PlacesVoid t) : HeadVoided s t :=
  ⟨fun i hi => (h.bayGone hi (ht i).1).voided, fun i hi hst => (h.gripperGone hi hst (ht i).2).voided⟩

/-! ### The carriers (R65, R72, R74) -/

/-- A carrier as an entry into HALT leaves it. -/
def haltedCarrier (c : Carrier) : Carrier :=
  { c with content := none, former := if c.content = none then c.former else c.content, running := 0 }

theorem voided_running (c : Carrier) : { c.voided with running := 0 } = haltedCarrier c := by
  unfold Carrier.voided haltedCarrier
  cases h : c.content <;> simp [h]

theorem haltedCarrier_voided (c : Carrier) : haltedCarrier c.voided = haltedCarrier c := by
  unfold Carrier.voided haltedCarrier
  cases h : c.content <;> simp [h]

theorem voidTrain_queue (s : State) : s.voidTrain.train.queue = s.train.queue.map haltedCarrier := by
  simp [State.voidTrain, voided_running]

theorem voidBrick_haltedQueue (s : State) (r : IssueRecord) :
    (s.voidBrick r).train.queue.map haltedCarrier = s.train.queue.map haltedCarrier := by
  unfold State.voidBrick
  split
  · rfl
  · simp
  · simp only [State.voidCarrier, State.withTrain_train, List.map_map]
    refine List.map_congr_left fun c _ => ?_
    simp only [Function.comp]
    split
    · exact haltedCarrier_voided c
    · rfl
  all_goals simp

theorem displace_haltedQueue (s : State) (r : IssueRecord) :
    (s.displace r).train.queue.map haltedCarrier = s.train.queue.map haltedCarrier :=
  (voidBrick_haltedQueue _ r).trans (by simp)

theorem foldl_displace_haltedQueue (l : List IssueRecord) (s : State) :
    (l.foldl State.displace s).train.queue.map haltedCarrier = s.train.queue.map haltedCarrier :=
  foldl_kept State.displace (fun t => t.train.queue.map haltedCarrier) displace_haltedQueue l s

theorem enterHalt_queue (s : State) : s.enterHalt.train.queue = s.train.queue.map haltedCarrier := by
  have h := foldl_displace_haltedQueue s.issue.list (haltBegun s)
  rw [enterHalt_eq, voidTrain_queue]
  simpa [State.emptyList] using h

/-! ### The feed (R65) -/

/-- What voiding makes of the feed-pending record. -/
def feedVoided : Option FeedPending → Option FeedPending
  | none => none
  | some f => if f.phase = .requested then none else some f.voided

theorem feedVoided_feedVoided (f : Option FeedPending) : feedVoided (feedVoided f) = feedVoided f := by
  cases f with
  | none => rfl
  | some f =>
    by_cases hp : f.phase = .requested
    · simp [feedVoided, hp]
    · cases he : f.entry <;> simp [feedVoided, hp, FeedPending.voided, he]

theorem voidFeed_feed (s : State) : s.voidFeed.issue.feed = feedVoided s.issue.feed := by
  unfold State.voidFeed
  split
  · rename_i h
    rw [h]
    rfl
  · rename_i f h
    rw [h]
    split <;> rename_i hp
    · rw [State.clearFeed_feed]
      simp [feedVoided, hp]
    all_goals simp [feedVoided, hp]

theorem voidBrick_feed (s : State) (r : IssueRecord) :
    feedVoided (s.voidBrick r).issue.feed = feedVoided s.issue.feed := by
  unfold State.voidBrick
  split
  · rfl
  · rw [voidFeed_feed, feedVoided_feedVoided]
  all_goals simp

theorem displace_feed (s : State) (r : IssueRecord) : feedVoided (s.displace r).issue.feed = feedVoided s.issue.feed :=
  (voidBrick_feed _ r).trans (by simp [State.removeRecord])

theorem enterHalt_feed (s : State) : s.enterHalt.issue.feed = feedVoided s.issue.feed := by
  have h := foldl_kept State.displace (fun t => feedVoided t.issue.feed) displace_feed s.issue.list (haltBegun s)
  have hfeed : s.enterHalt.issue.feed = (haltBegun s).emptyList.voidFeed.issue.feed := by
    rw [enterHalt_eq]
    simp
  rw [hfeed, voidFeed_feed]
  simpa [State.emptyList] using h

/-! ### The entries of the list while no close request stands (R65) -/

/-- Without a close request an entry that is returned reads POSTED, and nothing else is written. -/
theorem returnToPosted_open {s : State} (i : EntryIx) (h : s.seq.closeMark = false) :
    s.returnToPosted i = s.setEntryState i .posted := by
  unfold State.returnToPosted State.cancelIfClosing
  split
  · rfl
  · rw [if_neg (by simp [h])]

/-- What a displacement writes in the book, while no close request stands. -/
theorem displace_open {s : State} (r : IssueRecord) (h : s.seq.closeMark = false) :
    (s.displace r).book = (s.setEntryState r.entry .posted).book ∧ (s.displace r).seq = s.seq ∧
      (s.displace r).host = s.host := by
  unfold State.displace
  rw [returnToPosted_open _ (by simpa using h)]
  have hbook : ((s.removeRecord r.entry).setEntryState r.entry .posted).book = (s.setEntryState r.entry .posted).book := rfl
  simp [hbook]

theorem bytesKept_setEntryState {s : State} (hw : BookWf s) (i : EntryIx) (e : EntryState) :
    BytesKeptOutside [(entryAddr i 0, 4)] s (s.setEntryState i e) := fun x hx =>
  State.read_setWord_ne s _ x _ hw (entryAddr_fits i 0 (by omega)) (hx _ (List.mem_singleton_self _))

theorem bytesKept_trans {l : List (Nat × Nat)} {s t u : State} (h1 : BytesKeptOutside l s t)
    (h2 : BytesKeptOutside l t u) : BytesKeptOutside l s u := fun x hx => (h2 x hx).trans (h1 x hx)

theorem bytesKept_mono {l m : List (Nat × Nat)} {s t : State} (h : BytesKeptOutside l s t) (hsub : l ⊆ m) :
    BytesKeptOutside m s t := fun x hx => h x fun r hr => hx r (hsub hr)

theorem bytesKept_congr {l : List (Nat × Nat)} {s t u : State} (h : BytesKeptOutside l s t)
    (hb : u.book.cells = t.book.cells) : BytesKeptOutside l s u := fun x hx => by rw [hb]; exact h x hx

theorem bytesKept_refl (l : List (Nat × Nat)) (s : State) : BytesKeptOutside l s s := fun _ _ => rfl

/-- A word outside the areas written reads the same. -/
theorem BytesKeptOutside.word {l : List (Nat × Nat)} {s t : State} (h : BytesKeptOutside l s t) {a : Nat}
    (ha : ∀ r ∈ l, a + 4 ≤ r.1 ∨ r.1 + r.2 ≤ a) : t.word a = s.word a :=
  State.word_of_read fun x h1 h2 => h x fun r hr => by have := ha r hr; omega

/-- The state words of the records. -/
def stateWords (l : List IssueRecord) : List (Nat × Nat) := l.map fun x => (entryAddr x.entry 0, 4)

/-- A word of an entry that is no state word of the records. -/
theorem word_of_stateWords {l : List IssueRecord} {s t : State} (h : BytesKeptOutside (stateWords l) s t) {i : EntryIx}
    {j : Nat} (hj : j < 16) (hne : j ≠ 0 ∨ ∀ x ∈ l, x.entry ≠ i) : t.word (entryAddr i j) = s.word (entryAddr i j) := by
  refine h.word fun r hr => ?_
  obtain ⟨x, hx, rfl⟩ := List.mem_map.1 hr
  have hd : i ≠ x.entry ∨ j ≠ 0 := hne.symm.imp (fun h => (h x hx).symm) id
  exact (entryAddr_disjoint (i := x.entry) (j := i) (v := j) (w := 0) hj (by omega)
    (hd.imp Ne.symm id)).imp id id

/-- The entries of the records read POSTED, and nothing else has been written in the book. -/
structure ReturnedOpen (l : List IssueRecord) (s t : State) : Prop where
  wf : BookWf t
  seq : t.seq = s.seq
  host : t.host = s.host
  bytes : BytesKeptOutside (stateWords l) s t
  posted : ∀ r ∈ l, t.entryState r.entry = some .posted

theorem ReturnedOpen.cons {r : IssueRecord} {l : List IssueRecord} {s t u : State} (h1 : ReturnedOpen [r] s t)
    (h2 : ReturnedOpen l t u) : ReturnedOpen (r :: l) s u where
  wf := h2.wf
  seq := h2.seq.trans h1.seq
  host := h2.host.trans h1.host
  bytes := bytesKept_trans (bytesKept_mono h1.bytes (by simp [stateWords])) (bytesKept_mono h2.bytes (by simp [stateWords]))
  posted := fun x hx => by
    by_cases hmem : ∃ y ∈ l, y.entry = x.entry
    · obtain ⟨y, hy, he⟩ := hmem
      rw [← he]
      exact h2.posted y hy
    · have hxr : x = r := (List.mem_cons.1 hx).resolve_right fun h => hmem ⟨x, h, rfl⟩
      have hkept := word_of_stateWords h2.bytes (i := x.entry) (j := 0) (by omega)
        (.inr fun y hy he => hmem ⟨y, hy, he⟩)
      rw [State.entryState_congr hkept]
      exact h1.posted x (by simp [hxr])

theorem returnedOpen_displace {s : State} (r : IssueRecord) (hw : BookWf s) (hc : s.seq.closeMark = false) :
    ReturnedOpen [r] s (s.displace r) := by
  obtain ⟨hbook, hseq, hhost⟩ := displace_open r hc
  have hcells : (s.displace r).book.cells = (s.setEntryState r.entry .posted).book.cells := by rw [hbook]
  refine ⟨?_, hseq, hhost, bytesKept_congr (bytesKept_setEntryState hw r.entry .posted) hcells, fun x hx => ?_⟩
  · unfold BookWf
    rw [hcells]
    exact State.setEntryState_wf s _ _ hw
  · rw [List.mem_singleton.1 hx, State.entryState_congr (State.word_congr hcells _)]
    exact State.entryState_setEntryState s _ _ hw

/-- Displacing records one after another returns their entries to POSTED and writes nothing else in the book. -/
theorem foldl_displace_open (l : List IssueRecord) (s : State) (hw : BookWf s) (hc : s.seq.closeMark = false) :
    ReturnedOpen l s (l.foldl State.displace s) := by
  induction l generalizing s with
  | nil => exact ⟨hw, rfl, rfl, bytesKept_refl _ s, by simp⟩
  | cons r l ih =>
    have h1 := returnedOpen_displace r hw hc
    exact h1.cons (ih _ h1.wf (by rw [h1.seq]; exact hc))

theorem entryAttempts_congr {s t : State} {i : EntryIx} (h : t.word (entryAddr i 7) = s.word (entryAddr i 7)) :
    t.entryAttempts i = s.entryAttempts i := by
  unfold State.entryAttempts
  rw [h]

/-- While no close request stands, an entry into HALT returns the list and touches the course sequencer not at all. -/
theorem enterHalt_open {s : State} (hw : BookWf s) (hc : s.seq.closeMark = false) :
    ReturnsList s s.enterHalt ∧ s.enterHalt.seq = s.seq ∧ Raises [.halted] s s.enterHalt := by
  have hbegun : BookWf (haltBegun s) := hw
  obtain ⟨-, hseq, hhost, hbytes, hposted⟩ := foldl_displace_open s.issue.list (haltBegun s) hbegun (by simpa using hc)
  have hframe : s.enterHalt.book = (s.issue.list.foldl State.displace (haltBegun s)).book ∧
      s.enterHalt.seq = (s.issue.list.foldl State.displace (haltBegun s)).seq ∧
      s.enterHalt.host = (s.issue.list.foldl State.displace (haltBegun s)).host := by
    rw [enterHalt_eq]
    simp [State.emptyList]
  generalize s.issue.list.foldl State.displace (haltBegun s) = t at *
  obtain ⟨hbook, hseq', hhost'⟩ := hframe
  have hcells : s.enterHalt.book.cells = t.book.cells := by rw [hbook]
  have hkept : BytesKeptOutside (stateWords s.issue.list) s s.enterHalt := fun x hx => by
    rw [hcells, hbytes x hx]
    simp
  refine ⟨⟨fun r hr => ⟨?_, ?_⟩, fun x hx => hkept x fun a ha => ?_⟩, ?_, ?_⟩
  · rw [State.entryState_congr (State.word_congr hcells _)]
    exact hposted r hr
  · exact entryAttempts_congr (word_of_stateWords hkept (by omega) (.inl (by omega)))
  · obtain ⟨r, hr, rfl⟩ := List.mem_map.1 ha
    exact hx r hr
  · simpa using hseq'.trans hseq
  · refine (touches_haltBegun s).causes.trans (.of_eq (by rw [hhost', hhost]) ?_)
    rw [(touches_enterHalt s).causes.starved]
    simp

/-! ### The whole entry into HALT -/

theorem enterHalt_control (s : State) : s.enterHalt.control = { s.control with state := .halt, haltHeld := false } := by
  simp [State.enterHalt]

theorem hasCause_enterHalt (s : State) : hasCause s.enterHalt .halted = true := by
  have hraised : hasCause (haltBegun s) .halted = true := by simp [haltBegun]
  have h : Touches haltBlocks [.courseClosed] (haltBegun s) s.enterHalt :=
    (((touches_emptyList _).mono.trans (touches_voidFeed _).mono).trans (touches_voidPlaces _).mono).trans
      (touches_voidTrain _).mono
  exact h.causes.stand _ hraised

/-- After the closing of any command whose work has left the part in HALT without work and with the cause raised. -/
theorem halted_finish {u : State} (old : State) (hstate : u.control.state = .halt) (hwork : NoWork u)
    (hcause : hasCause u .halted = true) (hrun : ∀ c ∈ u.train.queue, c.running = 0) : Halted (finish old u) := by
  obtain ⟨hlist, hcarriers, hfeed, hplaces⟩ := hwork
  have hdrive : u.driveWanted = false := by simp [State.driveWanted, hstate]
  refine ⟨by simpa using hstate, hasCause_finish_of _ _ _ hcause, by simpa using hlist, ?_, ?_, ?_, by simpa using hrun, ?_⟩
  · intro f hf
    exact hfeed f (by simpa using hf)
  · intro c hc
    exact hcarriers c (by simpa using hc)
  · intro i
    simpa using hplaces i
  · rw [(finish_outputs old u).2.1, hdrive]

theorem halted_enterHalt (old s : State) : Halted (finish old s.enterHalt) := by
  obtain ⟨hstate, hwork⟩ := State.enterHalt_noWork s
  refine halted_finish old hstate hwork (hasCause_enterHalt s) fun c hc => ?_
  rw [enterHalt_queue] at hc
  obtain ⟨d, -, rfl⟩ := List.mem_map.1 hc
  rfl

theorem headVoided_finish {s u : State} (old : State) (h : HeadVoided s u) : HeadVoided s (finish old u) := by
  simpa [HeadVoided, BayVoided, GripperVoided] using h

/-- An entry into HALT voids what an earlier state held at the head, if nothing but voiding has happened there since. -/
theorem HeadPath.headVoided_enterHalt {s t : State} (old : State) (h : HeadPath s t) :
    HeadVoided s (finish old t.enterHalt) :=
  headVoided_finish old (h.enterHalt.headVoided (State.enterHalt_noWork t).2.2.2.2)

/-! ### HALT requests (R79, R173, R175) -/

theorem requestHalt_of_mayHalt {s : State} (h : MayHalt s) : s.requestHalt = s.enterHalt := by
  unfold State.requestHalt
  rcases h with h | h | h <;> rw [h]

theorem requestHalt_of_init {s : State} (h : s.control.state = .init) :
    s.requestHalt = s.withControl { s.control with haltHeld := true } := by
  unfold State.requestHalt
  rw [h]

theorem requestHalt_of_halt {s : State} (h : s.control.state = .halt) : s.requestHalt = s := by
  unfold State.requestHalt
  rw [h]

theorem not_mayHalt_iff (s : State) : ¬MayHalt s ↔ s.control.state = .init ∨ s.control.state = .halt := by
  unfold MayHalt
  cases s.control.state <;> simp

theorem mayHalt_congr {s t : State} (h : t.control.state = s.control.state) : MayHalt t ↔ MayHalt s := by
  unfold MayHalt
  rw [h]

/-- A HALT request taken by a state that machine control shares. -/
theorem haltRequested_finish (old : State) {s u : State} (h : u.control = s.control) :
    HaltRequested s (finish old u.requestHalt) := by
  refine ⟨fun hm => ?_, fun hi => ?_, fun hh => ?_⟩
  · rw [requestHalt_of_mayHalt ((mayHalt_congr (by rw [h])).2 hm)]
    exact halted_enterHalt old u
  · rw [requestHalt_of_init (by rw [h]; exact hi)]
    simp [h]
  · rw [requestHalt_of_halt (by rw [h]; exact hh)]
    simp [h]

end Sys2Proof
end

section
/-! SUPPORT. Machine control (chapter 9): refused commands, the moves of the machine state, ABORT, manual control and the
emergency line. -/

namespace Sys2Proof

open Sys2Proof.Machine

/-! ### Refused commands (R170) -/

theorem commitAccepted_iff (s : State) : s.commitAccepted = true ↔ CommitAllowed s := by
  simp [State.commitAccepted, CommitAllowed]

theorem exec_run (s : State) :
    exec .run s =
      answer s (if s.control.state = .idle ∧ s.runConditions = true then s.enterState .run else s.refuseCommand) := rfl

theorem exec_stop (s : State) :
    exec .stop s = answer s
      (match s.control.state with
        | .init => s.refuseCommand
        | .idle | .drain => s
        | .run => (s.enterState .drain).endDrain
        | .halt => if s.control.emergency then s.refuseCommand else s.enterState .idle) := rfl

theorem exec_abort (s : State) :
    exec .abort s = answer s
      (match s.control.state with
        | .init => s.refuseCommand
        | .halt => s
        | .idle | .run | .drain => s.enterHalt) := rfl

theorem exec_commitCal (s : State) :
    exec .commitCal s = answer s
      (if s.commitAccepted then
        (if calibrationGood s.image || Config.testOutlasts s.free then
          s.withCal { s.cal with busy := true, acceptedAt := s.time }
        else s.rejectCommit)
      else s.refuseCommand) := rfl

/-- Every row of the table of R170 ends in the refusal. -/
theorem exec_refused {c : Instr} {s : State} (h : Refused s c) : exec c s = answer s s.refuseCommand := by
  cases c with
  | run => rw [exec_run, if_neg fun hr => h ((runAllowed_iff s).1 hr)]
  | stop =>
    rw [exec_stop]
    rcases h with h | ⟨h, he⟩
    · rw [h]
    · rw [h]
      simp [he]
  | abort =>
    rw [exec_abort]
    rw [show s.control.state = .init from h]
  | reset inputs =>
    change execReset inputs s = _
    have hi : s.control.state = .init := h
    rw [execReset, if_pos hi]
  | commitCal => rw [exec_commitCal, if_neg fun hc => h ((commitAccepted_iff s).1 hc)]
  | refusedCommandCode _ => rfl
  | _ => cases h

/-- Settles O4: a refusal raises CMD_REFUSED and does nothing else. -/
theorem refusedCommandChangesNothing : Obligations.RefusedCommandChangesNothing := fun _ s h =>
  ⟨_, exec_refused h, hasCause_finish_of _ _ _ (by simp [State.refuseCommand]), (touches_raise s .cmdRefused).closed⟩

/-! ### The machine state (R171, R172, R174, R175) -/

theorem drained_iff (s : State) : s.drained = true ↔ Drained s := by
  simp [State.drained, Drained, and_assoc]

theorem touches_enterState (s : State) (m : MachineState) : Touches [.control] [] s (s.enterState m) :=
  touches_withControl s _

/-- A command whose whole work is to move the machine state. -/
theorem enters_of_exec {c : Instr} {s : State} {m : MachineState} (h : exec c s = answer s (s.enterState m)) :
    ∃ t, exec c s = .next t ∧ t.control = { s.control with state := m } ∧ KeptBut [.control] s t ∧
      CausesKeptBut [] s t :=
  ⟨_, h, by simp [State.enterState], (touches_enterState s m).closed⟩

theorem run_enters (s : State) (h : RunAllowed s) :
    ∃ t, exec .run s = .next t ∧ t.control = { s.control with state := .run } ∧ KeptBut [.control] s t ∧
      CausesKeptBut [] s t :=
  enters_of_exec (by rw [exec_run, if_pos ((runAllowed_iff s).2 h)])

theorem endDrain_of_drained {s : State} (h : Drained s) : s.endDrain = s.enterState .idle := by
  rw [State.endDrain, if_pos ((drained_iff s).2 h)]

theorem endDrain_of_not_drained {s : State} (h : ¬Drained s) : s.endDrain = s := by
  rw [State.endDrain, if_neg fun hd => h ((drained_iff s).1 hd)]

/-- What an accepted STOP makes of the state. -/
def stopped (s : State) : State :=
  match s.control.state with
  | .run => if s.drained then s.enterState .idle else s.enterState .drain
  | .halt => s.enterState .idle
  | .init | .idle | .drain => s

theorem exec_stop_accepted {s : State} (h : ¬Refused s .stop) : exec .stop s = answer s (stopped s) := by
  rw [exec_stop, stopped]
  cases hst : s.control.state
  case init => exact absurd (.inl hst) h
  case halt =>
    have he : s.control.emergency = false := Bool.eq_false_iff.2 fun he => h (.inr ⟨hst, he⟩)
    simp [he]
  case run =>
    have hd : (s.enterState .drain).drained = s.drained := rfl
    dsimp only
    rw [State.endDrain, hd]
    split <;> rfl
  all_goals rfl

theorem touches_stopped (s : State) : Touches [.control] [] s (stopped s) := by
  unfold stopped
  split
  · split <;> exact touches_enterState s _
  · exact touches_enterState s _
  all_goals exact .refl _ _ s

theorem stop_moves (s : State) (h : ¬Refused s .stop) :
    ∃ t, exec .stop s = .next t ∧ KeptBut [.control] s t ∧ CausesKeptBut [] s t ∧
      (s.control.state = .idle → t.control = s.control) ∧
      (s.control.state = .drain → t.control = s.control) ∧
      (s.control.state = .run → Drained s → t.control = { s.control with state := .idle }) ∧
      (s.control.state = .run → ¬Drained s → t.control = { s.control with state := .drain }) ∧
      (s.control.state = .halt → t.control = { s.control with state := .idle }) := by
  obtain ⟨hframe, hcauses⟩ := (touches_stopped s).closed
  refine ⟨_, exec_stop_accepted h, hframe, hcauses, fun hst => ?_, fun hst => ?_, fun hst hd => ?_, fun hst hd => ?_,
    fun hst => ?_⟩
  · simp [stopped, hst]
  · simp [stopped, hst]
  · simp [stopped, hst, (drained_iff s).2 hd, State.enterState]
  · simp [stopped, hst, mt (drained_iff s).1 hd, State.enterState]
  · simp [stopped, hst, State.enterState]

theorem exec_initEnd (s : State) :
    exec .initEnd s = answer s
      (if s.control.state = .init ∧ s.initComplete = true then
        (if s.control.haltHeld || s.control.emergency then s.enterHalt else s.enterState .idle)
      else s) := rfl

/-- An entry into HALT that closes a command. -/
theorem enterHalt_closed (s : State) :
    Halted (finish s s.enterHalt) ∧ HeadVoided s (finish s s.enterHalt) ∧
      (finish s s.enterHalt).control = { s.control with state := .halt, haltHeld := false } ∧
      KeptBut haltBlocks s (finish s s.enterHalt) ∧ CausesKeptBut [.halted, .courseClosed] s (finish s s.enterHalt) :=
  ⟨halted_enterHalt s s, (HeadPath.refl s).headVoided_enterHalt s, by simp [enterHalt_control],
    (touches_enterHalt s).closed⟩

theorem initEnd_moves {s : State} (hst : s.control.state = .init) (hsense : s.control.sensed = true)
    (hlatch : s.control.latched = true) (hload : s.control.loaded = true) :
    ∃ t, exec .initEnd s = .next t ∧
      (s.control.haltHeld = false → s.control.emergency = false →
        t.control = { s.control with state := .idle } ∧ KeptBut [.control] s t ∧ CausesKeptBut [] s t) ∧
      (s.control.haltHeld = true ∨ s.control.emergency = true →
        Halted t ∧ HeadVoided s t ∧ t.control = { s.control with state := .halt, haltHeld := false } ∧
          KeptBut haltBlocks s t ∧ CausesKeptBut [.halted, .courseClosed] s t) := by
  have hc : s.control.state = .init ∧ s.initComplete = true := ⟨hst, by simp [State.initComplete, hsense, hlatch, hload]⟩
  by_cases h : s.control.haltHeld = true ∨ s.control.emergency = true
  · refine ⟨finish s s.enterHalt, by rw [exec_initEnd, if_pos hc, if_pos (by simpa using h)]; rfl,
      fun hh he => ?_, fun _ => enterHalt_closed s⟩
    simp [hh, he] at h
  · refine ⟨finish s (s.enterState .idle), by rw [exec_initEnd, if_pos hc, if_neg (by simpa using h)]; rfl,
      fun _ _ => ⟨by simp [State.enterState], (touches_enterState s .idle).closed⟩, fun hh => absurd hh h⟩

theorem exec_drainEnd (s : State) :
    exec .drainEnd s = answer s (if s.control.state = .drain then s.endDrain else s) := rfl

/-- Settles O5, command by command. -/
theorem machineStateMovesAsCommanded : Obligations.MachineStateMovesAsCommanded :=
  ⟨run_enters, stop_moves, fun _ hst h1 h2 h3 => initEnd_moves hst h1 h2 h3, fun s hst hd =>
    enters_of_exec (by rw [exec_drainEnd, if_pos hst, endDrain_of_drained hd])⟩

/-! ### ABORT (R173) -/

theorem exec_abort_mayHalt {s : State} (h : MayHalt s) : exec .abort s = answer s s.enterHalt := by
  rw [exec_abort]
  rcases h with h | h | h <;> rw [h]

theorem enterHalt_setPoint (s : State) : s.enterHalt.trim.setPoint = s.trim.setPoint := by simp

/-- Settles O6: ABORT enters HALT, and in HALT does nothing. -/
theorem abortEntersHalt : Obligations.AbortEntersHalt := by
  refine ⟨fun s h => ?_, fun s h => ⟨_, by rw [exec_abort, h]; rfl, (Touches.refl [] [] s).closed⟩⟩
  obtain ⟨hhalted, hvoided, hcontrol, hframe, hcauses⟩ := enterHalt_closed s
  refine ⟨_, exec_abort_mayHalt h, hhalted, hvoided, hcontrol, ?_, fun f hf hp => ?_, fun f i hf hp hi => ?_, by simp,
    hframe, hcauses, fun hw hc => ?_⟩
  · rw [(finish_frame s _).2.2.2.2.2.2.1, enterHalt_queue]
    rfl
  · simp [enterHalt_feed, hf, feedVoided, hp]
  · simp [enterHalt_feed, hf, feedVoided, hp, FeedPending.voided, hi]
  · obtain ⟨⟨hposted, hbytes⟩, hseq, hraises⟩ := enterHalt_open hw hc
    refine ⟨⟨fun r hr => ?_, fun x hx => ?_⟩, by simpa using hseq,
      causesKeptBut_finish hraises.others hraises.starved⟩
    · rw [entryState_finish, entryAttempts_congr (word_finish _ _ _)]
      exact hposted r hr
    · rw [read_finish]
      exact hbytes x hx

/-! ### Manual control (R178, R180) -/

theorem exec_manualGrant (s : State) :
    exec .manualGrant s = answer s
      (if s.mayGrant then
        ((s.withControl { s.control with manualGrant := true }).withdrawTake.zeroSettle).raise .manualGranted
      else s) := rfl

theorem mayGrant_of {s : State} (hr : s.control.manualRequest = true) (hg : s.control.manualGrant = false)
    (hst : s.control.state ≠ .init) (h1 : s.head.gripper.state ≠ .releasing) (h2 : s.head.gripper.state ≠ .probing)
    (h3 : s.head.gripper.state = .taking → .take ∈ s.line.headRequests) : s.mayGrant = true := by
  have hholds : s.gripperHoldsGrant = false := by
    unfold State.gripperHoldsGrant
    split <;> rename_i h
    · exact absurd h h1
    · exact absurd h h2
    · simpa [State.headPending] using h3 h
    all_goals rfl
  simp [State.mayGrant, hr, hg, hst, hholds]

theorem withdrawTake_taking {s : State} (h : s.head.gripper.state = .taking) (ht : .take ∈ s.line.headRequests) :
    s.withdrawTake = (s.putHead { s.head with gripper := .cleared }).withdrawHead .take := by
  rw [State.withdrawTake, if_pos ⟨h, by simpa [State.headPending] using ht⟩]

theorem withdrawTake_not_taking {s : State} (h : s.head.gripper.state ≠ .taking) : s.withdrawTake = s := by
  rw [State.withdrawTake, if_neg fun hc => h hc.1]

theorem touches_withdrawTake (s : State) : Touches [.head, .line] [] s s.withdrawTake := by
  unfold State.withdrawTake
  split
  · exact (touches_putHead s _).mono.trans (touches_withdrawHead _ _).mono
  · exact .refl _ _ s

theorem touches_zeroSettle (s : State) : Touches [.trim] [] s s.zeroSettle := touches_withTrim s _

/-- The grant: the settle count is 0, and a pending TAKE has been withdrawn. -/
theorem manualGrant_grants {s : State} (hr : s.control.manualRequest = true) (hg : s.control.manualGrant = false)
    (hst : s.control.state ≠ .init) (h1 : s.head.gripper.state ≠ .releasing) (h2 : s.head.gripper.state ≠ .probing)
    (h3 : s.head.gripper.state = .taking → .take ∈ s.line.headRequests) :
    ∃ t, exec .manualGrant s = .next t ∧ t.control = { s.control with manualGrant := true } ∧
      hasCause t .manualGranted = true ∧ t.trim = { s.trim with settleCount := 0 } ∧
      (s.head.gripper.state = .taking →
        t.head = { s.head with gripper := .cleared } ∧
        t.line = { s.line with headRequests := s.line.headRequests.filter fun c => c ≠ .take }) ∧
      (s.head.gripper.state ≠ .taking → t.head = s.head ∧ t.line = s.line) ∧
      KeptBut [.control, .trim, .head, .line] s t ∧ CausesKeptBut [.manualGranted] s t := by
  have hmay := mayGrant_of hr hg hst h1 h2 h3
  generalize hgranted : s.withControl { s.control with manualGrant := true } = g
  have hframe : g.line = s.line ∧ g.head = s.head ∧ g.trim = s.trim ∧
      g.control = { s.control with manualGrant := true } := by simp [← hgranted]
  have hbegun : Touches [.control] [] s g := hgranted ▸ touches_withControl s _
  obtain ⟨hline, hhead, htrim, hcontrol⟩ := hframe
  have hexec : exec .manualGrant s = answer s ((g.withdrawTake.zeroSettle).raise .manualGranted) := by
    rw [exec_manualGrant, if_pos hmay, hgranted]
  have htouches : Touches [.control, .trim, .head, .line] [.manualGranted] s
      ((g.withdrawTake.zeroSettle).raise .manualGranted) :=
    ((hbegun.mono.trans (touches_withdrawTake g).mono).trans (touches_zeroSettle _).mono).trans (touches_raise _ _).mono
  refine ⟨_, hexec, by simp [hcontrol], hasCause_finish_of _ _ _ (by simp), by simp [State.zeroSettle, htrim],
    fun ht => ?_, fun ht => ?_, htouches.closed⟩
  · have hw := withdrawTake_taking (s := g) (by rw [hhead]; exact ht) (by rw [hline]; exact h3 ht)
    simp [hw, hline, hhead, State.withdrawHead, State.zeroSettle]
  · have hw := withdrawTake_not_taking (s := g) (by rw [hhead]; exact ht)
    simp [hw, hline, hhead, State.zeroSettle]

/-- Settles O7: the two writes replace the flags; the grant acts under its conditions. -/
theorem manualControlIsRequestedAndGranted : Obligations.ManualControlIsRequestedAndGranted :=
  ⟨fun s => ⟨_, rfl, by simp, (touches_withControl s { s.control with manualRequest := true }).closed⟩,
    fun s => ⟨_, rfl, by simp,
      (touches_withControl s { s.control with manualRequest := false, manualGrant := false }).closed⟩,
    fun _ hr hg hst h1 h2 h3 => manualGrant_grants hr hg hst h1 h2 h3⟩

/-! ### The emergency line (R139, R174) -/

theorem exec_emergencyAssert {s : State} (h : s.control.emergency = false) :
    exec .emergencyAssert s = answer s
      ((s.withControl { s.control with emergency := true }).withTrim s.trim.stopDrive).requestHalt := by
  change answer s (if s.control.emergency then _ else _) = _
  rw [h]
  rfl

theorem exec_emergencyClear {s : State} (h : s.control.emergency = true) :
    exec .emergencyClear s = answer s
      ((s.withControl { s.control with emergency := false }).withTrim
        ({ s.trim with driveEnable := true } : Trim).wantFrame) := by
  change answer s (if s.control.emergency then _ else _) = _
  rw [h]
  rfl

/-- A frame is wanted: it is sent at once on an idle link, and pending otherwise. -/
theorem wantFrame_sends (t : Trim) :
    (t.sending = false →
      t.wantFrame.sending = true ∧ t.wantFrame.lastFrame = setPointFrame t.nextFrame t.driveEnable t.setPoint) ∧
    (t.sending = true → t.wantFrame.outputPending = true) := by
  constructor <;> intro h <;> simp [Trim.wantFrame, h, Trim.beginFrame]

/-- S at 0 stops settling too, and no operation of an entry into HALT starts it. -/
theorem settleCount_displace {s : State} (r : IssueRecord) (h : s.trim.settleCount = 0) :
    (s.displace r).trim.settleCount = 0 := by
  have hvoid : ∀ (t : State) i, t.trim.settleCount = 0 → (t.voidAtHead i).trim.settleCount = 0 := by
    intro t i ht
    unfold State.voidAtHead
    split
    · rw [voidGripper_trim]
      rfl
    · split
      · rw [voidBay_trim]
        exact ht
      · exact ht
  unfold State.displace State.voidBrick
  split
  · simpa using h
  · simpa using h
  · simpa using h
  all_goals exact hvoid _ _ (by simpa using h)

theorem settleCount_voidPlaces {s : State} (h : s.trim.settleCount = 0) : s.voidPlaces.trim.settleCount = 0 := by
  unfold State.voidPlaces
  extract_lets s1
  have h1 : s1.trim.settleCount = 0 := by
    simp only [s1]
    split
    · rw [voidGripper_trim]
      rfl
    · exact h
  split
  · rw [voidBay_trim]
    exact h1
  · exact h1

theorem settleCount_enterHalt {s : State} (h : s.trim.settleCount = 0) : s.enterHalt.trim.settleCount = 0 := by
  have hlist : (haltBegun s).emptyList.trim.settleCount = 0 :=
    foldl_holds State.displace (fun t => t.trim.settleCount = 0) (fun _ r ht => settleCount_displace r ht) _ _
      (by simpa using h)
  rw [enterHalt_eq]
  simpa using settleCount_voidPlaces (s := (haltBegun s).emptyList.voidFeed) (by simpa using hlist)

theorem settleCount_requestHalt {s : State} (h : s.trim.settleCount = 0) : s.requestHalt.trim.settleCount = 0 := by
  unfold State.requestHalt
  split
  · exact h
  · exact h
  all_goals exact settleCount_enterHalt h

theorem stopDrive_spec (t : Trim) :
    t.stopDrive.setPoint = .zero ∧ t.stopDrive.driveEnable = false ∧ t.stopDrive.settleCount = 0 ∧
      (t.sending = false →
        t.stopDrive.sending = true ∧ t.stopDrive.lastFrame = setPointFrame t.nextFrame false .zero) ∧
      (t.sending = true → t.stopDrive.outputPending = true) := by
  obtain ⟨hidle, hbusy⟩ := wantFrame_sends { t with setPoint := .zero, driveEnable := false }
  exact ⟨by simp [Trim.stopDrive], by simp [Trim.stopDrive], rfl, hidle, hbusy⟩

/-- The part with the line asserted and the drive stopped. -/
def emergencyBegun (s : State) : State := (s.withControl { s.control with emergency := true }).withTrim s.trim.stopDrive

@[simp] theorem emergencyBegun_frame (s : State) :
    (emergencyBegun s).line = s.line ∧ (emergencyBegun s).head = s.head ∧ (emergencyBegun s).trim = s.trim.stopDrive ∧
      (emergencyBegun s).control = { s.control with emergency := true } := ⟨rfl, rfl, rfl, rfl⟩

theorem touches_emergencyBegun (s : State) : Touches [.trim, .control] [] s (emergencyBegun s) :=
  (touches_withControl s _).mono.trans (touches_withTrim _ _).mono

theorem headStands_emergencyBegun (s : State) : HeadStands s (emergencyBegun s) := by
  refine ⟨fun _ => rfl, rfl, rfl, rfl, fun ⟨ha, ht, _⟩ => ⟨?_, ?_, rfl⟩⟩
  · simpa [Trim.stopDrive] using ha
  · simpa [Trim.stopDrive] using ht

theorem emergencyAssert_stops {s : State} (h : s.control.emergency = false) :
    ∃ t, exec .emergencyAssert s = .next t ∧ t.control.emergency = true ∧ t.trim.setPoint = .zero ∧
      t.trim.driveEnable = false ∧ t.trim.settleCount = 0 ∧
      (s.trim.sending = false →
        t.trim.sending = true ∧ t.trim.lastFrame = setPointFrame s.trim.nextFrame false .zero) ∧
      (s.trim.sending = true → t.trim.outputPending = true) ∧
      (MayHalt s →
        Halted t ∧ HeadVoided s t ∧ KeptBut haltBlocks s t ∧ CausesKeptBut [.halted, .courseClosed] s t) ∧
      (s.control.state = .init → t.control = { s.control with emergency := true, haltHeld := true }) ∧
      (s.control.state = .halt → t.control = { s.control with emergency := true }) ∧
      (¬MayHalt s → KeptBut [.trim, .control] s t ∧ CausesKeptBut [] s t) := by
  obtain ⟨hsp, hdrive, hcount, hidle, hbusy⟩ := stopDrive_spec s.trim
  refine ⟨finish s (emergencyBegun s).requestHalt, exec_emergencyAssert h, by simp, by simpa using hsp,
    by simpa using hdrive, ?_, fun hs => by simpa using hidle hs, fun hs => by simpa using hbusy hs, fun hm => ?_,
    fun hi => ?_, fun hh => ?_, fun hm => ?_⟩
  · simpa using settleCount_requestHalt (s := emergencyBegun s) (by simpa using hcount)
  · rw [requestHalt_of_mayHalt ((mayHalt_congr (t := emergencyBegun s) rfl).2 hm)]
    exact ⟨halted_enterHalt s _, ((HeadPath.refl s).stands (headStands_emergencyBegun s)).headVoided_enterHalt s,
      ((touches_emergencyBegun s).mono.trans (touches_enterHalt _)).closed⟩
  · rw [requestHalt_of_init (by simpa using hi)]
    simp
  · rw [requestHalt_of_halt (by simpa using hh)]
    simp
  · rcases (not_mayHalt_iff s).1 hm with hi | hh
    · rw [requestHalt_of_init (by simpa using hi)]
      exact ((touches_emergencyBegun s).trans (touches_withControl _ _).mono).closed
    · rw [requestHalt_of_halt (by simpa using hh)]
      exact (touches_emergencyBegun s).closed

theorem emergencyClear_restores {s : State} (h : s.control.emergency = true) :
    ∃ t, exec .emergencyClear s = .next t ∧ t.control = { s.control with emergency := false } ∧
      t.trim.setPoint = s.trim.setPoint ∧ t.trim.driveEnable = true ∧
      (s.trim.sending = false →
        t.trim.sending = true ∧ t.trim.lastFrame = setPointFrame s.trim.nextFrame true s.trim.setPoint) ∧
      (s.trim.sending = true → t.trim.outputPending = true) ∧
      KeptBut [.trim, .control] s t ∧ CausesKeptBut [] s t := by
  obtain ⟨hidle, hbusy⟩ := wantFrame_sends { s.trim with driveEnable := true }
  exact ⟨_, exec_emergencyClear h, by simp, by simp, by simp, fun hs => by simpa using hidle hs,
    fun hs => by simpa using hbusy hs, ((touches_withControl s _).mono.trans (touches_withTrim _ _).mono).closed⟩

/-- Settles O8: the assertion stops the drive and asks for HALT; the clearing restores the drive. -/
theorem emergencyLineStopsAndRestoresTheDrive : Obligations.EmergencyLineStopsAndRestoresTheDrive :=
  ⟨fun _ h => emergencyAssert_stops h, fun _ h => emergencyClear_restores h⟩

end Sys2Proof
end

section
/-! SUPPORT. The boom train (chapter 4): the root sensor, the bay sensor, and the faults that ask for HALT. -/

namespace Sys2Proof

open Sys2Proof.Machine

/-! ### Stations through an operation -/

theorem at_put (l : StationLine) (p q : Position) (x : Station) : (l.put p x).at q = if q = p then x else l.at q := by
  cases p <;> cases q <;> simp [StationLine.put, StationLine.at]

theorem otherStationsKept_setStation (s : State) (p : Position) (x : Station) : OtherStationsKept p s (s.setStation p x) := by
  refine ⟨fun q hq => ?_, by simp, by simp⟩
  rw [at_setStation, if_neg hq]

theorem otherStationsKept_trans {p : Position} {s t u : State} (h1 : OtherStationsKept p s t)
    (h2 : OtherStationsKept p t u) : OtherStationsKept p s u :=
  ⟨fun q hq => (h2.1 q hq).trans (h1.1 q hq), h2.2.1.trans h1.2.1, h2.2.2.trans h1.2.2⟩

theorem otherStationsKept_of_line {p : Position} {s t : State} (h : t.line = s.line) : OtherStationsKept p s t := by
  simp [OtherStationsKept, h]

theorem otherStationsKept_finish {p : Position} {s u : State} (old : State) (h : OtherStationsKept p s u) :
    OtherStationsKept p s (finish old u) := otherStationsKept_trans h (otherStationsKept_of_line (by simp))

/-- The FEED held back at a feeder goes, and no other command of a station does. -/
theorem dropDeferredFeed_spec (s : State) (f : Feeder) :
    OtherStationsKept (feederPosition f) s (s.dropDeferredFeed f) ∧
      (∀ c, ((s.dropDeferredFeed f).line.at (feederPosition f)).deferred ≠ some (.feed c)) ∧
      ∃ d, (s.dropDeferredFeed f).line.at (feederPosition f) = { s.line.at (feederPosition f) with deferred := d } := by
  unfold State.dropDeferredFeed
  dsimp only
  split
  · refine ⟨otherStationsKept_setStation s _ _, fun c => ?_, none, ?_⟩
    · simp [at_setStation]
    · simp [at_setStation]
  · rename_i hno
    exact ⟨otherStationsKept_of_line rfl, fun c hc => hno c hc, (s.line.at (feederPosition f)).deferred, rfl⟩

/-- Clearing the feed-pending record drops the FEED held back for it. -/
theorem clearFeed_spec {s : State} {f : FeedPending} (h : s.issue.feed = some f) :
    OtherStationsKept (feederPosition f.feeder) s s.clearFeed ∧
      (∀ c, (s.clearFeed.line.at (feederPosition f.feeder)).deferred ≠ some (.feed c)) ∧
      ∃ d, s.clearFeed.line.at (feederPosition f.feeder) =
        { s.line.at (feederPosition f.feeder) with deferred := d } := by
  have hc : s.clearFeed = (s.withIssue { s.issue with feed := none }).dropDeferredFeed f.feeder := by
    unfold State.clearFeed
    rw [h]
  rw [hc]
  exact dropDeferredFeed_spec (s.withIssue { s.issue with feed := none }) f.feeder

/-! ### The root sensor (R69) -/

theorem exec_rootSensor (s : State) :
    exec .rootSensor s = answer s
      (match s.issue.feed with
        | some f => if s.train.queue.length < trainMax then s.matchBrick f else s.trainFault
        | none => (if s.train.queue.length < trainMax then s.appendCarrier none none else s).trainFault) := rfl

theorem exec_rootSensor_match {s : State} {f : FeedPending} (hf : s.issue.feed = some f) (hq : s.train.queue.length < 8) :
    exec .rootSensor s = answer s (s.matchBrick f) := by
  rw [exec_rootSensor, hf]
  exact congrArg (answer s) (if_pos hq)

theorem touches_appendCarrier (s : State) (c f : Option EntryIx) : Touches [.queue] [] s (s.appendCarrier c f) :=
  touches_of_frame (by simp [keptBut_iff, State.appendCarrier]) rfl rfl

theorem appendCarrier_queue (s : State) (c f : Option EntryIx) :
    (s.appendCarrier c f).train.queue = s.train.queue ++ [⟨c, f, s.time, 0⟩] := by simp [State.appendCarrier]

theorem moveEntry_of_state {s : State} {i : EntryIx} {a : EntryState} (b : EntryState) (h : s.entryState i = some a) :
    s.moveEntry i a b = s.setEntryState i b := by rw [State.moveEntry, if_pos h]

theorem setLocation_list (s : State) (i : EntryIx) (l : Location) :
    (s.setLocation i l).issue.list = s.issue.list.map fun r => if r.entry = i then { r with location := l } else r := by
  simp [State.setLocation]

theorem bytesKept_of_cells {l : List (Nat × Nat)} {s t : State} (h : t.book.cells = s.book.cells) :
    BytesKeptOutside l s t := fun x _ => by rw [h]

theorem bytesKept_finish {l : List (Nat × Nat)} {s u : State} (old : State) (h : BytesKeptOutside l s u) :
    BytesKeptOutside l s (finish old u) := bytesKept_congr h (by simp)

/-- A brick of an entry at the root. -/
theorem rootSensor_matches_entry {i : EntryIx} {f : FeedPending} {s : State} (hw : BookWf s) (hf : s.issue.feed = some f)
    (hi : f.entry = some i) (hq : s.train.queue.length < 8) (he : s.entryState i = some .issued) :
    ∃ t, exec .rootSensor s = .next t ∧ t.train.queue = s.train.queue ++ [⟨some i, none, s.time, 0⟩] ∧
      t.entryState i = some .transit ∧ t.issue.feed = none ∧
      t.issue.list = s.issue.list.map (fun r => if r.entry = i then { r with location := .train } else r) ∧
      (∀ c, (t.line.at (feederPosition f.feeder)).deferred ≠ some (.feed c)) ∧
      OtherStationsKept (feederPosition f.feeder) s t ∧ t.line.transaction = s.line.transaction ∧
      BytesKeptOutside [(entryAddr i 0, 4)] s t ∧ KeptBut [.bytes, .list, .feed, .queue, .line] s t ∧
      CausesKeptBut [] s t := by
  have hmatch : s.matchBrick f =
      (((s.appendCarrier (some i) none).setEntryState i .transit).setLocation i .train).clearFeed := by
    have hstate : (s.appendCarrier (some i) none).entryState i = some .issued := he
    rw [State.matchBrick, hi, ← moveEntry_of_state _ hstate]
  have hbrick : Touches [.bytes, .list, .queue] [] s
      (((s.appendCarrier (some i) none).setEntryState i .transit).setLocation i .train) :=
    ((touches_appendCarrier s _ _).mono.trans (touches_setEntryState _ i .transit).mono).trans
      (touches_setLocation _ i .train).mono
  have hstands : ((s.appendCarrier (some i) none).setEntryState i .transit).entryState i = some .transit :=
    State.entryState_setEntryState _ i .transit hw
  have hbytes : BytesKeptOutside [(entryAddr i 0, 4)] s ((s.appendCarrier (some i) none).setEntryState i .transit) :=
    bytesKept_trans (bytesKept_of_cells rfl) (bytesKept_setEntryState (s := s.appendCarrier (some i) none) hw i .transit)
  have hqueue := appendCarrier_queue s (some i) none
  generalize hu : (s.appendCarrier (some i) none).setEntryState i .transit = u at *
  have hline : u.line = s.line ∧ u.issue = s.issue ∧ u.train = (s.appendCarrier (some i) none).train := by
    simp [← hu, State.setEntryState, State.appendCarrier]
  obtain ⟨hline, hissue, htrain⟩ := hline
  obtain ⟨hothers, hdropped, -⟩ := clearFeed_spec (s := u.setLocation i .train) (f := f)
    (by simp [State.setLocation, hissue, hf])
  refine ⟨_, by rw [exec_rootSensor_match hf hq, hmatch]; rfl, ?_, ?_, ?_, ?_, ?_, ?_, ?_, ?_,
    (hbrick.mono.trans (touches_clearFeed _).mono).closed⟩
  · simpa [htrain] using hqueue
  · rw [entryState_finish]
    exact (State.entryState_congr (State.word_congr (s := u) (by simp) _)).trans hstands
  · simpa using State.clearFeed_feed _
  · simp [setLocation_list, hissue]
  · simpa using hdropped
  · exact otherStationsKept_finish s (otherStationsKept_trans (otherStationsKept_of_line (by simp [hline])) hothers)
  · simp [hline]
  · exact bytesKept_finish s (bytesKept_congr hbytes (by simp))

/-- A brick of a void-pending feed at the root. -/
theorem rootSensor_matches_void {f : FeedPending} {s : State} (hf : s.issue.feed = some f) (hi : f.entry = none)
    (hq : s.train.queue.length < 8) :
    ∃ t, exec .rootSensor s = .next t ∧ t.train.queue = s.train.queue ++ [⟨none, f.former, s.time, 0⟩] ∧
      t.issue.feed = none ∧ OtherStationsKept (feederPosition f.feeder) s t ∧
      t.line.transaction = s.line.transaction ∧ KeptBut [.feed, .queue, .line] s t ∧ CausesKeptBut [] s t := by
  have hmatch : s.matchBrick f = (s.appendCarrier none f.former).clearFeed := by rw [State.matchBrick, hi]
  obtain ⟨hothers, -⟩ := clearFeed_spec (s := s.appendCarrier none f.former) (f := f) hf
  refine ⟨_, by rw [exec_rootSensor_match hf hq, hmatch]; rfl, ?_, ?_, ?_, ?_,
    ((touches_appendCarrier s none f.former).mono.trans (touches_clearFeed _).mono).closed⟩
  · simpa using appendCarrier_queue s none f.former
  · simpa using State.clearFeed_feed _
  · exact otherStationsKept_finish s (otherStationsKept_trans (otherStationsKept_of_line rfl) hothers)
  · simp [State.appendCarrier]

/-- Settles O28, by whether the pending feed has an entry. -/
theorem rootSensorMatchesTheFeed : Obligations.RootSensorMatchesTheFeed :=
  ⟨fun _ _ _ hw hf hi hq he => rootSensor_matches_entry hw hf hi hq he,
    fun _ _ hf hi hq => rootSensor_matches_void hf hi hq⟩

/-! ### The bay sensor (R76) -/

theorem exec_baySensor (s : State) :
    exec .baySensor s = answer s
      (if s.head.bay.state = .empty then
        (match s.train.queue with
          | c :: rest => s.popFront c rest
          | [] => (s.arriveBay (.void none) none).trainFault)
      else s.trainFault) := rfl

theorem exec_baySensor_pop {s : State} {c : Carrier} {rest : List Carrier} (hb : s.head.bay.state = .empty)
    (hq : s.train.queue = c :: rest) : exec .baySensor s = answer s (s.popFront c rest) := by
  rw [exec_baySensor, if_pos hb, hq]

/-- The train after a command is closed. -/
theorem train_finish (old u : State) : (finish old u).train = ⟨u.train.queue, u.driveWanted, u.train.limitReached⟩ := by
  have hd := (finish_outputs old u).2.1
  have hf := finish_frame old u
  generalize finish old u = t at *
  obtain ⟨-, -, -, -, -, -, hq, hl, -⟩ := hf
  rw [← hd, ← hq, ← hl]

/-- The front carrier popped into the bay, before the entry's state and location follow. -/
def popped (s : State) (c : Carrier) (rest : List Carrier) (x : Content) : State :=
  ((s.withTrain { s.train with queue := rest, limitReached := false }).showTrain).arriveBay x (some c.rootTime)

theorem popped_frame (s : State) (c : Carrier) (rest : List Carrier) (x : Content) :
    (popped s c rest x).train = { s.train with queue := rest, limitReached := false } ∧
      (popped s c rest x).head = { s.head with bay := ⟨.arrived, x, none, some c.rootTime, .empty⟩ } ∧
      (popped s c rest x).book = s.book ∧ (popped s c rest x).issue = s.issue ∧
      (popped s c rest x).control = s.control := ⟨rfl, rfl, rfl, rfl, rfl⟩

theorem touches_popped (s : State) (c : Carrier) (rest : List Carrier) (x : Content) :
    Touches [.queue, .limit, .head] [] s (popped s c rest x) :=
  touches_of_frame (by simp [keptBut_iff, popped, State.arriveBay]) rfl rfl

/-- An occupied bay stops the drive. -/
theorem driveWanted_of_bay {s : State} (h : s.head.bay.state ≠ .empty) : s.driveWanted = false := by
  simp [State.driveWanted, h]

theorem baySensor_pops_entry {i : EntryIx} {c : Carrier} {rest : List Carrier} {s : State} (hw : BookWf s)
    (hb : s.head.bay.state = .empty) (hq : s.train.queue = c :: rest) (hc : c.content = some i)
    (he : s.entryState i = some .transit) :
    ∃ t, exec .baySensor s = .next t ∧ t.train = ⟨rest, false, false⟩ ∧
      t.head = { s.head with bay := ⟨.arrived, .entry i, none, some c.rootTime, .empty⟩ } ∧
      t.entryState i = some .head ∧
      t.issue.list = s.issue.list.map (fun r => if r.entry = i then { r with location := .bay } else r) ∧
      BytesKeptOutside [(entryAddr i 0, 4)] s t ∧ KeptBut [.bytes, .list, .queue, .limit, .head] s t ∧
      CausesKeptBut [] s t := by
  have hpop : s.popFront c rest = ((popped s c rest (.entry i)).setEntryState i .head).setLocation i .bay := by
    have hstate : (popped s c rest (.entry i)).entryState i = some .transit := he
    rw [← moveEntry_of_state _ hstate]
    unfold State.popFront popped
    dsimp only
    rw [hc]
  obtain ⟨htrain, hhead, hbook, hissue, -⟩ := popped_frame s c rest (.entry i)
  have htouch := touches_popped s c rest (.entry i)
  have hw' : BookWf (popped s c rest (.entry i)) := hw
  generalize popped s c rest (.entry i) = u at *
  have hset := bytesKept_setEntryState hw' i .head
  refine ⟨_, by rw [exec_baySensor_pop hb hq, hpop]; rfl, ?_, ?_, ?_, ?_, ?_,
    ((htouch.mono.trans (touches_setEntryState u i .head).mono).trans (touches_setLocation _ i .bay).mono).closed⟩
  · rw [train_finish, driveWanted_of_bay (by simp [hhead])]
    simp [htrain]
  · simp [hhead]
  · rw [entryState_finish]
    exact (State.entryState_congr (State.word_congr (s := u.setEntryState i .head) (by simp) _)).trans
      (State.entryState_setEntryState u i .head hw')
  · simp [setLocation_list, hissue]
  · exact bytesKept_finish s (bytesKept_congr (bytesKept_trans (bytesKept_of_cells (by rw [hbook])) hset) (by simp))

theorem baySensor_pops_void {c : Carrier} {rest : List Carrier} {s : State} (hb : s.head.bay.state = .empty)
    (hq : s.train.queue = c :: rest) (hc : c.content = none) :
    ∃ t, exec .baySensor s = .next t ∧ t.train = ⟨rest, false, false⟩ ∧
      t.head = { s.head with bay := ⟨.arrived, .void c.former, none, some c.rootTime, .empty⟩ } ∧
      KeptBut [.queue, .limit, .head] s t ∧ CausesKeptBut [] s t := by
  have hpop : s.popFront c rest = popped s c rest (.void c.former) := by
    unfold State.popFront popped
    dsimp only
    rw [hc]
  obtain ⟨htrain, hhead, -⟩ := popped_frame s c rest (.void c.former)
  refine ⟨_, by rw [exec_baySensor_pop hb hq, hpop]; rfl, ?_, ?_, (touches_popped s c rest _).closed⟩
  · rw [train_finish, driveWanted_of_bay (by simp [hhead])]
    simp [htrain]
  · simp [hhead]

/-- Settles O29, by the content of the front carrier. -/
theorem baySensorPopsTheFrontCarrier : Obligations.BaySensorPopsTheFrontCarrier :=
  ⟨fun _ _ _ _ hw hb hq hc he => baySensor_pops_entry hw hb hq hc he,
    fun _ _ _ hb hq hc => baySensor_pops_void hb hq hc⟩

/-! ### Train faults (R70, R71, R75, R77 to R79) -/

/-- A train fault that closes a command, after work that left machine control as it was. -/
theorem trainFault_closed {s u : State} (hu : Touches haltBlocks [] s u) (hc : u.control = s.control) :
    hasCause (finish s u.trainFault) .trainFault = true ∧ HaltRequested s (finish s u.trainFault) ∧
      KeptBut haltBlocks s (finish s u.trainFault) ∧
      CausesKeptBut [.trainFault, .halted, .courseClosed] s (finish s u.trainFault) :=
  ⟨hasCause_finish_of _ _ _ ((touches_requestHalt _).causes.stand _ (by simp)),
    haltRequested_finish s (u := u.raise .trainFault) (by simpa using hc), (hu.mono.trans (touches_trainFault u)).closed⟩

theorem requestHalt_queue_length (s : State) : s.requestHalt.train.queue.length = s.train.queue.length := by
  unfold State.requestHalt
  split
  · rfl
  · rfl
  all_goals rw [enterHalt_queue, List.length_map]

theorem trainFault_queue_length (s : State) : s.trainFault.train.queue.length = s.train.queue.length :=
  requestHalt_queue_length _

/-- Outside the working states a train fault only raises its cause, and holds the request in INIT. -/
theorem trainFault_of_not_mayHalt {s : State} (h : ¬MayHalt s) :
    s.trainFault.train = s.train ∧ s.trainFault.issue = s.issue ∧ s.trainFault.head = s.head := by
  unfold State.trainFault
  rcases (not_mayHalt_iff (s.raise .trainFault)).1 h with h | h
  · rw [requestHalt_of_init h]
    simp
  · rw [requestHalt_of_halt h]
    simp

/-- A void brick that has just arrived in the bay stays there. -/
theorem requestHalt_void_bay {s : State} {f : Option EntryIx} (h1 : s.head.bay.state = .arrived)
    (h2 : s.head.bay.content = .void f) :
    s.requestHalt.head.bay.state = .arrived ∧ s.requestHalt.head.bay.content = .void f := by
  by_cases hm : MayHalt s
  · rw [requestHalt_of_mayHalt hm]
    rcases (HeadPath.refl s).enterHalt.bay with ⟨hb, -⟩ | ⟨hb, -⟩
    · rw [hb]
      exact ⟨h1, h2⟩
    · rw [hb]
      simp [Bay.afterVoid, h1, h2, voided]
  · rcases (not_mayHalt_iff s).1 hm with h | h
    · rw [requestHalt_of_init h]
      exact ⟨h1, h2⟩
    · rw [requestHalt_of_halt h]
      exact ⟨h1, h2⟩

theorem rootSensor_stray {s : State} (hf : s.issue.feed = none) :
    ∃ t, exec .rootSensor s = .next t ∧ hasCause t .trainFault = true ∧ HaltRequested s t ∧
      t.train.queue.length = (if s.train.queue.length < 8 then s.train.queue.length + 1 else s.train.queue.length) ∧
      (¬MayHalt s → s.train.queue.length < 8 → t.train.queue = s.train.queue ++ [⟨none, none, s.time, 0⟩]) ∧
      KeptBut haltBlocks s t ∧
      CausesKeptBut [.trainFault, .halted, .courseClosed] s t := by
  have hexec := exec_rootSensor s
  rw [hf] at hexec
  dsimp only at hexec
  by_cases hq : s.train.queue.length < 8
  · rw [if_pos (show s.train.queue.length < trainMax from hq)] at hexec
    have htouch := touches_appendCarrier s none none
    have hqueue := appendCarrier_queue s none none
    have hcontrol : (s.appendCarrier none none).control = s.control := rfl
    generalize s.appendCarrier none none = u at *
    obtain ⟨h1, h2, hframe⟩ := trainFault_closed (htouch.mono (bs' := haltBlocks)) hcontrol
    refine ⟨_, hexec, h1, h2, ?_, fun hm _ => ?_, hframe⟩
    · simp [hq, trainFault_queue_length, hqueue]
    · have hm' : ¬MayHalt u := fun h => hm ((mayHalt_congr (congrArg _ hcontrol)).1 h)
      simp [(trainFault_of_not_mayHalt hm').1, hqueue]
  · rw [if_neg (show ¬s.train.queue.length < trainMax from hq)] at hexec
    obtain ⟨h1, h2, hframe⟩ := trainFault_closed (Touches.refl haltBlocks [] s) rfl
    exact ⟨_, hexec, h1, h2, by simp [hq, trainFault_queue_length], fun _ h => absurd h hq, hframe⟩

theorem rootSensor_full {f : FeedPending} {s : State} (hf : s.issue.feed = some f) (hq : 8 ≤ s.train.queue.length) :
    ∃ t, exec .rootSensor s = .next t ∧ hasCause t .trainFault = true ∧ HaltRequested s t ∧
      t.train.queue.length = s.train.queue.length ∧ (¬MayHalt s → t.issue.feed = some f) ∧ KeptBut haltBlocks s t ∧
      CausesKeptBut [.trainFault, .halted, .courseClosed] s t := by
  have hexec : exec .rootSensor s = answer s s.trainFault := by
    rw [exec_rootSensor, hf]
    exact congrArg (answer s) (if_neg (by simpa [trainMax] using hq))
  obtain ⟨h1, h2, hframe⟩ := trainFault_closed (Touches.refl haltBlocks [] s) rfl
  exact ⟨_, hexec, h1, h2, by simp [trainFault_queue_length],
    fun hm => by simp [(trainFault_of_not_mayHalt hm).2.1, hf], hframe⟩

theorem baySensor_stray {s : State} (hb : s.head.bay.state = .empty) (hq : s.train.queue = []) :
    ∃ t, exec .baySensor s = .next t ∧ hasCause t .trainFault = true ∧ HaltRequested s t ∧ t.train.queue = [] ∧
      t.head.bay.state = .arrived ∧ t.head.bay.content = .void none ∧ KeptBut haltBlocks s t ∧
      CausesKeptBut [.trainFault, .halted, .courseClosed] s t := by
  have hexec : exec .baySensor s = answer s (s.arriveBay (.void none) none).trainFault := by
    rw [exec_baySensor, if_pos hb, hq]
  obtain ⟨h1, h2, hframe⟩ := trainFault_closed (touches_putHead s _).mono (u := s.arriveBay (.void none) none) rfl
  obtain ⟨hstate, hcontent⟩ :=
    requestHalt_void_bay (s := (s.arriveBay (.void none) none).raise .trainFault) (f := none) rfl rfl
  refine ⟨_, hexec, h1, h2, ?_, by simpa [State.trainFault] using hstate, by simpa [State.trainFault] using hcontent, hframe⟩
  rw [← List.length_eq_zero_iff]
  simp [trainFault_queue_length, State.arriveBay, hq]

theorem baySensor_overrun {s : State} (hb : s.head.bay.state ≠ .empty) :
    ∃ t, exec .baySensor s = .next t ∧ hasCause t .trainFault = true ∧ HaltRequested s t ∧
      t.train.queue.length = s.train.queue.length ∧ (¬MayHalt s → t.head = s.head) ∧ KeptBut haltBlocks s t ∧
      CausesKeptBut [.trainFault, .halted, .courseClosed] s t := by
  obtain ⟨h1, h2, hframe⟩ := trainFault_closed (Touches.refl haltBlocks [] s) rfl
  exact ⟨_, by rw [exec_baySensor, if_neg hb]; rfl, h1, h2, by simp [trainFault_queue_length],
    fun hm => by simp [(trainFault_of_not_mayHalt hm).2.2], hframe⟩

theorem exec_jam (s : State) : exec .jam s = answer s (if s.jammed then s.trainFault else s) := rfl

/-- Settles O30, fault by fault. -/
theorem trainFaultsAskForHalt : Obligations.TrainFaultsAskForHalt := by
  refine ⟨fun s hf => rootSensor_stray hf, fun f s hf hq => rootSensor_full hf hq, fun s hb hq => baySensor_stray hb hq,
    fun s hb => baySensor_overrun hb, fun s hq hd hl => ?_, fun s hl => noEffect_of_exec ?_⟩
  · have hj : s.jammed = true := by simp [State.jammed, hq, hd, hl]
    obtain ⟨h1, h2, hframe⟩ := trainFault_closed (Touches.refl haltBlocks [] s) rfl
    exact ⟨_, by rw [exec_jam, if_pos hj]; rfl, h1, h2, by simp [trainFault_queue_length], hframe⟩
  · rw [exec_jam, if_neg (by simp [State.jammed, hl])]

end Sys2Proof
end

section
/-! SUPPORT. The set-point frame's end, the state of power-on, the calibration store and the timers of the feeders. -/

namespace Sys2Proof

open Sys2Proof.Machine

/-! ### The end of a set-point frame (R141) -/

theorem exec_setpointFrameEnd (s : State) :
    exec .setpointFrameEnd s = answer s
      (if s.trim.sending then
        s.withTrim (if s.trim.outputPending then s.trim.beginFrame else { s.trim with sending := false })
      else s) := rfl

/-- Settles O43, by the pending mark. -/
theorem frameEndSendsThePendingFrame : Obligations.FrameEndSendsThePendingFrame := by
  refine ⟨fun s hs hp => ?_, fun s hs hp => ?_, fun s hs => noEffect_of_exec ?_⟩
  · refine ⟨_, by rw [exec_setpointFrameEnd, if_pos hs, if_pos hp]; rfl, ?_, (touches_withTrim s _).closed⟩
    simp [Trim.beginFrame, hs]
  · refine ⟨_, by rw [exec_setpointFrameEnd, if_pos hs, if_neg (by simp [hp])]; rfl, ?_, (touches_withTrim s _).closed⟩
    simp
  · rw [exec_setpointFrameEnd, if_neg (by simp [hs])]

/-! ### The instant of power-on (R23, R177) -/

theorem courseState_reset (k : Slot) : State.reset.courseState k = some .empty := by
  revert k
  decide

theorem station_reset (p : Position) : State.reset.line.at p = .unsensed := by cases p <;> rfl

theorem derived_powerOn : Derived .reset := by
  have hnow : State.reset.starvedNow = false := starvedNow_eq_false rfl rfl
  refine (derived_iff _).2 ⟨rfl, rfl, ?_, rfl⟩
  rw [hnow]
  rfl

theorem commandsFit_reset : CommandsFit .reset := by
  refine ⟨by simp [State.reset], by simp [State.reset], fun p c h => ?_, fun p c h => ?_⟩
  · rw [station_reset] at h
    cases h
  · rw [station_reset] at h
    cases h

theorem withinBounds_reset : WithinBounds .reset :=
  ⟨by decide, by decide, by decide, by decide, by decide, by decide, by decide, by decide,
    by unfold ProfileInRange; decide, by unfold DeviationFits; decide, commandsFit_reset, by unfold BinFits; decide⟩

/-- Settles O54, block by block. -/
theorem powerOnStateMeetsTheInvariants : Obligations.PowerOnStateMeetsTheInvariants := by
  refine ⟨Memory.powerOn_wf, fun k => ?_, derived_powerOn, ⟨fun _ => rfl, rfl⟩, ?_, fun _ _ => rfl, fun h => ?_,
    fun r hr => ?_, List.nodup_nil, withinBounds_reset⟩
  · rw [courseState_reset]
    simp [State.reset]
  · unfold StageWithinRange Within
    decide
  · cases h
  · cases hr

/-! ### The calibration store (R193 to R196) -/

theorem calibrationGood_iff (v : Vector Word 32) : calibrationGood v = true ↔ ImageGood v := by
  simp [calibrationGood, ImageGood, Fin.exists_iff]

/-- Taking the offset and the ranges, and S moved into the ranges. -/
theorem takesCalibration_of_trim {s t : State} {o r : Pose} (h : t.trim = (s.takeCalibration o r).trim) :
    TakesCalibration o r s t := by
  have htrim : t.trim = (({ s.trim with offset := o, range := r } : Trim).moveSetPoint (clampPose r s.trim.setPoint)) := h
  unfold TakesCalibration
  rw [htrim]
  refine ⟨by simp, by simp, by simp, by simp, by simp, fun he => ?_, fun hne hs => ?_, fun hne hs => ?_⟩
  · rw [Trim.moveSetPoint, if_pos he]
  · rw [Trim.moveSetPoint, if_neg hne]
    simp [Trim.wantFrame, hs, Trim.beginFrame]
  · rw [Trim.moveSetPoint, if_neg hne]
    simp [Trim.wantFrame, hs]

theorem touches_takeCalibration (s : State) (o r : Pose) : Touches [.trim] [] s (s.takeCalibration o r) :=
  touches_withTrim s _

theorem touches_handOver (s : State) (v : Vector Word 32) : Touches [.trim] [] s (s.handOver v) := by
  unfold State.handOver
  split <;> exact touches_takeCalibration s _ _

theorem touches_copyImage (s : State) (v : Vector Word 32) : Touches [.bytes] [] s (s.copyImage v) :=
  .foldl (fun t (j : Fin 32) => touches_setWord t (imageAddr j.val) v[j]) _ s

theorem commitCal_accepts {s : State} (ha : CommitAllowed s)
    (hg : calibrationGood s.image = true ∨ Config.testOutlasts s.free = true) :
    ∃ t, exec .commitCal s = .next t ∧ t.cal = { s.cal with busy := true, acceptedAt := s.time } ∧
      KeptBut [.cal] s t ∧ CausesKeptBut [] s t := by
  refine ⟨_, by rw [exec_commitCal, if_pos ((commitAccepted_iff s).2 ha), if_pos (by simpa using hg)]; rfl, ?_,
    (touches_withCal s _).closed⟩
  simp

theorem touches_rejectCommit (s : State) : Touches [.cal] [.calRejected] s s.rejectCommit :=
  (touches_withCal s _).mono.trans (touches_raise _ .calRejected).mono

theorem commitCal_rejects {s : State} (ha : CommitAllowed s) (hg : ¬ImageGood s.image)
    (ht : Config.testOutlasts s.free = false) :
    ∃ t, exec .commitCal s = .next t ∧ hasCause t .calRejected = true ∧ KeptBut [] s t ∧
      CausesKeptBut [.calRejected] s t := by
  have hgood : calibrationGood s.image = false := by
    rw [← Bool.not_eq_true, calibrationGood_iff]
    exact hg
  have hsame : s.withCal { s.cal with busy := false } = s := by
    rw [← ha.2]
    rfl
  refine ⟨_, by rw [exec_commitCal, if_pos ((commitAccepted_iff s).2 ha), if_neg (by simp [hgood, ht]),
    State.rejectCommit, hsame]; rfl, hasCause_finish_of _ _ _ (by simp), (touches_raise s .calRejected).closed⟩

theorem exec_commitEnd (s : State) :
    exec .commitEnd s =
      answer s (if s.cal.busy then (if calibrationGood s.image then s.completeCommit else s.rejectCommit) else s) := rfl

theorem commitEnd_completes {s : State} (hb : s.cal.busy = true) (hg : ImageGood s.image) :
    ∃ t, exec .commitEnd s = .next t ∧ t.cal = { s.cal with store := s.image, valid := true, busy := false } ∧
      TakesCalibration (calibrationOffset s.image) (calibrationRange s.image) s t ∧ hasCause t .calDone = true ∧
      KeptBut [.cal, .trim] s t ∧ CausesKeptBut [.calDone] s t := by
  have htouch : Touches [.cal, .trim] [.calDone] s s.completeCommit :=
    ((touches_withCal s _).mono.trans (touches_takeCalibration _ _ _).mono).trans (touches_raise _ .calDone).mono
  refine ⟨_, by rw [exec_commitEnd, if_pos hb, if_pos ((calibrationGood_iff _).2 hg)]; rfl, ?_,
    takesCalibration_of_trim ?_, hasCause_finish_of _ _ _ (by simp [State.completeCommit]), htouch.closed⟩
  · simp [State.completeCommit, State.takeCalibration]
  · simp [State.completeCommit, State.takeCalibration]

theorem commitEnd_rejects {s : State} (hb : s.cal.busy = true) (hg : ¬ImageGood s.image) :
    ∃ t, exec .commitEnd s = .next t ∧ t.cal = { s.cal with busy := false } ∧ hasCause t .calRejected = true ∧
      KeptBut [.cal] s t ∧ CausesKeptBut [.calRejected] s t := by
  refine ⟨_, by rw [exec_commitEnd, if_pos hb, if_neg (by rwa [calibrationGood_iff])]; rfl, ?_,
    hasCause_finish_of _ _ _ (by simp [State.rejectCommit]), (touches_rejectCommit s).closed⟩
  simp [State.rejectCommit]

theorem exec_calLoad (s : State) :
    exec .calLoad s = answer s
      (if s.loadDue then
        (((s.copyImage s.cal.store).withCal { s.cal with valid := calibrationGood s.cal.store }).handOver
          s.cal.store).withControl { s.control with loaded := true }
      else s) := rfl

/-- Words of the image are four bytes apart. -/
theorem imageAddr_apart {i j : Fin 32} (h : i ≠ j) :
    imageAddr i.val + 4 ≤ imageAddr j.val ∨ imageAddr j.val + 4 ≤ imageAddr i.val := by
  have := Fin.val_ne_of_ne h
  unfold imageAddr
  omega

/-- Words of the book written one after the other, each with its own value. -/
theorem word_foldl_setWord {α : Type} [DecidableEq α] {addr : α → Nat} (v : α → Word) (fits : ∀ x, addr x + 4 ≤ 65536)
    (apart : ∀ x y, x ≠ y → addr x + 4 ≤ addr y ∨ addr y + 4 ≤ addr x) (y : α) : ∀ (l : List α) (s : State), BookWf s →
    (l.foldl (fun t x => t.setWord (addr x) (v x)) s).word (addr y) = if y ∈ l then v y else s.word (addr y)
  | [], _, _ => by simp
  | x :: l, s, hw => by
    have hwf : BookWf (s.setWord (addr x) (v x)) := State.setWord_wf s _ _ (fits x) hw
    rw [List.foldl_cons, word_foldl_setWord v fits apart y l _ hwf]
    by_cases hl : y ∈ l
    · simp [hl]
    by_cases hxy : x = y
    · subst hxy
      simpa [hl] using State.word_setWord s _ (v x) hw (fits x)
    · simpa [hl, Ne.symm hxy] using State.word_setWord_ne s _ _ (v x) hw (fits x) (apart x y hxy).symm

theorem read_foldl_setWord {α : Type} {addr : α → Nat} (v : α → Word) (fits : ∀ x, addr x + 4 ≤ 65536) {a : Nat} :
    ∀ (l : List α) (s : State), BookWf s → (∀ x ∈ l, a < addr x ∨ addr x + 4 ≤ a) →
    (l.foldl (fun t x => t.setWord (addr x) (v x)) s).book.cells.read a = s.book.cells.read a
  | [], _, _, _ => rfl
  | x :: l, s, hw, h => by
    have hwf : BookWf (s.setWord (addr x) (v x)) := State.setWord_wf s _ _ (fits x) hw
    rw [List.foldl_cons, read_foldl_setWord v fits l _ hwf fun y hy => h y (List.mem_cons_of_mem _ hy)]
    exact State.read_setWord_ne s _ _ _ hw (fits x) (h x (List.mem_cons_self ..))

theorem image_copyImage {s : State} (hw : BookWf s) (v : Vector Word 32) : (s.copyImage v).image = v := by
  refine Vector.ext fun j hj => ?_
  have h := word_foldl_setWord (fun j : Fin 32 => v[j]) imageAddr_fits (fun _ _ => imageAddr_apart) ⟨j, hj⟩
    (List.finRange 32) s hw
  rw [if_pos (List.mem_finRange _)] at h
  simpa [State.image, State.copyImage] using h

theorem image_congr {s t : State} (h : t.book.cells = s.book.cells) : t.image = s.image := by
  simp [State.image, State.word_congr h]

theorem bytesKept_copyImage {s : State} (hw : BookWf s) (v : Vector Word 32) :
    BytesKeptOutside [(imageAddr 0, 128)] s (s.copyImage v) := by
  intro a ha
  have hout : a < imageAddr 0 ∨ imageAddr 0 + 128 ≤ a := by simpa using ha
  refine read_foldl_setWord (fun j : Fin 32 => v[j]) imageAddr_fits (List.finRange 32) s hw fun j _ => ?_
  unfold imageAddr at hout ⊢
  omega

theorem calLoad_loads {s : State} (hw : BookWf s) (hi : s.control.state = .init) (hb : s.cal.busy = false)
    (hl : s.control.loaded = false) :
    ∃ t, exec .calLoad s = .next t ∧ t.image = s.cal.store ∧ t.control = { s.control with loaded := true } ∧
      (ImageGood s.cal.store →
        t.cal = { s.cal with valid := true } ∧
          TakesCalibration (calibrationOffset s.cal.store) (calibrationRange s.cal.store) s t) ∧
      (¬ImageGood s.cal.store → t.cal = { s.cal with valid := false } ∧ TakesCalibration .zero ⟨1, 1, 1, 1⟩ s t) ∧
      BytesKeptOutside [(imageAddr 0, 128)] s t ∧ KeptBut [.bytes, .cal, .trim, .control] s t ∧ CausesKeptBut [] s t := by
  have hdue : s.loadDue = true := by simp [State.loadDue, hi, hb, hl]
  have hexec := exec_calLoad s
  rw [if_pos hdue] at hexec
  have himage := image_copyImage hw s.cal.store
  have hbytes := bytesKept_copyImage hw s.cal.store
  have htouch := touches_copyImage s s.cal.store
  have htrim : (s.copyImage s.cal.store).trim = s.trim := by simp
  generalize s.copyImage s.cal.store = u at *
  refine ⟨_, hexec, ?_, ?_, fun hg => ?_, fun hg => ?_, ?_,
    (((htouch.mono.trans (touches_withCal u _).mono).trans (touches_handOver _ _).mono).trans
      (touches_withControl _ _).mono).closed⟩
  · rw [← himage]
    exact image_congr (by simp)
  · simp
  · have hgood := (calibrationGood_iff _).2 hg
    refine ⟨by simp [hgood], takesCalibration_of_trim ?_⟩
    simp [State.handOver, hgood, State.takeCalibration, htrim]
  · have hbad : calibrationGood s.cal.store = false := by rwa [← Bool.not_eq_true, calibrationGood_iff]
    refine ⟨by simp [hbad], takesCalibration_of_trim ?_⟩
    simp [State.handOver, hbad, State.takeCalibration, htrim, invalidOffset, invalidRange]
  · exact bytesKept_finish s (bytesKept_congr hbytes (by simp))

/-- Settles O51: the commit's acceptance, its two ends, and the load. -/
theorem calibrationIsCommittedAndLoaded : Obligations.CalibrationIsCommittedAndLoaded := by
  refine ⟨fun s ha hg => commitCal_accepts ha (.inl ((calibrationGood_iff _).2 hg)), fun s ha hg => ?_,
    fun s hb hg => commitEnd_completes hb hg, fun s hb hg => commitEnd_rejects hb hg, fun s hb => noEffect_of_exec ?_,
    fun s hw hi hb hl => calLoad_loads hw hi hb hl, fun s hb => noEffect_of_exec ?_⟩
  · cases ht : Config.testOutlasts s.free with
    | true =>
      obtain ⟨t, hexec, hcal, hframe⟩ := commitCal_accepts ha (.inr ht)
      exact ⟨t, hexec, by simp, fun _ => ⟨hcal, hframe⟩⟩
    | false =>
      obtain ⟨t, hexec, hrest⟩ := commitCal_rejects ha hg ht
      exact ⟨t, hexec, fun _ => hrest, by simp⟩
  · rw [exec_commitEnd, if_neg (by simp [hb])]
  · rw [exec_calLoad, if_neg (by simp [State.loadDue, hb])]

/-! ### The timers of the feeders (R94, R56) -/

theorem exec_holdTimerExpiry (f : Feeder) (s : State) :
    exec (.holdTimerExpiry f) s = answer s
      (if (s.line.at (feederPosition f)).state = .held ∧ (s.line.at (feederPosition f)).hold = some 0 then
        s.changeStation (feederPosition f) { s.line.at (feederPosition f) with state := .ready, hold := none }
      else s) := rfl

/-- A station that turns READY withdraws no feed. -/
theorem changeStation_of_ready {s : State} {p : Position} {x : Station} (h : x.state = .ready) :
    s.changeStation p x = s.setStation p x := by
  have hready : ((s.setStation p x).line.at p).state = .ready := by simp [at_setStation, h]
  unfold State.changeStation State.withdrawIfNotReady
  split
  · rfl
  · exact if_neg fun hc => hc.2.2 hready

theorem exec_feedTimerExpiry (s : State) :
    exec .feedTimerExpiry s = answer s
      (match s.feedTimerDue with
        | some f =>
          s.endFeed.setStation (feederPosition f) (timedOutFeeder (s.endFeed.line.at (feederPosition f)))
        | none => s) := rfl

theorem feedTimerDue_of_accepted {s : State} {f : FeedPending} {n : Word} (hf : s.issue.feed = some f)
    (hp : f.phase = .accepted n) :
    s.feedTimerDue = if 8000 ≤ (s.time - n).toNat then some f.feeder else none := by
  rw [State.feedTimerDue, hf]
  dsimp only
  rw [hp]
  rfl

/-- A feed that ends leaves the list as it was, or its entry's record without a brick, and no other station changed. -/
theorem endFeed_spec {s : State} {f : FeedPending} (hf : s.issue.feed = some f) :
    s.endFeed.issue.feed = none ∧ (f.entry = none → s.endFeed.issue.list = s.issue.list) ∧
      (∀ i, f.entry = some i → s.endFeed.issue.list =
        s.issue.list.map (fun r => if r.entry = i then { r with location := .none } else r)) ∧
      OtherStationsKept (feederPosition f.feeder) s s.endFeed := by
  have hclear := (clearFeed_spec hf).1
  unfold State.endFeed
  rw [hf]
  dsimp only
  cases hi : f.entry with
  | none => exact ⟨State.clearFeed_feed s, fun _ => by simp, fun i h => (nomatch h), hclear⟩
  | some i =>
    refine ⟨by simpa using State.clearFeed_feed s, fun h => (nomatch h), fun j hj => ?_,
      otherStationsKept_trans hclear (otherStationsKept_of_line (by simp))⟩
    obtain rfl : i = j := Option.some.inj hj
    simp [setLocation_list]

theorem feedTimer_times_out {f : FeedPending} {n : Word} {s : State} (hf : s.issue.feed = some f)
    (hp : f.phase = .accepted n) (hn : 8000 ≤ (s.time - n).toNat) :
    ∃ t, exec .feedTimerExpiry s = .next t ∧ t.issue.feed = none ∧ (f.entry = none → t.issue.list = s.issue.list) ∧
      (∀ i, f.entry = some i →
        t.issue.list = s.issue.list.map (fun r => if r.entry = i then { r with location := .none } else r)) ∧
      (t.line.at (feederPosition f.feeder)).state = .faulted ∧
      (t.line.at (feederPosition f.feeder)).lastError = errorFeedTimeout ∧
      (t.line.at (feederPosition f.feeder)).operation = .none ∧ OtherStationsKept (feederPosition f.feeder) s t ∧
      t.line.transaction = s.line.transaction ∧ KeptBut [.line, .feed, .list] s t ∧ CausesKeptBut [] s t := by
  have hexec := exec_feedTimerExpiry s
  rw [feedTimerDue_of_accepted hf hp, if_pos hn] at hexec
  dsimp only at hexec
  obtain ⟨hfeed, hnone, hsome, hothers⟩ := endFeed_spec hf
  have htouch := touches_endFeed s
  have htransaction : s.endFeed.line.transaction = s.line.transaction := by simp
  generalize s.endFeed = u at *
  refine ⟨_, hexec, by simpa using hfeed, by simpa using hnone, by simpa using hsome, ?_, ?_, ?_,
    otherStationsKept_finish s (otherStationsKept_trans hothers (otherStationsKept_setStation u _ _)),
    by simpa using htransaction, (htouch.mono.trans (touches_setStation u _ _).mono).closed⟩
  · simp [at_setStation, timedOutFeeder]
  · simp [at_setStation, timedOutFeeder]
  · simp [at_setStation, timedOutFeeder]

/-- Settles O35: the hold timer, and the feed timer on either side of its limit. -/
theorem feederTimersExpire : Obligations.FeederTimersExpire := by
  refine ⟨fun f s hs hh => ?_, fun f n s hf hp hn => feedTimer_times_out hf hp hn,
    fun f n s hf hp hn => noEffect_of_exec ?_⟩
  · refine ⟨_, by rw [exec_holdTimerExpiry, if_pos ⟨hs, hh⟩, changeStation_of_ready rfl]; rfl, ?_,
      otherStationsKept_finish s (otherStationsKept_setStation s _ _), by simp, (touches_setStation s _ _).closed⟩
    simp [at_setStation]
  · rw [exec_feedTimerExpiry, feedTimerDue_of_accepted hf hp, if_neg (by omega)]

end Sys2Proof
end

section
/-! SUPPORT. Counting entries of the active course (2.4): what counting reads, what an entry that ends leaves, and the host's
writes to state words that count. -/

namespace Sys2Proof

open Sys2Proof.Machine

/-! ### What counting reads -/

/-- Course records, sequencer, time and COURSE_CLOSED agree. -/
structure SameCourses (s t : State) : Prop where
  seq : t.seq = s.seq
  time : t.time = s.time
  closed : hasCause t .courseClosed = hasCause s .courseClosed
  word : ∀ k w, w < 16 → t.word (courseAddr k w) = s.word (courseAddr k w)

theorem SameCourses.refl (s : State) : SameCourses s s := ⟨rfl, rfl, rfl, fun _ _ _ => rfl⟩

theorem SameCourses.trans {s t u : State} (h1 : SameCourses s t) (h2 : SameCourses t u) : SameCourses s u :=
  ⟨h2.seq.trans h1.seq, h2.time.trans h1.time, h2.closed.trans h1.closed,
    fun k w hw => (h2.word k w hw).trans (h1.word k w hw)⟩

theorem SameCourses.symm {s t : State} (h : SameCourses s t) : SameCourses t s :=
  ⟨h.seq.symm, h.time.symm, h.closed.symm, fun k w hw => (h.word k w hw).symm⟩

theorem SameCourses.of_book {s t : State} (hb : t.book.cells = s.book.cells) (hs : t.seq = s.seq) (ht : t.time = s.time)
    (hc : hasCause t .courseClosed = hasCause s .courseClosed) : SameCourses s t :=
  ⟨hs, ht, hc, fun _ _ _ => State.word_congr hb _⟩

theorem sameCourses_finish (old u : State) : SameCourses u (finish old u) :=
  .of_book (by simp) (by simp) (by simp) (hasCause_finish_of_ne old u (by decide))

/-- Words written above the course records leave them as they are. -/
theorem SameCourses.of_bytes {l : List (Nat × Nat)} {s t : State} (h : BytesKeptOutside l s t)
    (hl : ∀ r ∈ l, 0x0500 ≤ r.1) (hs : t.seq = s.seq) (ht : t.time = s.time) (hc : t.host.cause = s.host.cause) :
    SameCourses s t := by
  refine ⟨hs, ht, hasCause_congr hc _, fun k w hw => h.word fun r hr => .inl ?_⟩
  have := hl r hr
  unfold courseAddr
  omega

theorem SameCourses.inCourse {s t : State} (h : SameCourses s t) (k : Slot) (i : EntryIx) :
    t.inCourse k i = s.inCourse k i := by
  unfold State.inCourse State.courseFirst State.courseCount
  rw [h.word k 2 (by omega), h.word k 3 (by omega)]

theorem SameCourses.courseEntries {s t : State} (h : SameCourses s t) (k : Slot) :
    t.courseEntries k = s.courseEntries k := by
  unfold State.courseEntries State.courseFirst State.courseCount
  rw [h.word k 2 (by omega), h.word k 3 (by omega)]

theorem SameCourses.courseMode {s t : State} (h : SameCourses s t) (k : Slot) : t.courseMode k = s.courseMode k := by
  unfold State.courseMode
  rw [h.word k 4 (by omega)]

theorem SameCourses.courseFigures {s t : State} (h : SameCourses s t) (k : Slot) :
    t.courseFigures k = s.courseFigures k := State.courseFigures_congr fun w _ _ => h.word k w (by omega)

theorem SameCourses.courseState {s t : State} (h : SameCourses s t) (k : Slot) : t.courseState k = s.courseState k :=
  State.courseState_congr (h.word k 1 (by omega))

theorem SameCourses.inActive_iff {s t : State} (h : SameCourses s t) (k : Slot) (i : EntryIx) :
    InActive t k i ↔ InActive s k i := by
  unfold InActive
  rw [h.seq, h.inCourse]

theorem SameCourses.uncounted_iff {s t : State} (h : SameCourses s t) (i : EntryIx) : Uncounted t i ↔ Uncounted s i :=
  forall_congr' fun k => not_congr (h.inActive_iff k i)

theorem SameCourses.underCloseRequest_iff {s t : State} (h : SameCourses s t) (i : EntryIx) :
    UnderCloseRequest t i ↔ UnderCloseRequest s i := by
  unfold UnderCloseRequest
  rw [h.seq]
  simp only [h.inActive_iff]

/-- Figures taken between states that agree with the given ones on the course records. -/
theorem takesFigures_of_same {k : Slot} {f : CourseFigures} {s s' t t' : State} (h1 : SameCourses s s')
    (h2 : SameCourses t t') (h : TakesFigures k f s' t) : TakesFigures k f s t' := by
  obtain ⟨hf, hopen, hclose⟩ := h
  refine ⟨(h2.courseFigures k).trans hf, fun hr => ?_, fun hr => ?_⟩
  · obtain ⟨hseq, hstate, hcount, hcause⟩ := hopen hr
    refine ⟨(h2.seq.trans hseq).trans h1.seq, ((h2.courseState k).trans hstate).trans (h1.courseState k), ?_,
      (h2.closed.trans hcause).trans h1.closed⟩
    rw [h2.word k 0 (by omega), hcount, h1.word k 0 (by omega)]
  · obtain ⟨hseq, hstate, hstamp, hcount, hcause⟩ := hclose hr
    refine ⟨(h2.seq.trans hseq).trans (by rw [h1.seq]), (h2.courseState k).trans hstate, ?_, ?_, h2.closed.trans hcause⟩
    · rw [h2.word k 15 (by omega), hstamp, h1.time]
    · rw [h2.word k 0 (by omega), hcount, h1.word k 0 (by omega)]

/-! ### An entry that ends (R6, R33) -/

theorem bytesKept_finishEntry {s : State} (hw : BookWf s) (i : EntryIx) (e : EntryState) (r : ResultCode) :
    BytesKeptOutside (terminalWords i) s (s.finishEntry i e r) := fun x hx => State.finishEntry_read s i e r x hw hx

theorem terminalWords_above {i : EntryIx} {r : Nat × Nat} (h : r ∈ terminalWords i) : 0x0500 ≤ r.1 := by
  simp only [terminalWords, List.mem_cons, List.not_mem_nil, or_false] at h
  rcases h with rfl | rfl | rfl
  all_goals simp only [entryAddr]
  all_goals omega

theorem sameCourses_finishEntry {s : State} (hw : BookWf s) (i : EntryIx) (e : EntryState) (r : ResultCode) :
    SameCourses s (s.finishEntry i e r) :=
  .of_bytes (bytesKept_finishEntry hw i e r) (fun _ => terminalWords_above) (by simp) (by simp) (by simp)

/-- The figures of a course after an entry has ended in this state, before its closing. -/
def endedFigures (s : State) (k : Slot) (i : EntryIx) (e : EntryState) (r : ResultCode) : CourseFigures :=
  (s.finishEntry i e r).countedFigures k i e

theorem endedFigures_failed {s : State} (hw : BookWf s) (k : Slot) (i : EntryIx) (r : ResultCode) :
    endedFigures s k i .failed r = { s.courseFigures k with
      remaining := (s.courseFigures k).remaining - 1, failed := (s.courseFigures k).failed + 1 } := by
  simp [endedFigures, State.countedFigures, State.recomputeZc, State.countIn,
    (sameCourses_finishEntry hw i .failed r).courseFigures k]

theorem endedFigures_cancelled {s : State} (hw : BookWf s) (k : Slot) (i : EntryIx) (r : ResultCode) :
    endedFigures s k i .cancelled r = { s.courseFigures k with
      remaining := (s.courseFigures k).remaining - 1, cancelled := (s.courseFigures k).cancelled + 1 } := by
  simp [endedFigures, State.countedFigures, State.recomputeZc, State.countIn,
    (sameCourses_finishEntry hw i .cancelled r).courseFigures k]

/-- An entry has ended with a result, and the active course has counted it. -/
structure Ended (i : EntryIx) (e : EntryState) (r : ResultCode) (s t : State) : Prop where
  wf : BookWf t
  state : t.entryState i = some e
  result : ResultOf i r s t
  stamp : t.word (entryAddr i 13) = s.time
  uncounted : Uncounted s i → SameCourses s t
  takes : ∀ k, InActive s k i → FiguresFit (endedFigures s k i e r) → TakesFigures k (endedFigures s k i e r) s t
  bytes : CountedBytes i (terminalWords i) s t

theorem resultOf_congr {i : EntryIx} {r : ResultCode} {s t u : State} (h : ResultOf i r s t)
    (hu : u.word (entryAddr i 7) = t.word (entryAddr i 7)) : ResultOf i r s u := by
  unfold ResultOf
  rw [hu]
  exact h

theorem countedBytes_congr {i : EntryIx} {l : List (Nat × Nat)} {s t u : State} (h : CountedBytes i l s t)
    (hb : u.book.cells = t.book.cells) : CountedBytes i l s u :=
  ⟨fun hu => bytesKept_congr (h.1 hu) hb, fun k hk => bytesKept_congr (h.2 k hk) hb⟩

/-- What follows and leaves book, sequencer, time and COURSE_CLOSED alone. -/
theorem Ended.after {i : EntryIx} {e : EntryState} {r : ResultCode} {s t u : State} (h : Ended i e r s t)
    (hb : u.book.cells = t.book.cells) (hs : u.seq = t.seq) (ht : u.time = t.time)
    (hc : hasCause u .courseClosed = hasCause t .courseClosed) : Ended i e r s u where
  wf := by
    unfold BookWf
    rw [hb]
    exact h.wf
  state := (State.entryState_congr (State.word_congr hb _)).trans h.state
  result := resultOf_congr h.result (State.word_congr hb _)
  stamp := (State.word_congr hb _).trans h.stamp
  uncounted := fun hu => (h.uncounted hu).trans (.of_book hb hs ht hc)
  takes := fun k hk hf => takesFigures_of_same (.refl s) (.of_book hb hs ht hc) (h.takes k hk hf)
  bytes := countedBytes_congr h.bytes hb

theorem Ended.closed {i : EntryIx} {e : EntryState} {r : ResultCode} {s u : State} (old : State) (h : Ended i e r s u) :
    Ended i e r s (finish old u) :=
  h.after (by simp) (by simp) (by simp) (hasCause_finish_of_ne old u (by decide))

theorem countTerminal_bytes {s : State} (hw : BookWf s) (i : EntryIx) (e : EntryState) : CountedBytes i [] s (s.countTerminal i e) := by
  refine ⟨fun hu => ?_, fun k hk x hx => ?_⟩
  · rw [State.countTerminal_uncounted s i e hu]
    exact bytesKept_refl _ _
  · refine State.countTerminal_read s i e x hw fun k' hk' => ?_
    obtain rfl : k = k' := Option.some.inj (hk.1.symm.trans hk'.1)
    exact hx _ (List.mem_cons_self ..)

theorem countedBytes_trans {i : EntryIx} {l m : List (Nat × Nat)} {s t u : State} (h1 : BytesKeptOutside l s t)
    (h2 : CountedBytes i m t u) (hc : SameCourses s t) (hl : l ⊆ m) : CountedBytes i m s u :=
  ⟨fun hu => bytesKept_trans (bytesKept_mono h1 hl) (h2.1 ((hc.uncounted_iff i).2 hu)),
    fun k hk => bytesKept_trans (bytesKept_mono h1 (List.subset_cons_of_subset _ hl)) (h2.2 k ((hc.inActive_iff k i).2 hk))⟩

theorem countedBytes_mono {i : EntryIx} {l m : List (Nat × Nat)} {s t : State} (h : CountedBytes i l s t) (hl : l ⊆ m) :
    CountedBytes i m s t :=
  ⟨fun hu => bytesKept_mono (h.1 hu) hl, fun k hk => bytesKept_mono (h.2 k hk) (List.cons_subset_cons _ hl)⟩

theorem ended_finishEntry {s : State} (hw : BookWf s) (i : EntryIx) (e : EntryState) (r : ResultCode) :
    Ended i e r s ((s.finishEntry i e r).countTerminal i e) := by
  have hsame := sameCourses_finishEntry hw i e r
  have hw' : BookWf (s.finishEntry i e r) := State.finishEntry_wf s i e r hw
  have hbytes := bytesKept_finishEntry hw i e r
  obtain ⟨hstate, hresult, hstamp⟩ := State.finishEntry_spec s i e r hw
  have hfigures : ∀ k, (s.finishEntry i e r).countedFigures k i e = endedFigures s k i e r := fun _ => rfl
  generalize s.finishEntry i e r = u at *
  have hword := fun w => State.countTerminal_entryWord u i i e w hw'
  refine ⟨State.countTerminal_wf u i e hw', (State.entryState_congr (hword 0)).trans hstate, resultOf_congr hresult (hword 7),
    (hword 13).trans hstamp, fun hu => ?_, fun k hk hf => ?_,
    countedBytes_trans hbytes (countedBytes_mono (countTerminal_bytes hw' i e) (List.nil_subset _)) hsame (fun _ h => h)⟩
  · rw [State.countTerminal_uncounted u i e ((hsame.uncounted_iff i).2 hu)]
    exact hsame
  · have htakes := State.countTerminal_spec u k i e hw' ((hsame.inActive_iff k i).2 hk)
    rw [hfigures] at htakes
    exact takesFigures_of_same hsame (.refl _) (htakes hf)

/-- An entry that ends after words of its own have been written. -/
theorem Ended.of_same {i : EntryIx} {e : EntryState} {r : ResultCode} {s u t : State} (hsame : SameCourses s u)
    (hlow : field (u.word (entryAddr i 7)) 0 16 = field (s.word (entryAddr i 7)) 0 16)
    (hbytes : BytesKeptOutside (terminalWords i) s u) (hfig : ∀ k, endedFigures u k i e r = endedFigures s k i e r)
    (h : Ended i e r u t) : Ended i e r s t where
  wf := h.wf
  state := h.state
  result := ⟨h.result.1, h.result.2.trans hlow⟩
  stamp := h.stamp.trans hsame.time
  uncounted := fun hu => hsame.trans (h.uncounted ((hsame.uncounted_iff i).2 hu))
  takes := fun k hk hf => by
    rw [← hfig k] at hf ⊢
    exact takesFigures_of_same hsame (.refl t) (h.takes k ((hsame.inActive_iff k i).2 hk) hf)
  bytes := countedBytes_trans hbytes h.bytes hsame fun _ hx => hx

theorem ended_cancelEntry {s : State} (hw : BookWf s) (i : EntryIx) : Ended i .cancelled .cancelled s (s.cancelEntry i) :=
  ended_finishEntry hw i .cancelled .cancelled

theorem Ended.cancelCounted {i : EntryIx} {s t : State} (hw : BookWf s) (h : Ended i .cancelled .cancelled s t) :
    CancelCounted i s t := by
  intro k f hk hf hfit
  rw [hf, ← endedFigures_cancelled hw k i .cancelled] at hfit ⊢
  exact h.takes k hk hfit

theorem cancelIfClosing_of_closing {s : State} {i : EntryIx} (h : UnderCloseRequest s i) :
    s.cancelIfClosing i = s.cancelEntry i := by
  obtain ⟨hm, k, ha, hi⟩ := h
  simp [State.cancelIfClosing, ha, hi, hm]

theorem cancelIfClosing_of_not {s : State} {i : EntryIx} (h : ¬UnderCloseRequest s i) : s.cancelIfClosing i = s := by
  unfold State.cancelIfClosing
  split
  · rfl
  · rename_i k hk
    refine if_neg fun hc => h ?_
    rw [Bool.and_eq_true] at hc
    exact ⟨hc.1, k, hk, hc.2⟩

end Sys2Proof
end

section
/-! SUPPORT. Host writes to the state words of entries that post, free and cancel (1.3, 2.4, 2.5). -/

namespace Sys2Proof

open Sys2Proof.Machine

/-! ### Posting (R7, R36) -/

/-- Areas that cover the areas given. -/
theorem bytesKept_cover {l m : List (Nat × Nat)} {s t : State} (h : BytesKeptOutside l s t)
    (hc : ∀ x, (∀ r ∈ m, x < r.1 ∨ r.1 + r.2 ≤ x) → ∀ r ∈ l, x < r.1 ∨ r.1 + r.2 ≤ x) : BytesKeptOutside m s t :=
  fun x hx => h x (hc x hx)

theorem countedBytes_cover {i : EntryIx} {l m : List (Nat × Nat)} {s t : State} (h : CountedBytes i l s t)
    (hc : ∀ x, (∀ r ∈ m, x < r.1 ∨ r.1 + r.2 ≤ x) → ∀ r ∈ l, x < r.1 ∨ r.1 + r.2 ≤ x) : CountedBytes i m s t := by
  refine ⟨fun hu => bytesKept_cover (h.1 hu) hc, fun k hk => bytesKept_cover (h.2 k hk) fun x hx => ?_⟩
  obtain ⟨h0, hm⟩ := List.forall_mem_cons.1 hx
  exact List.forall_mem_cons.2 ⟨h0, hc x hm⟩

/-- The words that hold the part-written fields. -/
def partWords : List (Fin 16) := [7, 8, 9, 10, 11, 12, 13]

theorem clearPartFields_eq (s : State) (i : EntryIx) :
    s.clearPartFields i = partWords.foldl (fun t w => t.setWord (entryAddr i w.val) 0) s := rfl

theorem entryWords_apart (i : EntryIx) {v w : Fin 16} (h : v ≠ w) :
    entryAddr i v.val + 4 ≤ entryAddr i w.val ∨ entryAddr i w.val + 4 ≤ entryAddr i v.val := by
  have := Fin.val_ne_of_ne h
  unfold entryAddr
  omega

theorem clearPartFields_word {s : State} (hw : BookWf s) (i : EntryIx) {j : Nat} (h7 : 7 ≤ j) (h13 : j ≤ 13) :
    (s.clearPartFields i).word (entryAddr i j) = 0 := by
  have h := word_foldl_setWord (addr := fun w : Fin 16 => entryAddr i w.val) (fun _ => 0)
    (fun w => entryAddr_fits i w.val w.isLt) (fun _ _ => entryWords_apart i) ⟨j, by omega⟩ partWords s hw
  rw [clearPartFields_eq, h, if_pos]
  simp only [partWords, List.mem_cons, List.not_mem_nil, or_false, Fin.ext_iff]
  change j = 7 ∨ j = 8 ∨ j = 9 ∨ j = 10 ∨ j = 11 ∨ j = 12 ∨ j = 13
  omega

theorem bytesKept_clearPartFields {s : State} (hw : BookWf s) (i : EntryIx) :
    BytesKeptOutside [(entryAddr i 7, 28)] s (s.clearPartFields i) := by
  intro x hx
  have hout : x < entryAddr i 7 ∨ entryAddr i 7 + 28 ≤ x := by simpa using hx
  refine read_foldl_setWord (addr := fun w : Fin 16 => entryAddr i w.val) (fun _ => 0)
    (fun w => entryAddr_fits i w.val w.isLt) partWords s hw fun w hw => ?_
  have hmem : 7 ≤ w.val ∧ w.val ≤ 13 := by
    revert w
    decide
  unfold entryAddr at hout ⊢
  omega

/-- A FREE entry that a write posts, before a close request is looked at. -/
def posted (s : State) (i : EntryIx) : State := (s.clearPartFields i).setEntryState i .posted

theorem bytesKept_posted {s : State} (hw : BookWf s) (i : EntryIx) :
    BytesKeptOutside [(entryAddr i 0, 4), (entryAddr i 7, 28)] s (posted s i) :=
  bytesKept_trans (bytesKept_mono (bytesKept_clearPartFields hw i) (by simp))
    (bytesKept_mono (bytesKept_setEntryState (State.clearPartFields_wf s i hw) i .posted) (by simp))

theorem touches_posted (s : State) (i : EntryIx) : Touches [.bytes] [] s (posted s i) :=
  touches_of_frame (by simp [keptBut_iff, posted]) (by simp [posted]) (by simp [posted])

theorem posted_word {s : State} (hw : BookWf s) (i : EntryIx) {j : Nat} (h7 : 7 ≤ j) (h13 : j ≤ 13) :
    (posted s i).word (entryAddr i j) = 0 := by
  have hkept := bytesKept_setEntryState (State.clearPartFields_wf s i hw) i .posted
  rw [posted, hkept.word, clearPartFields_word hw i h7 h13]
  simp only [List.mem_singleton, forall_eq, entryAddr]
  omega

theorem sameCourses_posted {s : State} (hw : BookWf s) (i : EntryIx) : SameCourses s (posted s i) := by
  refine .of_bytes (bytesKept_posted hw i) ?_ (by simp [posted]) (by simp [posted]) (by simp [posted])
  simp only [List.mem_cons, List.not_mem_nil, or_false, forall_eq_or_imp, forall_eq, entryAddr]
  omega

theorem exec_entryPostWrite (i : EntryIx) (s : State) : exec (.entryPostWrite i) s = answer s (s.postEntry i) := rfl

theorem postEntry_of_free {s : State} {i : EntryIx} (h : s.entryState i = some .free) :
    s.postEntry i = (posted s i).cancelIfClosing i := by rw [State.postEntry, h]; rfl

theorem post_posts {i : EntryIx} {s : State} (hw : BookWf s) (hf : s.entryState i = some .free)
    (hc : ¬UnderCloseRequest s i) :
    ∃ t, exec (.entryPostWrite i) s = .next t ∧ t.entryState i = some .posted ∧
      (∀ j, 7 ≤ j → j ≤ 13 → t.word (entryAddr i j) = 0) ∧
      BytesKeptOutside [(entryAddr i 0, 4), (entryAddr i 7, 28)] s t ∧ KeptBut [.bytes] s t ∧ CausesKeptBut [] s t := by
  have hc' : ¬UnderCloseRequest (posted s i) i := mt ((sameCourses_posted hw i).underCloseRequest_iff i).1 hc
  refine ⟨_, by rw [exec_entryPostWrite, postEntry_of_free hf, cancelIfClosing_of_not hc']; rfl, ?_, fun j h7 h13 => ?_,
    bytesKept_finish s (bytesKept_posted hw i), (touches_posted s i).closed⟩
  · rw [entryState_finish]
    exact State.entryState_setEntryState _ i .posted (State.clearPartFields_wf s i hw)
  · rw [word_finish, posted_word hw i h7 h13]

/-- The result word of an entry that ends. -/
theorem finishEntry_resultWord {s : State} (hw : BookWf s) (i : EntryIx) (e : EntryState) (r : ResultCode) :
    (s.finishEntry i e r).word (entryAddr i 7) = putField (s.word (entryAddr i 7)) 16 4 (resultCodeOf r) := by
  have h1 : BookWf (s.setResult i r) := State.setResult_wf s i r hw
  have h2 : BookWf ((s.setResult i r).setWord (entryAddr i 13) s.time) := State.setWord_wf _ _ _ (by simp) h1
  have hout : ∀ {w : Nat}, w ≠ 7 → entryAddr i 7 + 4 ≤ entryAddr i w ∨ entryAddr i w + 4 ≤ entryAddr i 7 := by
    intro w hne
    unfold entryAddr
    omega
  unfold State.finishEntry State.setEntryState
  rw [State.word_setWord_ne _ _ _ _ h2 (by simp) (hout (by omega)),
    State.word_setWord_ne _ _ _ _ h1 (by simp) (hout (by omega))]
  exact State.word_setWord _ _ _ hw (by simp)

theorem post_cancels {i : EntryIx} {s : State} (hw : BookWf s) (hf : s.entryState i = some .free)
    (hc : UnderCloseRequest s i) :
    ∃ t, exec (.entryPostWrite i) s = .next t ∧ t.entryState i = some .cancelled ∧
      t.word (entryAddr i 7) = BitVec.ofNat 32 (resultCodeOf .cancelled * 65536) ∧ t.word (entryAddr i 13) = s.time ∧
      (∀ j, 8 ≤ j → j ≤ 12 → t.word (entryAddr i j) = 0) ∧ CancelCounted i s t ∧
      CountedBytes i [(entryAddr i 0, 4), (entryAddr i 7, 28)] s t ∧ KeptBut [.bytes, .seq] s t ∧
      CausesKeptBut [.courseClosed] s t := by
  have hsame := sameCourses_posted hw i
  have hexec : exec (.entryPostWrite i) s = answer s ((posted s i).cancelEntry i) := by
    rw [exec_entryPostWrite, postEntry_of_free hf, cancelIfClosing_of_closing ((hsame.underCloseRequest_iff i).2 hc)]
  have hw' : BookWf (posted s i) := State.setEntryState_wf _ i .posted (State.clearPartFields_wf s i hw)
  have hzero := fun j => posted_word hw i (j := j)
  have hbytes := bytesKept_posted hw i
  have htouch := touches_posted s i
  generalize posted s i = u at *
  have hended := (ended_cancelEntry hw' i).closed s
  have hcover : ∀ x, (∀ r ∈ [(entryAddr i 0, 4), (entryAddr i 7, 28)], x < r.1 ∨ r.1 + r.2 ≤ x) →
      ∀ r ∈ terminalWords i, x < r.1 ∨ r.1 + r.2 ≤ x := by
    simp only [terminalWords, List.mem_cons, List.not_mem_nil, or_false, forall_eq_or_imp, forall_eq, entryAddr]
    omega
  refine ⟨_, hexec, hended.state, ?_, hended.stamp.trans hsame.time, fun j h8 h12 => ?_, fun k f hk hfig hfit => ?_,
    countedBytes_trans hbytes (countedBytes_cover hended.bytes hcover) hsame fun _ h => h,
    (htouch.mono.trans (touches_cancelEntry u i)).closed⟩
  · rw [word_finish, State.cancelEntry, State.countTerminal_entryWord _ i i _ 7 (State.finishEntry_wf u i _ _ hw'),
      finishEntry_resultWord hw', hzero 7 (by omega) (by omega)]
    decide
  · rw [word_finish, State.cancelEntry, State.countTerminal_entryWord _ i i _ j (State.finishEntry_wf u i _ _ hw'),
      (bytesKept_finishEntry hw' i _ _).word, hzero j (by omega) (by omega)]
    simp only [terminalWords, List.mem_cons, List.not_mem_nil, or_false, forall_eq_or_imp, forall_eq, entryAddr]
    omega
  · refine takesFigures_of_same hsame (.refl _) (hended.cancelCounted hw' k f ((hsame.inActive_iff k i).2 hk) ?_ hfit)
    rw [hfig, hsame.courseFigures]

/-- Settles O11, by the state of the entry and the close request. -/
theorem postingClearsPartFields : Obligations.PostingClearsPartFields := by
  refine ⟨fun i s hw hf hc => post_posts hw hf hc, fun i s hw hf hc => post_cancels hw hf hc,
    fun i s hp => noEffect_of_exec ?_, fun i e s he hfree hposted => discarded_of_exec ?_⟩
  · rw [exec_entryPostWrite, State.postEntry, hp]
  · rw [exec_entryPostWrite, State.postEntry, he]
    cases e with
    | free => exact absurd rfl hfree
    | posted => exact absurd rfl hposted
    | _ => rfl

/-! ### Cancelling (R8) -/

theorem exec_entryCancelWrite (i : EntryIx) (s : State) : exec (.entryCancelWrite i) s = answer s (s.cancelWrite i) := rfl

/-- A cancelled entry that no active course counts leaves the sequencer and the causes. -/
theorem touches_cancelEntry_uncounted {s : State} (hw : BookWf s) {i : EntryIx} (h : Uncounted s i) :
    Touches [.bytes] [] s (s.cancelEntry i) := by
  rw [State.cancelEntry, State.countTerminal_uncounted _ _ _
    (((sameCourses_finishEntry hw i .cancelled .cancelled).uncounted_iff i).2 h)]
  exact touches_finishEntry s i .cancelled .cancelled

theorem cancel_cancels {i : EntryIx} {s : State} (hw : BookWf s)
    (he : s.entryState i = some .free ∨ s.entryState i = some .posted) :
    ∃ t, exec (.entryCancelWrite i) s = .next t ∧ t.entryState i = some .cancelled ∧ ResultOf i .cancelled s t ∧
      t.word (entryAddr i 13) = s.time ∧ KeptBut [.bytes, .seq] s t ∧
      (Uncounted s i → t.seq = s.seq ∧ BytesKeptOutside (terminalWords i) s t ∧ CausesKeptBut [] s t) ∧
      (∀ k f, InActive s k i →
        f = { s.courseFigures k with
          remaining := (s.courseFigures k).remaining - 1, cancelled := (s.courseFigures k).cancelled + 1 } →
        FiguresFit f →
        TakesFigures k f s t ∧ BytesKeptOutside ((courseAddr k 0, 64) :: terminalWords i) s t ∧
          CausesKeptBut [.courseClosed] s t) := by
  have hexec : exec (.entryCancelWrite i) s = answer s (s.cancelEntry i) := by
    rw [exec_entryCancelWrite, State.cancelWrite]
    rcases he with he | he <;> rw [he]
  have hended := (ended_cancelEntry hw i).closed s
  obtain ⟨hframe, hcauses⟩ := (touches_cancelEntry s i).closed
  exact ⟨_, hexec, hended.state, hended.result, hended.stamp, hframe,
    fun hu => ⟨(hended.uncounted hu).seq, hended.bytes.1 hu, (touches_cancelEntry_uncounted hw hu).closed.2⟩,
    fun k f hk hf hfit => ⟨hended.cancelCounted hw k f hk hf hfit, hended.bytes.2 k hk, hcauses⟩⟩

/-- Settles O13, by the state of the entry. -/
theorem cancelledEntryIsCounted : Obligations.CancelledEntryIsCounted := by
  refine ⟨fun i s hw he => cancel_cancels hw he, fun i s he => noEffect_of_exec ?_, fun i e s he ht hne => discarded_of_exec ?_⟩
  · rw [exec_entryCancelWrite, State.cancelWrite, he]
  · rw [exec_entryCancelWrite, State.cancelWrite, he]
    cases e with
    | cancelled => exact absurd rfl hne
    | laid | probed | failed => rfl
    | _ => cases ht

/-! ### Freeing (R8, R9, R34) -/

theorem exec_entryFreeWrite (i : EntryIx) (s : State) : exec (.entryFreeWrite i) s = answer s (s.freeEntry i) := rfl

theorem sameCourses_setEntryState {s : State} (hw : BookWf s) (i : EntryIx) (e : EntryState) :
    SameCourses s (s.setEntryState i e) := by
  refine .of_bytes (bytesKept_setEntryState hw i e) ?_ (by simp) (by simp) (by simp)
  simp only [List.mem_singleton, forall_eq, entryAddr]
  omega

theorem freeEntry_of_posted {s : State} {i : EntryIx} (h : s.entryState i = some .posted) :
    s.freeEntry i = (s.setEntryState i .free).cancelIfClosing i := by rw [State.freeEntry, h]

theorem freeEntry_of_terminal {s : State} {i : EntryIx} {e : EntryState} (h : s.entryState i = some e)
    (ht : e.terminal = true) (hh : s.heldByActive i = false) :
    s.freeEntry i = ((s.setEntryState i .free).uncountTerminal i e).cancelIfClosing i := by
  rw [State.freeEntry, h]
  cases e with
  | laid | probed | failed | cancelled => simp [EntryState.terminal, hh, State.freeTerminal]
  | _ => cases ht

/-- A write whose whole work is the FREE state. -/
theorem free_frees {i : EntryIx} {s : State} (hw : BookWf s)
    (h : exec (.entryFreeWrite i) s = answer s (s.setEntryState i .free)) :
    ∃ t, exec (.entryFreeWrite i) s = .next t ∧ t.entryState i = some .free ∧
      BytesKeptOutside [(entryAddr i 0, 4)] s t ∧ KeptBut [.bytes] s t ∧ CausesKeptBut [] s t :=
  ⟨_, h, by rw [entryState_finish]; exact State.entryState_setEntryState s i .free hw,
    bytesKept_finish s (bytesKept_setEntryState hw i .free), (touches_setEntryState s i .free).closed⟩

theorem free_cancels {i : EntryIx} {s : State} (hw : BookWf s) (hp : s.entryState i = some .posted)
    (hc : UnderCloseRequest s i) :
    ∃ t, exec (.entryFreeWrite i) s = .next t ∧ t.entryState i = some .cancelled ∧ ResultOf i .cancelled s t ∧
      t.word (entryAddr i 13) = s.time ∧ CancelCounted i s t ∧ CountedBytes i (terminalWords i) s t ∧
      KeptBut [.bytes, .seq] s t ∧ CausesKeptBut [.courseClosed] s t := by
  have hsame := sameCourses_setEntryState hw i .free
  have hexec : exec (.entryFreeWrite i) s = answer s ((s.setEntryState i .free).cancelEntry i) := by
    rw [exec_entryFreeWrite, freeEntry_of_posted hp, cancelIfClosing_of_closing ((hsame.underCloseRequest_iff i).2 hc)]
  have hw' : BookWf (s.setEntryState i .free) := State.setEntryState_wf s i .free hw
  have hbytes := bytesKept_setEntryState hw i .free
  have hfig : ∀ k, endedFigures (s.setEntryState i .free) k i .cancelled .cancelled = endedFigures s k i .cancelled .cancelled :=
    fun k => by rw [endedFigures_cancelled hw', endedFigures_cancelled hw, hsame.courseFigures]
  have hlow : (s.setEntryState i .free).word (entryAddr i 7) = s.word (entryAddr i 7) := hbytes.word (by simp [entryAddr])
  have htouch := (touches_setEntryState s i .free).mono.trans (touches_cancelEntry (s.setEntryState i .free) i)
  generalize s.setEntryState i .free = u at *
  have hended := (Ended.of_same hsame (by rw [hlow]) (bytesKept_mono hbytes (by simp [terminalWords])) hfig
    (ended_cancelEntry hw' i)).closed s
  exact ⟨_, hexec, hended.state, hended.result, hended.stamp, hended.cancelCounted hw, hended.bytes, htouch.closed⟩

/-! ### Figures written without regard to the sums (R34) -/

/-- The five counts fit their fields. -/
def CountsFit (f : CourseFigures) : Prop :=
  f.remaining < 65536 ∧ f.laid < 65536 ∧ f.probed < 65536 ∧ f.failed < 65536 ∧ f.cancelled < 65536

theorem countsFit_courseFigures (s : State) (k : Slot) : CountsFit (s.courseFigures k) := by
  unfold CountsFit State.courseFigures
  exact ⟨field_lt _ _ 16, field_lt _ _ 16, field_lt _ _ 16, field_lt _ _ 16, field_lt _ _ 16⟩

theorem setCourseFigures_low {s : State} (hw : BookWf s) (k : Slot) (f : CourseFigures) {v : Nat} (hv : v < 6) :
    (s.setCourseFigures k f).word (courseAddr k v) = s.word (courseAddr k v) :=
  State.word_of_read fun x h1 h2 => State.read_setCourseFigures_ne _ _ _ _ hw (by unfold courseAddr at *; omega)

/-- The figures of a course in one update of its record. -/
def updated (s : State) (k : Slot) (f : CourseFigures) : State := (s.setCourseFigures k f).bumpCourse k

theorem updated_wf {s : State} (hw : BookWf s) (k : Slot) (f : CourseFigures) : BookWf (updated s k f) :=
  State.bumpCourse_wf _ k (State.setCourseFigures_wf s k f hw)

theorem updated_count {s : State} (hw : BookWf s) (k : Slot) (f : CourseFigures) :
    (updated s k f).word (courseAddr k 0) = s.word (courseAddr k 0) + 2 := by
  rw [updated, State.bumpCourse_count _ _ (State.setCourseFigures_wf s k f hw), setCourseFigures_low hw k f (by omega)]

theorem updated_word {s : State} (hw : BookWf s) (k : Slot) (f : CourseFigures) {v : Nat} (hv : v ≠ 0) :
    (updated s k f).word (courseAddr k v) = (s.setCourseFigures k f).word (courseAddr k v) :=
  State.bumpCourse_word _ _ _ (State.setCourseFigures_wf s k f hw) (by unfold courseAddr; omega)

theorem updated_sameCounts {s : State} (hw : BookWf s) (k : Slot) {f : CourseFigures} (hf : CountsFit f) :
    SameCounts f ((updated s k f).courseFigures k) := by
  obtain ⟨h1, h2, h3, h4, h5⟩ := hf
  obtain ⟨w6, w7, w8, -⟩ := s.word_setCourseFigures k f hw
  unfold SameCounts State.courseFigures
  dsimp only
  rw [updated_word hw k f (by omega), updated_word hw k f (by omega), updated_word hw k f (by omega), w6, w7, w8]
  exact ⟨field_packHalves_low _ _ h1, field_packHalves_high _ _ h2, field_packHalves_low _ _ h3,
    field_packHalves_high _ _ h4, field_packHalves_low _ _ h5⟩

theorem updated_figures {s : State} (hw : BookWf s) (k : Slot) {f : CourseFigures} (hf : FiguresFit f) :
    (updated s k f).courseFigures k = f := (State.update_spec s k f hw hf).1

theorem updated_state {s : State} (hw : BookWf s) (k : Slot) (f : CourseFigures) :
    (updated s k f).courseState k = s.courseState k :=
  State.courseState_congr ((updated_word hw k f (by omega)).trans (setCourseFigures_low hw k f (by omega)))

theorem bytesKept_updated {s : State} (hw : BookWf s) (k : Slot) (f : CourseFigures) :
    BytesKeptOutside [(courseAddr k 0, 64)] s (updated s k f) := fun x hx =>
  State.update_read s k f x hw (hx _ (List.mem_singleton_self _))

theorem touches_updated (s : State) (k : Slot) (f : CourseFigures) : Touches [.bytes] [] s (updated s k f) :=
  (touches_setCourseFigures s k f).trans (touches_bumpCourse _ k)

theorem updated_frame (s : State) (k : Slot) (f : CourseFigures) :
    (updated s k f).seq = s.seq ∧ (updated s k f).time = s.time ∧ (updated s k f).host = s.host := by simp [updated]

theorem countTerminal_eq {s : State} {k : Slot} {i : EntryIx} (e : EntryState) (ha : InActive s k i) :
    s.countTerminal i e =
      if (s.countedFigures k i e).remaining = 0 then (updated s k (s.countedFigures k i e)).closeCourse k
      else updated s k (s.countedFigures k i e) := by
  unfold State.countTerminal
  rw [ha.1]
  simp only [ha.2, if_true]
  rfl

theorem uncountTerminal_eq {s : State} {k : Slot} {i : EntryIx} (e : EntryState) (ha : InActive s k i) :
    s.uncountTerminal i e = updated s k (s.recomputeZc k i e
      (s.countOut i e { s.courseFigures k with remaining := (s.courseFigures k).remaining + 1 })) := by
  unfold State.uncountTerminal
  rw [ha.1]
  simp only [ha.2, if_true]
  rfl

theorem uncountTerminal_uncounted {s : State} {i : EntryIx} (e : EntryState) (h : Uncounted s i) :
    s.uncountTerminal i e = s := by
  unfold State.uncountTerminal
  split
  · rfl
  · rename_i k hk
    exact if_neg fun hi => h k ⟨hk, hi⟩

/-! ### The figures without the entry (R34) -/

/-- The figures that taking an entry back out writes. -/
def freedFigures (s : State) (k : Slot) (i : EntryIx) (e : EntryState) : CourseFigures :=
  s.recomputeZc k i e
    (s.countOut i e { s.courseFigures k with remaining := (s.courseFigures k).remaining + 1 })

theorem freedFigures_counts {s : State} {k : Slot} {i : EntryIx} {e : EntryState} {f : CourseFigures}
    (hf : TakesOut s k i e f) : SameCounts f (freedFigures s k i e) := by
  unfold TakesOut takenOut at hf
  subst hf
  unfold SameCounts freedFigures State.recomputeZc State.countOut
  cases e <;> by_cases ha : s.entryApply i = true <;> by_cases hm : s.courseMode k = .probe <;> simp [ha, hm]

theorem freedFigures_eq {s : State} {k : Slot} {i : EntryIx} {e : EntryState} {f : CourseFigures}
    (hf : TakesOut s k i e f) (hap : e = .probed → s.entryApply i = true → (s.courseFigures k).applied ≠ 0)
    (hfit : FiguresFit f) : freedFigures s k i e = f := by
  obtain ⟨-, -, ⟨hlow, hhigh⟩, -⟩ := hfit
  unfold TakesOut takenOut at hf
  subst hf
  by_cases hprobe : e = .probed ∧ s.entryApply i = true
  · obtain ⟨rfl, ha⟩ := hprobe
    have hfall : s.fallApplied (s.courseFigures k).applied = (s.courseFigures k).applied - 1 := if_neg (hap rfl ha)
    simp only [ha, and_self, if_true] at hlow hhigh
    by_cases hm : s.courseMode k = .probe <;>
      simp [freedFigures, State.recomputeZc, State.countOut, ha, hm, hfall, State.probeZc_fits, hlow, hhigh]
  · have hzc : ¬(e = .probed ∧ s.entryApply i = true ∧ s.courseMode k = .probe) := fun h => hprobe ⟨h.1, h.2.1⟩
    rw [freedFigures, State.recomputeZc, if_neg hzc, if_neg hzc]
    cases e with
    | probed => simp [State.countOut, show s.entryApply i = false by simpa using hprobe]
    | _ => simp [State.countOut]

theorem freedFigures_congr {s u : State} {k : Slot} {i : EntryIx} (e : EntryState) (h : SameCourses s u)
    (hword : ∀ w, 1 ≤ w → w < 16 → u.word (entryAddr i w) = s.word (entryAddr i w)) (hfree : u.free = s.free) :
    freedFigures u k i e = freedFigures s k i e := by
  unfold freedFigures State.recomputeZc State.countOut State.probeZc State.narrowAppliedSum State.narrowSum
    State.fallApplied State.entryApply State.kindWord
  rw [hword 9 (by omega) (by omega), hword 12 (by omega) (by omega), hword 1 (by omega) (by omega), hfree, h.seq,
    h.courseMode, h.courseFigures]

/-- The entry has been made FREE and taken back out of the counts. -/
theorem free_takes_out {i : EntryIx} {e : EntryState} {k : Slot} {s : State} (hw : BookWf s) (ha : InActive s k i) :
    ∃ u, (s.setEntryState i .free).uncountTerminal i e = u ∧ BookWf u ∧ Touches [.bytes] [] s u ∧ u.seq = s.seq ∧
      u.time = s.time ∧ u.host = s.host ∧ u.entryState i = some .free ∧
      u.word (courseAddr k 0) = s.word (courseAddr k 0) + 2 ∧
      (CountsFit (freedFigures s k i e) → SameCounts (freedFigures s k i e) (u.courseFigures k)) ∧
      (FiguresFit (freedFigures s k i e) → u.courseFigures k = freedFigures s k i e) ∧
      (∀ w, 1 ≤ w → w < 16 → u.word (entryAddr i w) = s.word (entryAddr i w)) ∧
      (∀ w, 1 ≤ w → w < 6 → u.word (courseAddr k w) = s.word (courseAddr k w)) ∧
      BytesKeptOutside [(entryAddr i 0, 4), (courseAddr k 0, 64)] s u := by
  have hsame := sameCourses_setEntryState hw i .free
  have hw1 : BookWf (s.setEntryState i .free) := State.setEntryState_wf s i .free hw
  have hbytes := bytesKept_setEntryState hw i .free
  have hword : ∀ w, 1 ≤ w → w < 16 → (s.setEntryState i .free).word (entryAddr i w) = s.word (entryAddr i w) :=
    fun w h1 _ => hbytes.word (by simp only [List.mem_singleton, forall_eq, entryAddr]; omega)
  have hfigures := freedFigures_congr (k := k) e hsame hword (by simp)
  have htouch := touches_setEntryState s i .free
  have hstate := State.entryState_setEntryState s i .free hw
  have hhost : (s.setEntryState i .free).host = s.host := by simp
  generalize s.setEntryState i .free = v at *
  have hu : v.uncountTerminal i e = updated v k (freedFigures s k i e) := by
    rw [uncountTerminal_eq e ((hsame.inActive_iff k i).2 ha), ← hfigures]
    rfl
  have hkept := bytesKept_updated hw1 k (freedFigures s k i e)
  have hentry : ∀ w, w < 16 → (updated v k (freedFigures s k i e)).word (entryAddr i w) = v.word (entryAddr i w) :=
    fun w _ => hkept.word (by simp only [List.mem_singleton, forall_eq, entryAddr, courseAddr]; omega)
  obtain ⟨hseq, htime, hhost'⟩ := updated_frame v k (freedFigures s k i e)
  refine ⟨_, hu, updated_wf hw1 k _, htouch.trans (touches_updated v k _), hseq.trans hsame.seq, htime.trans hsame.time,
    hhost'.trans hhost, (State.entryState_congr (hentry 0 (by omega))).trans hstate, ?_, fun hf => updated_sameCounts hw1 k hf,
    fun hf => updated_figures hw1 k hf, fun w h1 h16 => (hentry w h16).trans (hword w h1 h16), fun w h1 h6 => ?_,
    bytesKept_trans (bytesKept_mono hbytes (by simp)) (bytesKept_mono hkept (by simp))⟩
  · rw [updated_count hw1, hsame.word k 0 (by omega)]
  · rw [updated_word hw1 k _ (by omega), setCourseFigures_low hw1 k _ h6, hsame.word k w (by omega)]

theorem figuresFit_courseFigures (s : State) (k : Slot) : FiguresFit (s.courseFigures k) := by
  unfold FiguresFit State.courseFigures
  exact ⟨⟨field_lt _ _ 16, field_lt _ _ 16, field_lt _ _ 16, field_lt _ _ 16, field_lt _ _ 16, field_lt _ _ 16,
    field_lt _ _ 16, field_lt _ _ 16, field_lt _ _ 16, field_lt _ _ 16⟩, ⟨BitVec.le_toInt _, BitVec.toInt_lt⟩,
    ⟨BitVec.le_toInt _, BitVec.toInt_lt⟩, BitVec.le_toInt _, BitVec.toInt_lt⟩

theorem sameCounts_trans {f g h : CourseFigures} (h1 : SameCounts f g) (h2 : SameCounts g h) : SameCounts f h := by
  obtain ⟨a1, a2, a3, a4, a5⟩ := h1
  obtain ⟨b1, b2, b3, b4, b5⟩ := h2
  exact ⟨b1.trans a1, b2.trans a2, b3.trans a3, b4.trans a4, b5.trans a5⟩

theorem takesOut_countsFit {s : State} {k : Slot} {i : EntryIx} {e : EntryState} {f : CourseFigures}
    (hf : TakesOut s k i e f) (hr : (s.courseFigures k).remaining < 65535) :
    f.remaining = (s.courseFigures k).remaining + 1 ∧ f.cancelled ≤ (s.courseFigures k).cancelled ∧ CountsFit f := by
  obtain ⟨-, h2, h3, h4, h5⟩ := countsFit_courseFigures s k
  unfold TakesOut takenOut at hf
  subst hf
  unfold CountsFit
  dsimp only
  omega

theorem countsFit_of_sameCounts {f g : CourseFigures} (h : SameCounts f g) (hf : CountsFit f) : CountsFit g := by
  obtain ⟨h1, h2, h3, h4, h5⟩ := h
  unfold CountsFit at *
  omega

theorem free_gives_back {i : EntryIx} {e : EntryState} {k : Slot} {f : CourseFigures} {s : State} (hw : BookWf s)
    (he : s.entryState i = some e) (ht : e.terminal = true) (ha : InActive s k i) (hh : s.heldByActive i = false)
    (hm : s.seq.closeMark = false) (hr : (s.courseFigures k).remaining < 65535) (hf : TakesOut s k i e f) :
    ∃ t, exec (.entryFreeWrite i) s = .next t ∧ t.entryState i = some .free ∧
      t.word (courseAddr k 0) = s.word (courseAddr k 0) + 2 ∧ SameCounts f (t.courseFigures k) ∧
      ((e = .probed → s.entryApply i = true → (s.courseFigures k).applied ≠ 0) → FiguresFit f → t.courseFigures k = f) ∧
      BytesKeptOutside [(entryAddr i 0, 4), (courseAddr k 0, 64)] s t ∧ KeptBut [.bytes] s t ∧ CausesKeptBut [] s t := by
  have hexec := exec_entryFreeWrite i s
  obtain ⟨u, hu, -, htouch, hseq, -, -, hstate, hcount, hsame, hfig, -, -, hbytes⟩ := free_takes_out (e := e) hw ha
  rw [freeEntry_of_terminal he ht hh, hu, cancelIfClosing_of_not (fun hc => absurd hc.1 (by simp [hseq, hm]))] at hexec
  have hcounts := freedFigures_counts hf
  refine ⟨_, hexec, by simpa using hstate, by simpa using hcount, ?_, fun hap hfit => ?_, bytesKept_finish s hbytes,
    htouch.closed⟩
  · rw [courseFigures_finish]
    exact sameCounts_trans hcounts (hsame (countsFit_of_sameCounts hcounts (takesOut_countsFit hf hr).2.2))
  · rw [courseFigures_finish]
    have heq := freedFigures_eq hf hap hfit
    rw [heq] at hfig
    exact hfig hfit

theorem causesKeptBut_of_closed {s t : State} (h : CausesKeptBut [.courseClosed] s t)
    (hc : hasCause t .courseClosed = hasCause s .courseClosed) : CausesKeptBut [] s t := by
  refine ⟨fun c _ hne => ?_, fun _ => h.2 (by decide)⟩
  by_cases heq : c = .courseClosed
  · rw [heq, hc]
  · exact h.1 c (by simpa using heq) hne

theorem free_cancels_again {i : EntryIx} {e : EntryState} {k : Slot} {f g : CourseFigures} {s : State} (hw : BookWf s)
    (he : s.entryState i = some e) (ht : e.terminal = true) (ha : InActive s k i) (hh : s.heldByActive i = false)
    (hm : s.seq.closeMark = true) (hr : (s.courseFigures k).remaining < 65535)
    (hcan : (s.courseFigures k).cancelled < 65535) (hf : TakesOut s k i e f)
    (hg : g = { f with remaining := f.remaining - 1, cancelled := f.cancelled + 1 }) :
    ∃ t, exec (.entryFreeWrite i) s = .next t ∧ t.entryState i = some .cancelled ∧ ResultOf i .cancelled s t ∧
      t.word (entryAddr i 13) = s.time ∧ SameCounts g (t.courseFigures k) ∧
      ((e = .probed → s.entryApply i = true → (s.courseFigures k).applied ≠ 0) → FiguresFit f → FiguresFit g →
        t.courseFigures k = g) ∧
      (g.remaining ≠ 0 → t.seq = s.seq ∧ t.word (courseAddr k 0) = s.word (courseAddr k 0) + 4 ∧ CausesKeptBut [] s t) ∧
      (g.remaining = 0 → t.seq.active = none ∧ t.courseState k = some .closed ∧ hasCause t .courseClosed = true) ∧
      BytesKeptOutside ((courseAddr k 0, 64) :: terminalWords i) s t ∧ KeptBut [.bytes, .seq] s t ∧
      CausesKeptBut [.courseClosed] s t := by
  have hexec := exec_entryFreeWrite i s
  obtain ⟨u, hu, hwu, htouch, hseq, htime, hhost, -, hcount, hsame, hfig, hword, hcourse, hbytes⟩ :=
    free_takes_out (e := e) hw ha
  have hau : InActive u k i := by
    unfold InActive State.inCourse State.courseFirst State.courseCount
    rw [hseq, hcourse 2 (by omega) (by omega), hcourse 3 (by omega) (by omega)]
    exact ha
  have hcu : UnderCloseRequest u i := ⟨by rw [hseq, hm], k, hau⟩
  rw [freeEntry_of_terminal he ht hh, hu, cancelIfClosing_of_closing hcu] at hexec
  obtain ⟨hfr, hfc, hff⟩ := takesOut_countsFit hf hr
  have hcounts := freedFigures_counts hf
  obtain ⟨c1, c2, c3, c4, c5⟩ := sameCounts_trans hcounts (hsame (countsFit_of_sameCounts hcounts hff))
  have hended := (ended_cancelEntry hwu i).closed s
  have hgu : FiguresFit { u.courseFigures k with
      remaining := (u.courseFigures k).remaining - 1, cancelled := (u.courseFigures k).cancelled + 1 } := by
    have hfit := figuresFit_courseFigures u k
    unfold FiguresFit at *
    dsimp only
    omega
  have htakes := hended.cancelCounted hwu k _ hau rfl hgu
  have hframe := (htouch.mono.trans (touches_cancelEntry u i)).closed
  change exec _ s = .next (finish s (u.cancelEntry i)) at hexec
  generalize finish s (u.cancelEntry i) = t at *
  obtain ⟨hfigures, hopen, hclose⟩ := htakes
  have hremaining : g.remaining = (u.courseFigures k).remaining - 1 := by rw [hg, c1]
  have hclosed : hasCause u .courseClosed = hasCause s .courseClosed := hasCause_congr (by rw [hhost]) _
  have hcovers : BytesKeptOutside ((courseAddr k 0, 64) :: terminalWords i) s t :=
    bytesKept_trans (bytesKept_mono hbytes (by simp [terminalWords])) (hended.bytes.2 k hau)
  refine ⟨t, hexec, hended.state, ⟨hended.result.1, ?_⟩, hended.stamp.trans htime, ?_, fun hap hfit _ => ?_,
    fun hne => ?_, fun h0 => ?_, hcovers, hframe⟩
  · rw [hended.result.2, hword 7 (by omega) (by omega)]
  · rw [hfigures, hg]
    exact ⟨by simp [c1], c2, c3, c4, by simp [c5]⟩
  · have heq := freedFigures_eq hf hap hfit
    rw [heq] at hfig
    rw [hfigures, hfig hfit, hg]
  · obtain ⟨hs, -, hw2, hc⟩ := hopen (by simpa [hremaining] using hne)
    refine ⟨hs.trans hseq, ?_, causesKeptBut_of_closed hframe.2 (hc.trans hclosed)⟩
    rw [hw2, hcount, BitVec.add_assoc]
    rfl
  · obtain ⟨hs, hst, -, -, hc⟩ := hclose (by simpa [hremaining] using h0)
    exact ⟨by rw [hs], hst, hc⟩

/-- A terminal entry that its course holds is not freed. -/
theorem free_discarded {i : EntryIx} {e : EntryState} {k : Slot} {s : State} (he : s.entryState i = some e)
    (ht : e.terminal = true) (hs : s.entrySlot i = k.val) (hk : s.courseState k = some .active)
    (hi : s.inCourse k i = true) : Discarded (.entryFreeWrite i) s := by
  have hlt : s.entrySlot i < 16 := hs ▸ k.isLt
  have hslot : (⟨s.entrySlot i, hlt⟩ : Slot) = k := Fin.ext hs
  have hheld : s.heldByActive i = true := by rw [State.heldByActive, dif_pos hlt, hslot]; simp [hk, hi]
  refine discarded_of_exec ?_
  rw [exec_entryFreeWrite, State.freeEntry, he]
  cases e with
  | laid | probed | failed | cancelled => simp [hheld]
  | _ => cases ht

/-- Settles O12, by the state of the entry, the course that holds it and the close request. -/
theorem freeWriteGivesTheRoomBack : Obligations.FreeWriteGivesTheRoomBack := by
  refine ⟨fun i s hw hp hc => free_frees hw ?_, fun i s hw hp hc => free_cancels hw hp hc,
    fun i e s hw he ht hu hh => free_frees hw ?_, fun i s he => noEffect_of_exec ?_,
    fun i e k s he ht hs hk hi => free_discarded he ht hs hk hi,
    fun i e k f s hw he ht ha hh hm hr hf => free_gives_back hw he ht ha hh hm hr hf,
    fun i e k f g s hw he ht ha hh hm hr hc hf hg => free_cancels_again hw he ht ha hh hm hr hc hf hg⟩
  · have hc' := mt ((sameCourses_setEntryState hw i .free).underCloseRequest_iff i).1 hc
    rw [exec_entryFreeWrite, freeEntry_of_posted hp, cancelIfClosing_of_not hc']
  · have hu' := ((sameCourses_setEntryState hw i .free).uncounted_iff i).2 hu
    rw [exec_entryFreeWrite, freeEntry_of_terminal he ht hh, uncountTerminal_uncounted e hu',
      cancelIfClosing_of_not fun hc => hc.2.elim fun k hk => hu' k hk]
  · rw [exec_entryFreeWrite, State.freeEntry, he]

end Sys2Proof
end

section
/-! SUPPORT. Takes and feeds (3.2 to 3.4): the candidate's checks, its record, and the feed ordered for it. -/

namespace Sys2Proof

open Sys2Proof.Machine

/-! ### The feeder chosen (R54) -/

theorem chooseFeeder_of_chosen {s : State} {f : Feeder} (h : ChosenFeeder s f) : s.chooseFeeder = some f := by
  obtain ⟨hready, hpreferred⟩ := h
  unfold State.chooseFeeder
  by_cases hp : FeederReady s s.seq.profile.preferredFeeder
  · simp [(feederReady_iff s _).2 hp, hpreferred hp]
  · have hf : s.feederReady s.seq.profile.preferredFeeder = false := by rwa [← Bool.not_eq_true, feederReady_iff]
    have hother : otherFeeder s.seq.profile.preferredFeeder = f := by
      have hne : f ≠ s.seq.profile.preferredFeeder := fun he => hp (he ▸ hready)
      generalize s.seq.profile.preferredFeeder = g at hne
      cases f <;> cases g <;> simp [otherFeeder] at hne ⊢
    simp [hf, hother, (feederReady_iff s f).2 hready]

theorem chooseFeeder_of_none {s : State} (h : ∀ f, ¬FeederReady s f) : s.chooseFeeder = none := by
  have hf : ∀ f, s.feederReady f = false := fun f => by
    rw [← Bool.not_eq_true, feederReady_iff]
    exact h f
  simp [State.chooseFeeder, hf]

theorem orderFeed_of_chosen {s : State} {f : Feeder} (h : ChosenFeeder s f) (i : EntryIx) (n : Nat) :
    s.orderFeed i n = (s.withIssue { s.issue with feed := some ⟨some i, none, f, n, .requested⟩ }).setLocation i .feed := by
  rw [State.orderFeed, chooseFeeder_of_chosen h]

theorem touches_orderFeed (s : State) (i : EntryIx) (n : Nat) : Touches [.list, .feed] [] s (s.orderFeed i n) := by
  unfold State.orderFeed
  split
  · exact .refl _ _ s
  · exact touches_of_frame (by simp [keptBut_iff, State.setLocation]) rfl rfl

/-- An ordered feed and the record it is for. -/
theorem orderFeed_spec {s : State} {f : Feeder} (h : ChosenFeeder s f) (i : EntryIx) (n : Nat) :
    (s.orderFeed i n).issue.feed = some ⟨some i, none, f, n, .requested⟩ ∧
      (s.orderFeed i n).issue.list =
        s.issue.list.map (fun r => if r.entry = i then { r with location := .feed } else r) := by
  rw [orderFeed_of_chosen h]
  simp [State.setLocation]

/-! ### The refeed (R57) -/

theorem exec_refeed (s : State) :
    exec .refeed s = answer s
      (match s.issue.feed, s.issue.list.find? IssueRecord.needsFeed with
        | none, some r => s.orderFeed r.entry r.cutLength
        | _, _ => s) := rfl

/-- Only the record of the entry moves. -/
theorem map_of_distinct {l1 l2 : List IssueRecord} {r : IssueRecord} (g : IssueRecord → IssueRecord)
    (h : ((l1 ++ r :: l2).map fun r => r.entry).Nodup) :
    (l1 ++ r :: l2).map (fun x => if x.entry = r.entry then g x else x) = l1 ++ g r :: l2 := by
  simp only [List.map_append, List.map_cons, List.nodup_append, List.nodup_cons] at h
  obtain ⟨-, ⟨hr, -⟩, hdisjoint⟩ := h
  have h1 : ∀ x ∈ l1, x.entry ≠ r.entry := fun x hx =>
    hdisjoint _ (List.mem_map_of_mem (f := fun r => r.entry) hx) _ (List.mem_cons_self ..)
  have h2 : ∀ x ∈ l2, x.entry ≠ r.entry := fun x hx he =>
    hr (he ▸ List.mem_map_of_mem (f := fun r => r.entry) hx)
  have hkeep : ∀ l : List IssueRecord, (∀ x ∈ l, x.entry ≠ r.entry) →
      l.map (fun x => if x.entry = r.entry then g x else x) = l := fun l hl =>
    (List.map_congr_left fun x hx => if_neg (hl x hx)).trans (List.map_id' l)
  rw [List.map_append, List.map_cons, hkeep l1 h1, hkeep l2 h2, if_pos rfl]

theorem refeed_orders {s : State} {l1 l2 : List IssueRecord} {r : IssueRecord} {f : Feeder} (hf : s.issue.feed = none)
    (hl : s.issue.list = l1 ++ r :: l2) (h1 : ∀ x ∈ l1, ¬NeedsFeed x) (hr : NeedsFeed r) (hd : DistinctEntries s)
    (hc : ChosenFeeder s f) :
    ∃ t, exec .refeed s = .next t ∧ t.issue.feed = some ⟨some r.entry, none, f, r.cutLength, .requested⟩ ∧
      t.issue.list = l1 ++ { r with location := .feed } :: l2 ∧ KeptBut [.list, .feed] s t ∧ CausesKeptBut [] s t := by
  have hfind : s.issue.list.find? IssueRecord.needsFeed = some r := by
    rw [List.find?_eq_some_iff_append]
    refine ⟨(needsFeed_iff r).2 hr, l1, l2, hl, fun x hx => ?_⟩
    have hno := mt (needsFeed_iff x).1 (h1 x hx)
    simp [hno]
  have hexec : exec .refeed s = answer s (s.orderFeed r.entry r.cutLength) := by rw [exec_refeed, hf, hfind]
  obtain ⟨hfeed, hlist⟩ := orderFeed_spec hc r.entry r.cutLength
  refine ⟨_, hexec, by simpa using hfeed, ?_, (touches_orderFeed s _ _).closed⟩
  rw [(finish_frame _ _).2.2.2.2.1, hlist, hl]
  unfold DistinctEntries at hd
  rw [hl] at hd
  exact map_of_distinct (fun x => { x with location := .feed }) hd

/-- Settles O25: the refeed of the first record without a brick, and its waiting. -/
theorem refeedOrdersTheFeed : Obligations.RefeedOrdersTheFeed := by
  refine ⟨fun s l1 r l2 f hf hl h1 hr hd hc => refeed_orders hf hl h1 hr hd hc, fun s h => noEffect_of_exec ?_⟩
  rw [exec_refeed]
  cases hf : s.issue.feed with
  | some f => rfl
  | none =>
    cases hfind : s.issue.list.find? IssueRecord.needsFeed with
    | none => rfl
    | some r =>
      have hready : ∀ f, ¬FeederReady s f := by
        rcases h with h | h | h
        · exact absurd hf h
        · exact absurd ((needsFeed_iff r).1 (List.find?_some hfind)) (h r (List.mem_of_find?_eq_some hfind))
        · exact h
      dsimp only
      rw [State.orderFeed, chooseFeeder_of_none hready]

/-! ### Takes (R48 to R54) -/

theorem takeValid_iff (s : State) (k : Slot) (i : EntryIx) : s.takeValid k i = true ↔ ValidEntry s k i := by
  have hkind : (kindOf (s.entryKind i)).isSome = true ↔ s.entryKind i = kindLay ∨ s.entryKind i = kindProbe := by
    unfold kindOf
    split
    · simp [*]
    · split <;> simp [*]
  have hcut : ((!s.entryCut i || decide (400 ≤ s.entryCutLength i ∧ s.entryCutLength i ≤ 2900)) = true) ↔
      (s.entryCut i = true → 400 ≤ s.entryCutLength i ∧ s.entryCutLength i ≤ 2900) := by
    cases s.entryCut i <;> simp
  unfold State.takeValid ValidEntry
  simp only [Bool.and_eq_true, hkind, hcut, decide_eq_true_eq, and_assoc]

theorem layReady_iff (s : State) : s.layReady = true ↔ LayRoom s ∧ ∃ f, FeederReady s f := by
  rw [State.layReady, Bool.and_eq_true, layRoom_iff, feederAvailable_iff]

theorem exec_entryTake (kind : Byte) (s : State) :
    exec (.entryTake kind) s = answer s
      (match s.seq.active with
        | none => s
        | some k =>
          match s.mayTake, s.candidate k with
          | true, some i => s.takeEntry k i kind
          | _, _ => s) := rfl

theorem exec_entryTake_candidate {kind : Byte} {s : State} {k : Slot} {i : EntryIx} (hm : MayTake s k)
    (hc : Chosen s k i) : exec (.entryTake kind) s = answer s (s.takeEntry k i kind) := by
  rw [exec_entryTake, hm.2.1]
  dsimp only
  rw [(mayTake_iff hm.2.1).2 hm, (candidate_iff s k i).2 hc]

/-- A candidate that is LAY, or was read as LAY, with what a LAY take needs; or one of another kind. -/
theorem takeEntry_issues {s : State} {k : Slot} {i : EntryIx} {kind : Byte}
    (h : s.entryKind i = kindLay ∨ kind.toNat = kindLay → LayRoom s ∧ ∃ f, FeederReady s f) :
    s.takeEntry k i kind = s.issueEntry k i := by
  unfold State.takeEntry
  by_cases hk : kind.toNat = kindLay
  · rw [if_pos hk, if_pos ((layReady_iff s).2 (h (.inr hk)))]
  · rw [if_neg hk, if_neg]
    rintro ⟨he, hr⟩
    rw [(layReady_iff s).2 (h (.inl he))] at hr
    cases hr

theorem takeEntry_waits {s : State} {k : Slot} {i : EntryIx} {kind : Byte}
    (hk : s.entryKind i = kindLay ∨ kind.toNat = kindLay) (h : ¬LayRoom s ∨ ∀ f, ¬FeederReady s f) :
    s.takeEntry k i kind = s := by
  have hready : s.layReady = false := by
    rw [← Bool.not_eq_true, layReady_iff]
    rintro ⟨hroom, f, hf⟩
    exact h.elim (· hroom) (· f hf)
  unfold State.takeEntry
  by_cases hlay : kind.toNat = kindLay
  · rw [if_pos hlay, hready]
    rfl
  · rw [if_neg hlay, if_pos ⟨hk.resolve_right hlay, hready⟩]

theorem latchRecord_eq (s : State) (i : EntryIx) (k : Kind) (l : Location) :
    { s.latchRecord i k with location := l } = latchedRecord s i k l := rfl

/-- The state word and the record of an issued entry. -/
def issued (s : State) (i : EntryIx) (k : Kind) : State := (s.setEntryState i .issued).appendRecord (s.latchRecord i k)

theorem issueEntry_lay {s : State} {k : Slot} {i : EntryIx} (hv : ValidEntry s k i) (hk : s.entryKind i = kindLay) :
    s.issueEntry k i = (issued s i .lay).orderFeed i (s.latchRecord i .lay).cutLength := by
  have hkind : kindOf (s.entryKind i) = some .lay := by simp [hk, kindOf]
  rw [State.issueEntry, (takeValid_iff s k i).2 hv, hkind]
  rfl

theorem issueEntry_probe {s : State} {k : Slot} {i : EntryIx} (hv : ValidEntry s k i) (hk : s.entryKind i = kindProbe) :
    s.issueEntry k i = issued s i .probe := by
  have hkind : kindOf (s.entryKind i) = some .probe := by simp [hk, kindOf, kindLay, kindProbe]
  rw [State.issueEntry, (takeValid_iff s k i).2 hv, hkind]
  rfl

theorem issueEntry_invalid {s : State} {k : Slot} {i : EntryIx} (hv : ¬ValidEntry s k i) :
    s.issueEntry k i = s.failAtTake i := by
  have hvalid : s.takeValid k i = false := by rwa [← Bool.not_eq_true, takeValid_iff]
  rw [State.issueEntry, hvalid]

theorem touches_issued (s : State) (i : EntryIx) (k : Kind) : Touches [.bytes, .list] [] s (issued s i k) :=
  touches_of_frame (by simp [keptBut_iff, issued, State.appendRecord]) rfl rfl

theorem issued_state {s : State} (hw : BookWf s) (i : EntryIx) (k : Kind) : (issued s i k).entryState i = some .issued :=
  State.entryState_setEntryState s i .issued hw

theorem bytesKept_issued {s : State} (hw : BookWf s) (i : EntryIx) (k : Kind) :
    BytesKeptOutside [(entryAddr i 0, 4)] s (issued s i k) :=
  bytesKept_congr (bytesKept_setEntryState hw i .issued) rfl

theorem take_lay {k : Slot} {i : EntryIx} {f : Feeder} {kind : Byte} {s : State} (hw : BookWf s) (hm : MayTake s k)
    (hc : Candidate s k i) (hv : ValidEntry s k i) (hk : s.entryKind i = kindLay) (hroom : LayRoom s)
    (hf : ChosenFeeder s f) :
    ∃ t, exec (.entryTake kind) s = .next t ∧ t.entryState i = some .issued ∧
      t.issue.list = s.issue.list ++ [latchedRecord s i .lay .feed] ∧
      t.issue.feed = some ⟨some i, none, f, (latchedRecord s i .lay .feed).cutLength, .requested⟩ ∧
      BytesKeptOutside [(entryAddr i 0, 4)] s t ∧ KeptBut [.bytes, .list, .feed] s t ∧ CausesKeptBut [] s t := by
  have hexec := exec_entryTake_candidate (kind := kind) hm hc.1
  rw [takeEntry_issues fun _ => ⟨hroom, f, hf.1⟩, issueEntry_lay hv hk] at hexec
  have hfu : ChosenFeeder (issued s i .lay) f := hf
  obtain ⟨hfeed, hlist⟩ := orderFeed_spec hfu i (s.latchRecord i .lay).cutLength
  have htouch := (touches_issued s i .lay).mono.trans (touches_orderFeed (issued s i .lay) i (s.latchRecord i .lay).cutLength).mono
    (bs := [.bytes, .list, .feed]) (cs := [])
  refine ⟨_, hexec, ?_, ?_, by rw [(finish_frame _ _).2.2.2.2.2.1, hfeed]; rfl, ?_, htouch.closed⟩
  · rw [entryState_finish]
    exact (State.entryState_congr (State.word_congr (s := issued s i .lay) (by simp) _)).trans (issued_state hw i .lay)
  · have hold : s.issue.list.map (fun r => if r.entry = i then { r with location := Location.feed } else r) =
        s.issue.list := (List.map_congr_left fun r hr => if_neg (hc.2 r hr)).trans (List.map_id' _)
    rw [(finish_frame _ _).2.2.2.2.1, hlist]
    change (s.issue.list ++ [s.latchRecord i .lay]).map _ = _
    rw [List.map_append, hold, List.map_singleton, if_pos (show (s.latchRecord i .lay).entry = i from rfl), latchRecord_eq]
  · exact bytesKept_finish s (bytesKept_congr (bytesKept_issued hw i .lay) (by simp))

theorem take_probe {k : Slot} {i : EntryIx} {kind : Byte} {s : State} (hw : BookWf s) (hm : MayTake s k)
    (hc : Candidate s k i) (hv : ValidEntry s k i) (hk : s.entryKind i = kindProbe)
    (hseen : kind.toNat = kindLay → LayRoom s ∧ ∃ f, FeederReady s f) :
    ∃ t, exec (.entryTake kind) s = .next t ∧ t.entryState i = some .issued ∧
      t.issue.list = s.issue.list ++ [latchedRecord s i .probe .none] ∧
      BytesKeptOutside [(entryAddr i 0, 4)] s t ∧ KeptBut [.bytes, .list] s t ∧ CausesKeptBut [] s t := by
  have hexec := exec_entryTake_candidate (kind := kind) hm hc.1
  have hlay : s.entryKind i = kindLay ∨ kind.toNat = kindLay → LayRoom s ∧ ∃ f, FeederReady s f := by
    rintro (h | h)
    · rw [hk] at h
      cases h
    · exact hseen h
  rw [takeEntry_issues hlay, issueEntry_probe hv hk] at hexec
  refine ⟨_, hexec, by rw [entryState_finish]; exact issued_state hw i .probe, ?_,
    bytesKept_finish s (bytesKept_issued hw i .probe), (touches_issued s i .probe).closed⟩
  rw [(finish_frame _ _).2.2.2.2.1]
  rfl

/-- Settles O23: the takes of both kinds, the waits, and no candidate. -/
theorem takeIssuesTheCandidate : Obligations.TakeIssuesTheCandidate := by
  refine ⟨fun k i f kind s hw hm hc hv hk hroom hf => take_lay hw hm hc hv hk hroom hf,
    fun k i kind s hw hm hc hv hk hseen => take_probe hw hm hc hv hk hseen,
    fun k i kind s hm hc hk h => noEffect_of_exec ?_, fun k kind s hm hno => noEffect_of_exec ?_,
    fun kind s hno => noEffect_of_exec ?_⟩
  · rw [exec_entryTake_candidate hm hc.1, takeEntry_waits hk h]
  · have hnone : s.candidate k = none := Option.eq_none_iff_forall_ne_some.2 fun i h => hno i ((candidate_iff s k i).1 h)
    rw [exec_entryTake, hm.2.1]
    dsimp only
    rw [hnone, (mayTake_iff hm.2.1).2 hm]
  · rw [exec_entryTake]
    cases ha : s.seq.active with
    | none => rfl
    | some k =>
      have hmay : s.mayTake = false := by
        rw [← Bool.not_eq_true, mayTake_iff ha]
        exact hno k
      dsimp only
      rw [hmay]

/-! ### A candidate that fails a check (R52) -/

theorem take_fails {k : Slot} {i : EntryIx} {kind : Byte} {s : State} (hw : BookWf s) (hm : MayTake s k)
    (hc : Candidate s k i) (hv : ¬ValidEntry s k i)
    (hlay : s.entryKind i = kindLay ∨ kind.toNat = kindLay → LayRoom s ∧ ∃ f, FeederReady s f) :
    ∃ t, exec (.entryTake kind) s = .next t ∧ t.entryState i = some .failed ∧ ResultOf i .invalid s t ∧
      t.word (entryAddr i 13) = s.time ∧ hasCause t .entryFailed = true ∧
      (∀ f, f = { s.courseFigures k with
          remaining := (s.courseFigures k).remaining - 1, failed := (s.courseFigures k).failed + 1 } →
        FiguresFit f → TakesFigures k f s t) ∧
      BytesKeptOutside ((courseAddr k 0, 64) :: terminalWords i) s t ∧ KeptBut [.bytes, .seq] s t ∧
      CausesKeptBut [.entryFailed, .courseClosed] s t := by
  have hexec := exec_entryTake_candidate (kind := kind) hm hc.1
  rw [takeEntry_issues hlay, issueEntry_invalid hv, State.failAtTake] at hexec
  have ha : InActive s k i := ⟨hm.2.1, hc.1.1⟩
  have hended := ended_finishEntry hw i .failed .invalid
  have htouch : Touches [.bytes, .seq] [.entryFailed, .courseClosed] s ((s.finishEntry i .failed .invalid).countTerminal i .failed) :=
    (touches_finishEntry s i .failed .invalid).mono.trans (touches_countTerminal _ i .failed).mono
  generalize (s.finishEntry i .failed .invalid).countTerminal i .failed = u at *
  have hfinal := (hended.after (u := u.raise .entryFailed) rfl rfl rfl (by simp)).closed s
  refine ⟨_, hexec, hfinal.state, hfinal.result, hfinal.stamp, hasCause_finish_of _ _ _ (by simp), fun f hf hfit => ?_,
    hfinal.bytes.2 k ha, (htouch.trans (touches_raise u .entryFailed).mono).closed⟩
  rw [hf, ← endedFigures_failed hw k i .invalid] at hfit ⊢
  exact hfinal.takes k ha hfit

/-- Settles O24: the failed check ends the entry, and the course counts it. -/
theorem invalidEntryFailsAtTake : Obligations.InvalidEntryFailsAtTake :=
  fun _ _ _ _ hw hm hc hv hlay => take_fails hw hm hc hv hlay

end Sys2Proof
end

section
/-! SUPPORT. The close request (2.5): every FREE and POSTED entry of the range is cancelled, one after the other. -/

namespace Sys2Proof

open Sys2Proof.Machine

/-! ### One entry of the range -/

theorem cancelOpenEntry_of_open {s : State} {i : EntryIx}
    (h : s.entryState i = some .free ∨ s.entryState i = some .posted) : s.cancelOpenEntry i = s.cancelEntry i := if_pos h

theorem cancelOpenEntry_of_not {s : State} {i : EntryIx}
    (h : ¬(s.entryState i = some .free ∨ s.entryState i = some .posted)) : s.cancelOpenEntry i = s := if_neg h

/-- Other entries keep their words when an entry is cancelled. -/
theorem cancelEntry_word_ne {s : State} (hw : BookWf s) {i j : EntryIx} (h : j ≠ i) {w : Nat} (hlt : w < 16) :
    (s.cancelEntry i).word (entryAddr j w) = s.word (entryAddr j w) := by
  rw [State.cancelEntry, State.countTerminal_entryWord _ i j _ w (State.finishEntry_wf s i _ _ hw)]
  refine (bytesKept_finishEntry hw i _ _).word fun r hr => ?_
  have hne := Fin.val_ne_of_ne h
  simp only [terminalWords, List.mem_cons, List.not_mem_nil, or_false] at hr
  unfold entryAddr at *
  rcases hr with rfl | rfl | rfl
  all_goals dsimp only
  all_goals omega

theorem cancelEntry_state_ne {s : State} (hw : BookWf s) {i j : EntryIx} (h : j ≠ i) :
    (s.cancelEntry i).entryState j = s.entryState j := State.entryState_congr (cancelEntry_word_ne hw h (by omega))

theorem cancelEntry_active (s : State) (i : EntryIx) :
    (s.cancelEntry i).seq.active = s.seq.active ∨ (s.cancelEntry i).seq.active = none := by
  unfold State.cancelEntry State.countTerminal
  split
  · exact .inl (by simp)
  · split
    · dsimp only
      split
      · exact .inr (by simp [State.closeCourse])
      · exact .inl (by simp)
    · exact .inl (by simp)

theorem cancelEntry_eq {s : State} (hw : BookWf s) {k : Slot} {i : EntryIx} (ha : InActive s k i) :
    s.cancelEntry i =
      if (s.courseFigures k).remaining - 1 = 0 then
        (updated (s.finishEntry i .cancelled .cancelled) k (endedFigures s k i .cancelled .cancelled)).closeCourse k
      else updated (s.finishEntry i .cancelled .cancelled) k (endedFigures s k i .cancelled .cancelled) := by
  have hsame := sameCourses_finishEntry hw i .cancelled .cancelled
  rw [State.cancelEntry, countTerminal_eq _ ((hsame.inActive_iff k i).2 ha)]
  have hr : ((s.finishEntry i .cancelled .cancelled).countedFigures k i .cancelled).remaining =
      (s.courseFigures k).remaining - 1 := by
    have h := endedFigures_cancelled hw k i .cancelled
    unfold endedFigures at h
    rw [h]
  rw [hr]
  rfl

theorem updated_remaining {s : State} (hw : BookWf s) (k : Slot) {f : CourseFigures} (hf : f.remaining < 65536) :
    ((updated s k f).courseFigures k).remaining = f.remaining := by
  obtain ⟨w6, -⟩ := s.word_setCourseFigures k f hw
  unfold State.courseFigures
  dsimp only
  rw [updated_word hw k f (by omega), w6]
  exact field_packHalves_low _ _ hf

/-- A cancelled entry that is not the last to remain. -/
theorem cancelEntry_more {s : State} (hw : BookWf s) {k : Slot} {i : EntryIx} (ha : InActive s k i)
    (hr : 1 < (s.courseFigures k).remaining) :
    (s.cancelEntry i).seq = s.seq ∧ (s.cancelEntry i).courseState k = s.courseState k ∧
      hasCause (s.cancelEntry i) .courseClosed = hasCause s .courseClosed ∧
      (∀ j, (s.cancelEntry i).inCourse k j = s.inCourse k j) ∧
      ((s.cancelEntry i).courseFigures k).remaining = (s.courseFigures k).remaining - 1 ∧
      ((s.courseFigures k).cancelled + 1 < 65536 → (s.cancelEntry i).courseFigures k = { s.courseFigures k with
        remaining := (s.courseFigures k).remaining - 1, cancelled := (s.courseFigures k).cancelled + 1 }) := by
  have hsame := sameCourses_finishEntry hw i .cancelled .cancelled
  have hw' : BookWf (s.finishEntry i .cancelled .cancelled) := State.finishEntry_wf s i _ _ hw
  have hfit := figuresFit_courseFigures s k
  rw [cancelEntry_eq hw ha, if_neg (by omega), endedFigures_cancelled hw]
  generalize s.finishEntry i .cancelled .cancelled = u at *
  obtain ⟨hseq, -, hhost⟩ := updated_frame u k { s.courseFigures k with
    remaining := (s.courseFigures k).remaining - 1, cancelled := (s.courseFigures k).cancelled + 1 }
  have hlow : ∀ w, 1 ≤ w → w < 6 → ∀ f, (updated u k f).word (courseAddr k w) = s.word (courseAddr k w) := fun w h1 h6 f => by
    rw [updated_word hw' k f (by omega), setCourseFigures_low hw' k f h6, hsame.word k w (by omega)]
  refine ⟨hseq.trans hsame.seq, (updated_state hw' k _).trans (hsame.courseState k),
    (hasCause_congr (by rw [hhost]) _).trans hsame.closed, fun j => ?_, updated_remaining hw' k ?_, fun hc => updated_figures hw' k ?_⟩
  · unfold State.inCourse State.courseFirst State.courseCount
    rw [hlow 2 (by omega) (by omega), hlow 3 (by omega) (by omega)]
  · have := hfit.1.1
    dsimp only
    omega
  · unfold FiguresFit at *
    dsimp only
    omega

/-- The cancelled entry that was the last to remain closes the course. -/
theorem cancelEntry_last {s : State} (hw : BookWf s) {k : Slot} {i : EntryIx} (ha : InActive s k i)
    (hr : (s.courseFigures k).remaining = 1) :
    (s.cancelEntry i).seq.active = none ∧ (s.cancelEntry i).seq.closeMark = false ∧
      (s.cancelEntry i).seq.pointer = s.seq.pointer + 1 ∧ (s.cancelEntry i).courseState k = some .closed ∧
      ((s.cancelEntry i).courseFigures k).remaining = 0 ∧ hasCause (s.cancelEntry i) .courseClosed = true := by
  have hsame := sameCourses_finishEntry hw i .cancelled .cancelled
  have hw' : BookWf (s.finishEntry i .cancelled .cancelled) := State.finishEntry_wf s i _ _ hw
  rw [cancelEntry_eq hw ha, if_pos (by omega), endedFigures_cancelled hw]
  generalize s.finishEntry i .cancelled .cancelled = u at *
  have hwu := updated_wf hw' k { s.courseFigures k with
    remaining := (s.courseFigures k).remaining - 1, cancelled := (s.courseFigures k).cancelled + 1 }
  have hremaining := updated_remaining hw' k (f := { s.courseFigures k with
    remaining := (s.courseFigures k).remaining - 1, cancelled := (s.courseFigures k).cancelled + 1 }) (by dsimp only; omega)
  obtain ⟨hseq, -, -⟩ := updated_frame u k { s.courseFigures k with
    remaining := (s.courseFigures k).remaining - 1, cancelled := (s.courseFigures k).cancelled + 1 }
  generalize updated u k _ = v at *
  obtain ⟨c1, c2, -, -, c5, c6⟩ := State.closeCourse_spec v k hwu
  refine ⟨by rw [c5], by rw [c5], by rw [c5, hseq, hsame.seq], c2, ?_, by simp [hasCause, c6, causeMask_bit]⟩
  rw [c1, hremaining, hr]

/-! ### All entries of the range -/

/-- How many entries of the list read FREE or POSTED. -/
def openCount (s : State) (l : List EntryIx) : Nat :=
  (l.filter fun i => s.entryState i = some .free ∨ s.entryState i = some .posted).length

theorem openCount_cons (s : State) (i : EntryIx) (l : List EntryIx) :
    openCount s (i :: l) =
      openCount s l + if s.entryState i = some .free ∨ s.entryState i = some .posted then 1 else 0 := by
  unfold openCount
  rw [List.filter_cons]
  split <;> simp_all

/-- What has been cancelled leaves the others as open as they were. -/
theorem openCount_cancelEntry {s : State} (hw : BookWf s) {i : EntryIx} {l : List EntryIx} (hi : i ∉ l) :
    openCount (s.cancelEntry i) l = openCount s l := by
  refine congrArg List.length (List.filter_congr fun j hj => ?_)
  rw [cancelEntry_state_ne hw (ne_of_mem_of_not_mem hj hi)]

/-- The FREE and POSTED entries of the list are cancelled, and nothing else of the book but the course's record is written. -/
structure OpenCancelled (k : Slot) (l : List EntryIx) (s t : State) : Prop where
  ended : ∀ i ∈ l, s.entryState i = some .free ∨ s.entryState i = some .posted →
    t.entryState i = some .cancelled ∧ ResultOf i .cancelled s t ∧ t.word (entryAddr i 13) = s.time
  others : ∀ i j, j < 16 → i ∉ l ∨ ¬(s.entryState i = some .free ∨ s.entryState i = some .posted) →
    t.word (entryAddr i j) = s.word (entryAddr i j)
  bytes : BytesKeptOutside ((courseAddr k 0, 64) :: l.flatMap terminalWords) s t

theorem foldl_cancelOpenEntry (k : Slot) (l : List EntryIx) {s : State} (hw : BookWf s)
    (ha : ∀ k', s.seq.active = some k' → k' = k) (hd : l.Nodup) :
    OpenCancelled k l s (l.foldl State.cancelOpenEntry s) := by
  induction l generalizing s with
  | nil => exact ⟨by simp, fun _ _ _ _ => rfl, bytesKept_refl _ s⟩
  | cons i l ih =>
    obtain ⟨hi, hl⟩ := List.nodup_cons.1 hd
    rw [List.foldl_cons]
    by_cases ho : s.entryState i = some .free ∨ s.entryState i = some .posted
    · rw [cancelOpenEntry_of_open ho]
      have hended := ended_cancelEntry hw i
      have hactive : ∀ k', (s.cancelEntry i).seq.active = some k' → k' = k := fun k' hk' => by
        rcases cancelEntry_active s i with h | h
        · exact ha k' (h ▸ hk')
        · rw [h] at hk'
          cases hk'
      have hother := fun j (h : j ≠ i) => cancelEntry_state_ne hw h
      have hword := fun j w (h : j ≠ i) (hlt : w < 16) => cancelEntry_word_ne hw h hlt
      have htime : (s.cancelEntry i).time = s.time := by simp
      generalize s.cancelEntry i = u at *
      have hrest := ih hended.wf hactive hl
      generalize l.foldl State.cancelOpenEntry u = t at *
      have hkept := fun w (hlt : w < 16) => hrest.others i w hlt (.inl hi)
      refine ⟨fun j hj hopen => ?_, fun j w hlt hj => ?_, bytesKept_trans ?_ (bytesKept_mono hrest.bytes ?_)⟩
      · by_cases hji : j = i
        · subst hji
          exact ⟨(State.entryState_congr (hkept 0 (by omega))).trans hended.state,
            resultOf_congr hended.result (hkept 7 (by omega)), (hkept 13 (by omega)).trans hended.stamp⟩
        · obtain ⟨h1, ⟨h2, h3⟩, h4⟩ := hrest.ended j ((List.mem_cons.1 hj).resolve_left hji) (by rwa [hother j hji])
          exact ⟨h1, ⟨h2, by rw [h3, hword j 7 hji (by omega)]⟩, h4.trans htime⟩
      · have hji : j ≠ i := by
          rintro rfl
          exact hj.elim (fun h => h (List.mem_cons_self ..)) (fun h => h ho)
        rw [hrest.others j w hlt (hj.imp (fun h hm => h (List.mem_cons_of_mem _ hm)) fun h => by rwa [hother j hji]),
          hword j w hji hlt]
      · by_cases hu : Uncounted s i
        · exact bytesKept_mono (hended.bytes.1 hu) (by simp [List.flatMap_cons])
        · obtain ⟨k', hk'⟩ := not_forall_not.1 hu
          have hbytes := hended.bytes.2 k' hk'
          rw [ha k' hk'.1] at hbytes
          exact bytesKept_mono hbytes (by simp [List.flatMap_cons])
      · simp [List.flatMap_cons]
    · rw [cancelOpenEntry_of_not ho]
      obtain ⟨hended, hothers, hbytes⟩ := ih hw ha hl
      refine ⟨fun j hj hopen => ?_, fun j w hlt hj => ?_, bytesKept_mono hbytes (by simp [List.flatMap_cons])⟩
      · refine hended j ((List.mem_cons.1 hj).resolve_left ?_) hopen
        rintro rfl
        exact ho hopen
      · exact hothers j w hlt (hj.imp (fun h hm => h (List.mem_cons_of_mem _ hm)) id)

/-- With entries left over the course goes on. -/
theorem foldl_cancel_stays {k : Slot} (l : List EntryIx) {s : State} (hw : BookWf s) (ha : s.seq.active = some k)
    (hin : ∀ i ∈ l, s.inCourse k i = true) (hd : l.Nodup) (hlt : openCount s l < (s.courseFigures k).remaining) :
    (l.foldl State.cancelOpenEntry s).seq = s.seq ∧ (l.foldl State.cancelOpenEntry s).courseState k = s.courseState k ∧
      hasCause (l.foldl State.cancelOpenEntry s) .courseClosed = hasCause s .courseClosed ∧
      ((s.courseFigures k).cancelled + openCount s l < 65536 →
        (l.foldl State.cancelOpenEntry s).courseFigures k = { s.courseFigures k with
          remaining := (s.courseFigures k).remaining - openCount s l
          cancelled := (s.courseFigures k).cancelled + openCount s l }) := by
  induction l generalizing s with
  | nil => exact ⟨rfl, rfl, rfl, fun _ => rfl⟩
  | cons i l ih =>
    obtain ⟨hi, hl⟩ := List.nodup_cons.1 hd
    obtain ⟨hini, hinl⟩ := List.forall_mem_cons.1 hin
    rw [openCount_cons] at hlt ⊢
    rw [List.foldl_cons]
    by_cases ho : s.entryState i = some .free ∨ s.entryState i = some .posted
    · rw [cancelOpenEntry_of_open ho]
      rw [if_pos ho] at hlt ⊢
      obtain ⟨hseq, hstate, hcause, hcourse, hremaining, hfigures⟩ := cancelEntry_more hw ⟨ha, hini⟩ (by omega)
      have hcount := openCount_cancelEntry hw hi
      have hw' : BookWf (s.cancelEntry i) := State.cancelEntry_wf s i hw
      generalize s.cancelEntry i = u at *
      obtain ⟨h1, h2, h3, h4⟩ := ih hw' (by rw [hseq, ha]) (fun j hj => by rw [hcourse, hinl j hj]) hl (by omega)
      refine ⟨h1.trans hseq, h2.trans hstate, h3.trans hcause, fun hfit => ?_⟩
      have hfig := hfigures (by omega)
      rw [h4 (by rw [hcount, hfig]; dsimp only; omega), hcount, hfig]
      have hsub : (s.courseFigures k).remaining - 1 - openCount s l = (s.courseFigures k).remaining - (openCount s l + 1) := by
        omega
      have hadd : (s.courseFigures k).cancelled + 1 + openCount s l = (s.courseFigures k).cancelled + (openCount s l + 1) := by
        omega
      simp only [hsub, hadd]
    · rw [cancelOpenEntry_of_not ho]
      rw [if_neg ho] at hlt ⊢
      exact ih hw ha hinl hl hlt

theorem foldl_cancel_none (l : List EntryIx) {s : State} (h : openCount s l = 0) :
    l.foldl State.cancelOpenEntry s = s := by
  induction l with
  | nil => rfl
  | cons i l ih =>
    rw [openCount_cons] at h
    have ho : ¬(s.entryState i = some .free ∨ s.entryState i = some .posted) := fun ho => by
      rw [if_pos ho] at h
      omega
    rw [List.foldl_cons, cancelOpenEntry_of_not ho, ih (by omega)]

/-- With nothing left over the course closes. -/
theorem foldl_cancel_closes {k : Slot} (l : List EntryIx) {s : State} (hw : BookWf s) (ha : s.seq.active = some k)
    (hin : ∀ i ∈ l, s.inCourse k i = true) (hd : l.Nodup) (heq : openCount s l = (s.courseFigures k).remaining)
    (h0 : openCount s l ≠ 0) :
    (l.foldl State.cancelOpenEntry s).seq.active = none ∧ (l.foldl State.cancelOpenEntry s).seq.closeMark = false ∧
      (l.foldl State.cancelOpenEntry s).seq.pointer = s.seq.pointer + 1 ∧
      (l.foldl State.cancelOpenEntry s).courseState k = some .closed ∧
      ((l.foldl State.cancelOpenEntry s).courseFigures k).remaining = 0 ∧
      hasCause (l.foldl State.cancelOpenEntry s) .courseClosed = true := by
  induction l generalizing s with
  | nil => exact absurd rfl h0
  | cons i l ih =>
    obtain ⟨hi, hl⟩ := List.nodup_cons.1 hd
    obtain ⟨hini, hinl⟩ := List.forall_mem_cons.1 hin
    rw [openCount_cons] at heq h0
    rw [List.foldl_cons]
    by_cases ho : s.entryState i = some .free ∨ s.entryState i = some .posted
    · rw [cancelOpenEntry_of_open ho]
      rw [if_pos ho] at heq h0
      have hcount := openCount_cancelEntry hw hi
      by_cases hlast : (s.courseFigures k).remaining = 1
      · rw [foldl_cancel_none l (by omega)]
        exact cancelEntry_last hw ⟨ha, hini⟩ hlast
      · obtain ⟨hseq, -, -, hcourse, hremaining, -⟩ := cancelEntry_more hw ⟨ha, hini⟩ (by omega)
        have hw' : BookWf (s.cancelEntry i) := State.cancelEntry_wf s i hw
        generalize s.cancelEntry i = u at *
        have hrest := ih hw' (by rw [hseq, ha]) (fun j hj => by rw [hcourse, hinl j hj]) hl
          (by omega) (by omega)
        rwa [hseq] at hrest
    · rw [cancelOpenEntry_of_not ho]
      rw [if_neg ho] at heq h0
      exact ih hw ha hinl hl heq h0

/-! ### The request -/

theorem exec_closeRequest (k : Slot) (s : State) :
    exec (.closeRequest k) s = answer s
      (if s.courseState k = some .active then (if s.seq.closeMark then s else s.requestClose k) else s.discardWrite) := rfl

theorem touches_cancelOpenEntry (s : State) (i : EntryIx) : Touches [.bytes, .seq] [.courseClosed] s (s.cancelOpenEntry i) := by
  unfold State.cancelOpenEntry
  split
  · exact touches_cancelEntry s i
  · exact .refl _ _ s

theorem touches_requestClose (s : State) (k : Slot) : Touches [.bytes, .seq] [.courseClosed] s (s.requestClose k) :=
  (touches_withSeq s _).mono.trans (Touches.foldl touches_cancelOpenEntry _ _)

theorem nodup_courseEntries (s : State) (k : Slot) : (s.courseEntries k).Nodup :=
  (pairwise_courseEntries s k).imp fun h => ne_of_lt h

/-- The mark is set, and nothing else has been done yet. -/
def marking (s : State) : State := s.withSeq { s.seq with closeMark := true }

theorem closeRequest_cancels {k : Slot} {n : Nat} {s : State} (hw : BookWf s) (hk : s.courseState k = some .active)
    (ha : s.seq.active = some k) (hm : s.seq.closeMark = false)
    (hn : n = ((s.courseEntries k).filter fun i => s.entryState i = some .free ∨ s.entryState i = some .posted).length) :
    ∃ t, exec (.closeRequest k) s = .next t ∧ KeptBut [.bytes, .seq] s t ∧ CausesKeptBut [.courseClosed] s t ∧
      (∀ i, s.inCourse k i = true → s.entryState i = some .free ∨ s.entryState i = some .posted →
        t.entryState i = some .cancelled ∧ ResultOf i .cancelled s t ∧ t.word (entryAddr i 13) = s.time) ∧
      (∀ i j, j < 16 → s.inCourse k i = false ∨ (s.entryState i ≠ some .free ∧ s.entryState i ≠ some .posted) →
        t.word (entryAddr i j) = s.word (entryAddr i j)) ∧
      BytesKeptOutside ((courseAddr k 0, 64) :: (s.courseEntries k).flatMap terminalWords) s t ∧
      (n < (s.courseFigures k).remaining → (s.courseFigures k).cancelled + n < 65536 →
        t.seq = { s.seq with closeMark := true } ∧ t.courseState k = some .active ∧
          t.courseFigures k = { s.courseFigures k with
            remaining := (s.courseFigures k).remaining - n, cancelled := (s.courseFigures k).cancelled + n } ∧
          CausesKeptBut [] s t) ∧
      (n = (s.courseFigures k).remaining → n ≠ 0 →
        t.seq.active = none ∧ t.seq.closeMark = false ∧ t.seq.pointer = s.seq.pointer + 1 ∧
          t.courseState k = some .closed ∧ (t.courseFigures k).remaining = 0 ∧ hasCause t .courseClosed = true) := by
  have hexec := exec_closeRequest k s
  rw [if_pos hk, hm] at hexec
  change exec _ s = .next (finish s (s.requestClose k)) at hexec
  obtain ⟨hframe, hcauses⟩ := (touches_requestClose s k).closed
  have hin : ∀ i ∈ s.courseEntries k, (marking s).inCourse k i = true := fun i hi => (mem_courseEntries s k i).1 hi
  have hd := nodup_courseEntries s k
  have hw' : BookWf (marking s) := hw
  have ha' : (marking s).seq.active = some k := ha
  have hcancelled := foldl_cancelOpenEntry k (s.courseEntries k) hw'
    (fun k' h => Option.some.inj (h.symm.trans ha')) hd
  have hstays := foldl_cancel_stays (s.courseEntries k) hw' ha' hin hd
  have hcloses := foldl_cancel_closes (s.courseEntries k) hw' ha' hin hd
  have hcount : openCount (marking s) (s.courseEntries k) = n := hn.symm
  rw [hcount] at hstays hcloses
  have hfold : (s.courseEntries k).foldl State.cancelOpenEntry (marking s) = s.requestClose k := rfl
  rw [hfold] at hcancelled hstays hcloses
  generalize s.requestClose k = u at *
  obtain ⟨hended, hothers, hbytes⟩ := hcancelled
  refine ⟨_, hexec, hframe, hcauses, fun i hi ho => ?_, fun i j hj hi => ?_, bytesKept_finish s hbytes,
    fun hlt hfit => ?_, fun heq h0 => ?_⟩
  · obtain ⟨h1, h2, h3⟩ := hended i ((mem_courseEntries s k i).2 hi) ho
    exact ⟨by simpa using h1, resultOf_congr h2 (by simp), by rw [word_finish, h3]; rfl⟩
  · rw [word_finish]
    refine hothers i j hj (hi.imp (fun h hm => ?_) not_or.2)
    rw [(mem_courseEntries s k i).1 hm] at h
    cases h
  · obtain ⟨h1, h2, h3, h4⟩ := hstays hlt
    refine ⟨by simpa [marking] using h1, by simpa using h2.trans hk, ?_, causesKeptBut_of_closed hcauses ?_⟩
    · rw [courseFigures_finish]
      exact h4 hfit
    · rw [hasCause_finish_of_ne _ _ (by decide), h3]
      rfl
  · obtain ⟨h1, h2, h3, h4, h5, h6⟩ := hcloses heq h0
    exact ⟨by simpa using h1, by simpa using h2, by simpa [marking] using h3, by simpa using h4, by simpa using h5,
      hasCause_finish_of _ _ _ h6⟩

/-- Settles O17: the request, its repetition, and the record that is not ACTIVE. -/
theorem closeRequestCancelsOpenEntries : Obligations.CloseRequestCancelsOpenEntries := by
  refine ⟨fun k n s hw hk ha hm hn => closeRequest_cancels hw hk ha hm hn, fun k s hk hm => noEffect_of_exec ?_,
    fun k s hk => discarded_of_exec ?_⟩
  · rw [exec_closeRequest, if_pos hk, hm]
    rfl
  · rw [exec_closeRequest, if_neg hk]

end Sys2Proof
end

section
/-! SUPPORT. The line arbiter (5.7) and the requests of the head sides (8.2). -/

namespace Sys2Proof

open Sys2Proof.Machine

/-! ### The poll due longest (R95) -/

theorem earlierPoll_of_pending {s : State} {p : Position} {d : Word} (best : Option (Position × Nat))
    (hp : (s.line.at p).pollPending = true) (hd : (s.line.at p).nextPoll = some d) :
    s.earlierPoll best p =
      match best with
      | none => some (p, (s.time - d).toNat)
      | some (q, l) => if l < (s.time - d).toNat then some (p, (s.time - d).toNat) else some (q, l) := by
  unfold State.earlierPoll
  simp only [hp, hd]
  rfl

theorem earlierPoll_of_not {s : State} {p : Position} (best : Option (Position × Nat))
    (h : ∀ d, (s.line.at p).pollPending = true → (s.line.at p).nextPoll ≠ some d) : s.earlierPoll best p = best := by
  unfold State.earlierPoll
  dsimp only
  split
  · exact absurd ‹_› (h _ ‹_›)
  · rfl

/-- A poll found among positions is pending at one of them, with its lateness. -/
theorem foldl_earlierPoll_mem {s : State} (l : List Position) {best : Option (Position × Nat)} {q : Position} {n : Nat}
    (h : l.foldl s.earlierPoll best = some (q, n)) :
    best = some (q, n) ∨
      q ∈ l ∧ (s.line.at q).pollPending = true ∧ ∃ d, (s.line.at q).nextPoll = some d ∧ n = (s.time - d).toNat := by
  induction l generalizing best with
  | nil => exact .inl h
  | cons p l ih =>
    rcases ih h with hp | ⟨hq, hrest⟩
    · by_cases hpend : ∃ d, (s.line.at p).pollPending = true ∧ (s.line.at p).nextPoll = some d
      · obtain ⟨d, hp1, hp2⟩ := hpend
        rw [earlierPoll_of_pending best hp1 hp2] at hp
        have hnew : some (p, (s.time - d).toNat) = some (q, n) →
            q ∈ p :: l ∧ (s.line.at q).pollPending = true ∧ ∃ d, (s.line.at q).nextPoll = some d ∧ n = (s.time - d).toNat := by
          intro he
          obtain ⟨rfl, rfl⟩ := Prod.mk.inj (Option.some.inj he)
          exact ⟨List.mem_cons_self .., hp1, d, hp2, rfl⟩
        cases best with
        | none => exact .inr (hnew hp)
        | some b =>
          dsimp only at hp
          split at hp
          · exact .inr (hnew hp)
          · exact .inl hp
      · rw [earlierPoll_of_not best fun d h1 h2 => hpend ⟨d, h1, h2⟩] at hp
        exact .inl hp
    · exact .inr ⟨List.mem_cons_of_mem _ hq, hrest⟩

/-- A poll stands against those that are not later. -/
theorem foldl_earlierPoll_stands {s : State} (l : List Position) {p : Position} {n : Nat}
    (h : ∀ q ∈ l, ∀ e, (s.line.at q).pollPending = true → (s.line.at q).nextPoll = some e → (s.time - e).toNat ≤ n) :
    l.foldl s.earlierPoll (some (p, n)) = some (p, n) := by
  induction l with
  | nil => rfl
  | cons q l ih =>
    obtain ⟨hq, hl⟩ := List.forall_mem_cons.1 h
    rw [List.foldl_cons]
    by_cases hpend : ∃ d, (s.line.at q).pollPending = true ∧ (s.line.at q).nextPoll = some d
    · obtain ⟨d, hp1, hp2⟩ := hpend
      rw [earlierPoll_of_pending _ hp1 hp2]
      dsimp only
      rw [if_neg (Nat.not_lt.2 (hq d hp1 hp2)), ih hl]
    · rw [earlierPoll_of_not _ fun d h1 h2 => hpend ⟨d, h1, h2⟩, ih hl]

/-- The positions before one of them have lower numbers, those after it higher ones. -/
theorem positions_split (p : Position) : ∃ l1 l2, positions = l1 ++ p :: l2 ∧ (∀ q ∈ l1, positionNumber q < positionNumber p) ∧
    ∀ q ∈ l2, positionNumber p < positionNumber q := by
  cases p
  case feederA => exact ⟨[], [.feederB, .spreader, .gripper], rfl, by decide, by decide⟩
  case feederB => exact ⟨[.feederA], [.spreader, .gripper], rfl, by decide, by decide⟩
  case spreader => exact ⟨[.feederA, .feederB], [.gripper], rfl, by decide, by decide⟩
  case gripper => exact ⟨[.feederA, .feederB, .spreader], [], rfl, by decide, by decide⟩

theorem grantablePoll_of_longest {s : State} {p : Position} {d : Word} (hs : s.control.sensed = true)
    (hp : (s.line.at p).pollPending = true) (hd : (s.line.at p).nextPoll = some d)
    (h : ∀ q e, q ≠ p → (s.line.at q).pollPending = true → (s.line.at q).nextPoll = some e →
      (s.time - e).toNat < (s.time - d).toNat ∨
        ((s.time - e).toNat = (s.time - d).toNat ∧ positionNumber p < positionNumber q)) :
    s.grantablePoll = some p := by
  obtain ⟨l1, l2, hl, h1, h2⟩ := positions_split p
  have hne : ∀ q, positionNumber q ≠ positionNumber p → q ≠ p := fun q hq he => hq (congrArg _ he)
  have hfirst : s.earlierPoll (l1.foldl s.earlierPoll none) p = some (p, (s.time - d).toNat) := by
    rw [earlierPoll_of_pending _ hp hd]
    cases hb : l1.foldl s.earlierPoll none with
    | none => rfl
    | some b =>
      obtain ⟨q, n⟩ := b
      obtain ⟨hq, hq1, e, hq2, rfl⟩ := (foldl_earlierPoll_mem l1 hb).resolve_left (by simp)
      have hnum := h1 q hq
      have hlt := (h q e (hne q (by omega)) hq1 hq2).resolve_right (by omega)
      exact if_pos hlt
  have hstands := foldl_earlierPoll_stands (s := s) l2 (p := p) (n := (s.time - d).toNat) fun q hq e hq1 hq2 => by
    have hnum := h2 q hq
    have := h q e (hne q (by omega)) hq1 hq2
    omega
  rw [State.grantablePoll, if_neg (by simp [hs]), hl, List.foldl_append, List.foldl_cons, hfirst, hstands]
  rfl

/-! ### The grant (R95, R97) -/

theorem exec_lineGrant (s : State) : exec .lineGrant s = answer s s.grantLine := rfl

theorem commandsGranted_iff (s : State) : s.commandsGranted = true ↔ MayHalt s := by
  simp only [State.commandsGranted, decide_eq_true_eq, MayHalt]
  tauto

theorem grantableHead_of_first {s : State} {l1 l2 : List StationCommand} {c : StationCommand}
    (hl : s.line.headRequests = l1 ++ c :: l2) (h1 : ∀ x ∈ l1, (s.line.at (headTarget x)).state ≠ .ready)
    (hc : (s.line.at (headTarget c)).state = .ready) : s.grantableHead = some c := by
  rw [State.grantableHead, List.find?_eq_some_iff_append]
  exact ⟨by simpa using hc, l1, l2, hl, fun x hx => by simpa using h1 x hx⟩

theorem grantableHead_of_none {s : State} (h : ∀ x ∈ s.line.headRequests, (s.line.at (headTarget x)).state ≠ .ready) :
    s.grantableHead = none := by
  rw [State.grantableHead, List.find?_eq_none]
  exact fun x hx => by simpa using h x hx

theorem grantableFeed_of_waits {s : State} (h : FeedWaits s) : s.grantableFeed = none := by
  unfold State.grantableFeed
  cases hf : s.issue.feed with
  | none => rfl
  | some f =>
    refine if_neg ?_
    rintro ⟨hphase, hready, hdefers⟩
    rcases h f hf with h | h | ⟨n, h⟩
    · exact h hphase
    · exact h ((feederReady_iff s f.feeder).1 hready)
    · simp [Station.defersFeed, h] at hdefers

theorem touches_markEjecting (s : State) (c : StationCommand) : Touches [.head] [] s (s.markEjecting c) := by
  unfold State.markEjecting
  split
  · exact touches_putHead s _
  · exact touches_putHead s _
  · exact .refl _ _ s

theorem touches_sendFrame (s : State) (p : Position) (c : StationCommand) : Touches [.line] [] s (s.sendFrame p c) :=
  touches_withLine s _

theorem touches_grantHead (s : State) (c : StationCommand) : Touches [.line, .head] [] s (s.grantHead c) :=
  ((touches_withdrawHead s c).mono.trans (touches_markEjecting _ c).mono).trans (touches_sendFrame _ _ c).mono

theorem grantHead_head (s : State) (c : StationCommand) : (s.grantHead c).head = ((s.withdrawHead c).markEjecting c).head := by
  simp [State.grantHead]

theorem lineGrant_head {s : State} {c : StationCommand} {l1 l2 : List StationCommand} (hn : s.line.transaction = none)
    (hm : MayHalt s) (hl : s.line.headRequests = l1 ++ c :: l2)
    (h1 : ∀ x ∈ l1, (s.line.at (headTarget x)).state ≠ .ready) (hc : (s.line.at (headTarget c)).state = .ready) :
    ∃ t, exec .lineGrant s = .next t ∧ t.line.transaction = some ⟨headTarget c, c, s.time⟩ ∧
      t.line.lastFrame = commandFrame (headTarget c) c ∧
      t.line.headRequests = s.line.headRequests.filter (fun x => x ≠ c) ∧
      (c = .eject .bay → s.head.bay.state ≠ .ejecting →
        t.head = { s.head with bay := { s.head.bay with state := .ejecting, ejectFrom := s.head.bay.state } }) ∧
      (c = .eject .bay → s.head.bay.state = .ejecting → t.head = s.head) ∧
      (c = .eject .gripper → t.head = { s.head with gripper := { s.head.gripper with state := .ejecting } }) ∧
      ((∀ place, c ≠ .eject place) → t.head = s.head) ∧ KeptBut [.line, .head] s t ∧ CausesKeptBut [] s t := by
  have hexec : exec .lineGrant s = answer s (s.grantHead c) := by
    rw [exec_lineGrant, State.grantLine, if_neg (by simp [hn]), (commandsGranted_iff s).2 hm, grantableHead_of_first hl h1 hc]
  have hhead : (finish s (s.grantHead c)).head = ((s.withdrawHead c).markEjecting c).head := by
    rw [← grantHead_head]
    simp
  have hline : (s.grantHead c).line = { s.line with
      headRequests := s.line.headRequests.filter (fun x => x ≠ c)
      transaction := some ⟨headTarget c, c, s.time⟩, lastFrame := commandFrame (headTarget c) c } := by
    simp [State.grantHead, State.sendFrame, State.withdrawHead]
  refine ⟨_, hexec, by simp [hline], by simp [hline], by simp [hline], fun he hb => ?_, fun he hb => ?_, fun he => ?_,
    fun hno => ?_, (touches_grantHead s c).closed⟩
  · rw [hhead, he]
    simp [State.markEjecting, Bay.markEjecting, hb, State.withdrawHead]
  · rw [hhead, he]
    simp [State.markEjecting, Bay.markEjecting, hb, State.withdrawHead]
  · rw [hhead, he]
    simp [State.markEjecting, State.withdrawHead]
  · rw [hhead, State.markEjecting]
    · rfl
    · exact hno .bay
    · exact hno .gripper

theorem lineGrant_feed {s : State} {f : FeedPending} (hn : s.line.transaction = none) (hm : MayHalt s)
    (hh : ∀ x ∈ s.line.headRequests, (s.line.at (headTarget x)).state ≠ .ready) (hf : s.issue.feed = some f)
    (hp : f.phase = .requested) (hr : FeederReady s f.feeder) (hd : (s.line.at (feederPosition f.feeder)).deferred = none) :
    ∃ t, exec .lineGrant s = .next t ∧ t.issue.feed = some { f with phase := .sent } ∧
      t.line = { s.line with
        transaction := some ⟨feederPosition f.feeder, .feed f.cutLength, s.time⟩
        lastFrame := commandFrame (feederPosition f.feeder) (.feed f.cutLength) } ∧
      KeptBut [.line, .feed] s t ∧ CausesKeptBut [] s t := by
  have hfeed : s.grantableFeed = some f := by
    rw [State.grantableFeed, hf]
    exact if_pos ⟨hp, (feederReady_iff s _).2 hr, by simp [Station.defersFeed, hd]⟩
  have hexec : exec .lineGrant s = answer s (s.grantFeed f) := by
    rw [exec_lineGrant, State.grantLine, if_neg (by simp [hn]), (commandsGranted_iff s).2 hm, grantableHead_of_none hh, hfeed]
  have htouch : Touches [.line, .feed] [] s (s.grantFeed f) :=
    (touches_withFeed s (some { f with phase := .sent })).mono.trans (touches_sendFrame _ _ _).mono
  refine ⟨_, hexec, ?_, ?_, htouch.closed⟩
  · simp [State.grantFeed]
  · simp [State.grantFeed, State.sendFrame]

theorem grantLine_poll {s : State} {p : Position} (hn : s.line.transaction = none) (hp : s.grantablePoll = some p)
    (h : (∀ x ∈ s.line.headRequests, (s.line.at (headTarget x)).state ≠ .ready) ∧ FeedWaits s ∨
      s.control.state = .init ∨ s.control.state = .halt) : s.grantLine = s.grantPoll p := by
  rw [State.grantLine, if_neg (by simp [hn])]
  rcases h with ⟨hh, hf⟩ | h
  · rw [grantableHead_of_none hh, grantableFeed_of_waits hf]
    cases s.commandsGranted <;> simp [hp]
  · have hno : s.commandsGranted = false := by
      rw [← Bool.not_eq_true, commandsGranted_iff, not_mayHalt_iff]
      exact h
    rw [hno]
    simp [hp]

theorem touches_grantPoll (s : State) (p : Position) : Touches [.line] [] s (s.grantPoll p) :=
  (touches_setStation s p _).trans (touches_sendFrame _ p .query)

theorem lineGrant_poll {s : State} {p : Position} (h : s.grantLine = s.grantPoll p) :
    ∃ t, exec .lineGrant s = .next t ∧ t.line.transaction = some ⟨p, .query, s.time⟩ ∧
      t.line.lastFrame = commandFrame p .query ∧
      t.line.at p = { s.line.at p with nextPoll := none, pollPending := false } ∧ OtherStationsKept p s t ∧
      KeptBut [.line] s t ∧ CausesKeptBut [] s t := by
  have hat : ∀ q, (s.grantPoll p).line.at q =
      (s.setStation p { s.line.at p with nextPoll := none, pollPending := false }).line.at q := fun q => by
    cases q <;> rfl
  refine ⟨_, by rw [exec_lineGrant, h]; rfl, by simp [State.grantPoll, State.sendFrame],
    by simp [State.grantPoll, State.sendFrame], ?_, ?_, (touches_grantPoll s p).closed⟩
  · rw [(finish_frame _ _).2.2.2.2.2.2.2.2.1, hat, at_setStation, if_pos rfl]
  · obtain ⟨h1, h2, h3⟩ := otherStationsKept_setStation s p { s.line.at p with nextPoll := none, pollPending := false }
    exact otherStationsKept_finish s ⟨fun q hq => (hat q).trans (h1 q hq), h2, h3⟩

theorem exec_pollDue (p : Position) (s : State) :
    exec (.pollDue p) s =
      answer s (if s.pollReached p then s.setStation p { s.line.at p with pollPending := true } else s) := rfl

/-- Settles O31: the poll's request, and the grants in their order. -/
theorem lineIsGrantedInOrder : Obligations.LineIsGrantedInOrder := by
  refine ⟨fun p d s hd hlate hst hp hs => ?_, fun l1 c l2 s hn hm hl h1 hc => lineGrant_head hn hm hl h1 hc,
    fun f s hn hm hh hf hp hr hd => lineGrant_feed hn hm hh hf hp hr hd,
    fun p d s hn hs h hp hd hq => lineGrant_poll (grantLine_poll hn (grantablePoll_of_longest hs hp hd hq) h),
    fun s hn => noEffect_of_exec ?_⟩
  · have hdue : dueReached s.time d = true := decide_eq_true hlate
    have hreached : s.pollReached p = true := by simp [State.pollReached, hd, hdue, hst, hp, hs]
    refine ⟨_, by rw [exec_pollDue, if_pos hreached]; rfl, by simp [at_setStation],
      otherStationsKept_finish s (otherStationsKept_setStation s p _), by simp, (touches_setStation s p _).closed⟩
  · rw [exec_lineGrant, State.grantLine, if_pos (Option.isSome_iff_ne_none.2 hn)]

end Sys2Proof
end

section
/-! SUPPORT. The requests of the head sides (8.2): what a free side wants, and what it places. -/

namespace Sys2Proof

open Sys2Proof.Machine

theorem sideFree_iff (s : State) (p : Position) : s.sideFree p = true ↔ SideFree s p := by
  unfold State.sideFree SideFree
  cases s.line.transaction <;> simp [and_assoc]

theorem isVoid_iff (c : Content) : c.isVoid = true ↔ ∃ f, c = .void f := by cases c <;> simp [Content.isVoid]

theorem exec_headRequest (sides : HeadSides) (s : State) :
    exec (.headRequest sides) s = answer s
      (match sides with
        | .spreaderSide => s.spreaderRequest
        | .gripperSide => s.gripperRequest
        | .both => s.gripperRequest.spreaderRequest) := rfl

/-! ### The spreader side (R148) -/

theorem wantsSpread_of {s : State} {i : EntryIx} (hb : s.head.bay.state = .arrived) (hc : s.head.bay.content = .entry i)
    (h : s.seq.profile.earlySpread = true ∨ s.head.gripper.state = .empty) : s.wantsSpread = true := by
  rw [State.wantsSpread, hb, hc]
  simpa using h

/-- The state in which SPREAD has been placed. -/
def spreadPlaced (s : State) : State :=
  (s.putHead { s.head with bay := { s.head.bay with state := .spreading } }).placeHead .spread

theorem spreaderRequest_of_wants {s : State} (hf : SideFree s .spreader) (hw : s.wantsSpread = true) :
    s.spreaderRequest = spreadPlaced s := if_pos (by simp [(sideFree_iff s _).2 hf, hw])

theorem spreaderRequest_of_not_free {s : State} (h : ¬SideFree s .spreader) : s.spreaderRequest = s :=
  if_neg fun hc => h ((sideFree_iff s _).1 (Bool.and_eq_true_iff.1 hc).1)

theorem touches_placeHead (s : State) (c : StationCommand) : Touches [.line] [] s (s.placeHead c) := touches_withLine s _

theorem touches_spreadPlaced (s : State) : Touches [.line, .head] [] s (spreadPlaced s) :=
  (touches_putHead s _).mono.trans (touches_placeHead _ .spread).mono

/-! ### The gripper side (R150, R153, R155, R165) -/

theorem gripperRequest_of_not_free {s : State} (h : ¬SideFree s .gripper) : s.gripperRequest = s :=
  if_neg fun hc => h ((sideFree_iff s _).1 hc)

theorem gripperRequest_of_none {s : State} (h : s.gripperWants = none) : s.gripperRequest = s := by
  unfold State.gripperRequest
  rw [h]
  exact ite_self s

theorem gripperRequest_of_wants {s : State} {c : StationCommand} (hf : SideFree s .gripper) (hw : s.gripperWants = some c)
    (hc : c ≠ .take) : s.gripperRequest = s.placeHead c := by
  unfold State.gripperRequest
  rw [if_pos ((sideFree_iff s _).2 hf), hw]
  cases c with
  | take => exact absurd rfl hc
  | _ => rfl

/-- The state in which TAKE has been placed. -/
def takePlaced (s : State) : State :=
  (s.putHead { s.head with
    gripper := { Gripper.cleared with state := .taking, content := s.head.bay.content } }).placeHead .take

theorem gripperRequest_of_take {s : State} (hf : SideFree s .gripper) (hw : s.gripperWants = some .take) :
    s.gripperRequest = takePlaced s := by
  unfold State.gripperRequest
  rw [if_pos ((sideFree_iff s _).2 hf), hw]
  rfl

theorem nextRecord_of {s : State} {r : IssueRecord} (h : NextRecord s r) : s.nextRecord = some r := by
  obtain ⟨l1, l2, hl, h1, hr⟩ := h
  rw [State.nextRecord, List.find?_eq_some_iff_append]
  exact ⟨by simpa using hr, l1, l2, hl, fun x hx => by simpa using h1 x hx⟩

theorem wantsTake_of {s : State} {r : IssueRecord} (hg : s.head.gripper.state = .empty) (hb : s.head.bay.state = .spread)
    (hc : s.head.bay.content = .entry r.entry) (hr : NextRecord s r) (hm : s.control.manualGrant = false) :
    s.wantsTake = true := by
  rw [State.wantsTake, hg, hb, hc]
  simp [nextRecord_of hr, hm]

/-- TAKE is wanted of an entry's brick for an EMPTY gripper only. -/
theorem wantsTake_eq_false {s : State} (h : s.head.gripper.state ≠ .empty ∨ ∃ f, s.head.bay.content = .void f) :
    s.wantsTake = false := by
  unfold State.wantsTake
  split
  · rename_i hg _ hc
    rcases h with h | ⟨f, h⟩
    · exact absurd hg h
    · rw [hc] at h
      cases h
  · rfl

theorem gripperWants_take {s : State} (hg : s.head.gripper.state = .empty) (hw : s.wantsTake = true) :
    s.gripperWants = some .take := by simp [State.gripperWants, hg, hw]

/-- The command that a decision has left to be placed. -/
theorem gripperWants_decided {s : State} {i : EntryIx} {c : StationCommand} (hc : s.head.gripper.content = .entry i)
    (h : (s.head.gripper.state = .releasing ∧ c = .release) ∨ (s.head.gripper.state = .probing ∧ c = .probe)) :
    s.gripperWants = some c ∧ c ≠ .take ∧ c.onSide .spreader = false := by
  rcases h with ⟨hg, rfl⟩ | ⟨hg, rfl⟩
  · exact ⟨by simp [State.gripperWants, hg, hc, Content.isEntry], by decide, rfl⟩
  · exact ⟨by simp [State.gripperWants, hg, hc, Content.isEntry], by decide, rfl⟩

/-- The eject that a void brick wants, while the bin has room. -/
theorem gripperWants_eject {s : State} {f : Option EntryIx} {c : StationCommand}
    (h : (s.head.gripper.state = .holding ∧ s.head.gripper.content = .void f ∧ s.head.gripper.brick = true ∧
        c = .eject .gripper) ∨
      (GripperWantsNothing s ∧ (s.head.bay.state = .arrived ∨ s.head.bay.state = .spread) ∧
        s.head.bay.content = .void f ∧ c = .eject .bay)) :
    c ≠ .take ∧ s.gripperWants = if s.head.binCount < 12 then some c else none := by
  rcases h with ⟨hg, hc, hb, rfl⟩ | ⟨⟨hdecided, hheld⟩, hbay, hc, rfl⟩
  · refine ⟨by decide, ?_⟩
    have htake := wantsTake_eq_false (s := s) (.inl (by simp [hg]))
    have hgrip : s.wantsEjectGrip = true := by simp [State.wantsEjectGrip, hg, hc, hb, Content.isVoid]
    simp only [State.gripperWants, hg, htake, hgrip, reduceCtorEq, false_and, if_false, if_true]
    rfl
  · refine ⟨by decide, ?_⟩
    have htake := wantsTake_eq_false (s := s) (.inr ⟨f, hc⟩)
    have hentry : s.head.gripper.state = .releasing ∨ s.head.gripper.state = .probing →
        s.head.gripper.content.isEntry = false := fun h => by
      rw [← Bool.not_eq_true, isEntry_iff]
      rintro ⟨i, hi⟩
      exact hdecided h i hi
    have hrelease : ¬(s.head.gripper.state = .releasing ∧ s.head.gripper.content.isEntry = true) := fun h =>
      absurd (hentry (.inl h.1)) (by simp [h.2])
    have hprobe : ¬(s.head.gripper.state = .probing ∧ s.head.gripper.content.isEntry = true) := fun h =>
      absurd (hentry (.inr h.1)) (by simp [h.2])
    have hgrip : s.wantsEjectGrip = false := by
      rw [← Bool.not_eq_true]
      simp only [State.wantsEjectGrip, Bool.and_eq_true, decide_eq_true_eq, isVoid_iff]
      rintro ⟨⟨hs, g, hv⟩, hbrick⟩
      exact hheld hs hbrick g hv
    have hejects : s.wantsEjectBay = true := by simp [State.wantsEjectBay, hbay, hc, Content.isVoid]
    rw [State.gripperWants, if_neg hrelease, if_neg hprobe, htake, hgrip, hejects]
    rfl

theorem request_ejects {s : State} {f : Option EntryIx} {c : StationCommand} (hf : SideFree s .gripper)
    (h : (s.head.gripper.state = .holding ∧ s.head.gripper.content = .void f ∧ s.head.gripper.brick = true ∧
        c = .eject .gripper) ∨
      (GripperWantsNothing s ∧ (s.head.bay.state = .arrived ∨ s.head.bay.state = .spread) ∧
        s.head.bay.content = .void f ∧ c = .eject .bay)) :
    (s.head.binCount < 12 →
      ∃ t, exec (.headRequest .gripperSide) s = .next t ∧
        t.line = { s.line with headRequests := s.line.headRequests ++ [c] } ∧ KeptBut [.line] s t ∧
        CausesKeptBut [] s t) ∧
    (12 ≤ s.head.binCount → NoEffect (.headRequest .gripperSide) s) := by
  obtain ⟨hne, hwants⟩ := gripperWants_eject h
  refine ⟨fun hlt => ?_, fun hfull => noEffect_of_exec ?_⟩
  · rw [if_pos hlt] at hwants
    exact ⟨_, by rw [exec_headRequest, gripperRequest_of_wants hf hwants hne]; rfl, by simp [State.placeHead],
      (touches_placeHead s c).closed⟩
  · rw [if_neg (by omega)] at hwants
    rw [exec_headRequest]
    dsimp only
    rw [gripperRequest_of_none hwants]

/-- A command of the gripper leaves the spreader side free. -/
theorem sideFree_placeHead {s : State} {c : StationCommand} (h : SideFree s .spreader) (hc : c.onSide .spreader = false) :
    SideFree (s.placeHead c) .spreader := by
  obtain ⟨h1, h2, h3, h4⟩ := h
  refine ⟨fun x hx => ?_, h2, h3, h4⟩
  rcases List.mem_append.1 hx with hx | hx
  · exact h1 x hx
  · rw [List.mem_singleton.1 hx]
    exact hc

theorem request_both {i j : EntryIx} {c : StationCommand} {s : State} (hg : SideFree s .gripper)
    (hs : SideFree s .spreader) (hc : s.head.gripper.content = .entry j)
    (hd : (s.head.gripper.state = .releasing ∧ c = .release) ∨ (s.head.gripper.state = .probing ∧ c = .probe))
    (hb : s.head.bay.state = .arrived) (hbc : s.head.bay.content = .entry i) (he : s.seq.profile.earlySpread = true) :
    ∃ t, exec (.headRequest .both) s = .next t ∧
      t.line = { s.line with headRequests := s.line.headRequests ++ [c, .spread] } ∧
      t.head = { s.head with bay := { s.head.bay with state := .spreading } } ∧ KeptBut [.line, .head] s t ∧
      CausesKeptBut [] s t := by
  obtain ⟨hwants, hne, hside⟩ := gripperWants_decided hc hd
  have hspread : (s.placeHead c).wantsSpread = true := wantsSpread_of (s := s.placeHead c) hb hbc (.inl he)
  have hexec : exec (.headRequest .both) s = answer s (spreadPlaced (s.placeHead c)) := by
    rw [exec_headRequest]
    dsimp only
    rw [gripperRequest_of_wants hg hwants hne, spreaderRequest_of_wants (sideFree_placeHead hs hside) hspread]
  refine ⟨_, hexec, ?_, ?_, ((touches_placeHead s c).mono.trans (touches_spreadPlaced _)).closed⟩
  · simp [spreadPlaced, State.placeHead]
  · simp [spreadPlaced, State.placeHead]

/-- Settles O44: what each free side places, and that a side which is not free places nothing. -/
theorem headSidesPlaceTheirCommands : Obligations.HeadSidesPlaceTheirCommands := by
  refine ⟨fun i s hf hb hc he => ?_, fun r s hf hg hb hc hr hm => ?_, fun i c s hf hc hd => ?_,
    fun f c s hf h => request_ejects hf h, fun i j c s hg hs hc hd hb hbc he => request_both hg hs hc hd hb hbc he,
    fun s => ⟨fun h => noEffect_of_exec ?_, fun h => noEffect_of_exec ?_, fun h1 h2 => noEffect_of_exec ?_⟩⟩
  · refine ⟨_, by rw [exec_headRequest, spreaderRequest_of_wants hf (wantsSpread_of hb hc he)]; rfl, ?_, ?_,
      (touches_spreadPlaced s).closed⟩
    · simp [spreadPlaced, State.placeHead]
    · simp [spreadPlaced, State.placeHead]
  · have hwants := gripperWants_take hg (wantsTake_of hg hb hc hr hm)
    refine ⟨_, by rw [exec_headRequest, gripperRequest_of_take hf hwants]; rfl, ?_, ?_,
      ((touches_putHead s _).mono.trans (touches_placeHead _ .take).mono).closed⟩
    · simp [State.placeHead, hc]
    · simp [State.placeHead]
  · obtain ⟨hwants, hne, -⟩ := gripperWants_decided hc hd
    exact ⟨_, by rw [exec_headRequest, gripperRequest_of_wants hf hwants hne]; rfl, by simp [State.placeHead],
      (touches_placeHead s c).closed⟩
  · rw [exec_headRequest]
    exact congrArg _ (spreaderRequest_of_not_free h)
  · rw [exec_headRequest]
    exact congrArg _ (gripperRequest_of_not_free h)
  · rw [exec_headRequest]
    dsimp only
    rw [gripperRequest_of_not_free h2, spreaderRequest_of_not_free h1]

end Sys2Proof
end

section
/-! SUPPORT. The latch of the profile (1.6) and the words that the host writes while it runs. -/

namespace Sys2Proof

open Sys2Proof.Machine

theorem profileAddr_aligned (f : ProfileField) : profileAddr f % 4 = 0 := by cases f <;> rfl

theorem profileAddr_injective {f g : ProfileField} (h : profileAddr f = profileAddr g) : f = g := by
  cases f <;> cases g <;> simp [profileAddr] at h ⊢

theorem profileAddr_apart {f g : ProfileField} (h : f ≠ g) :
    profileAddr f + 4 ≤ profileAddr g ∨ profileAddr g + 4 ≤ profileAddr f := by
  have hne := mt profileAddr_injective h
  have hf := profileAddr_aligned f
  have hg := profileAddr_aligned g
  omega

/-- The word just written by the first of a run of writes. -/
theorem writtenWord_cons (w : LatchWrite) (ws : List LatchWrite) (f : ProfileField) (old : Word) :
    writtenWord (w :: ws) f old = writtenWord ws f (if w.field = f then w.value else old) := by
  unfold writtenWord
  by_cases h : w.field = f
  · rw [List.filter_cons_of_pos (by simpa using h), List.getLast?_cons, if_pos h]
    cases (ws.filter fun w => w.field = f).getLast? <;> rfl
  · rw [List.filter_cons_of_neg (by simpa using h), if_neg h]

/-- The profile words after a run of host writes to them. -/
theorem word_writeProfile (f : ProfileField) (ws : List LatchWrite) {s : State} (hw : BookWf s) :
    (ws.foldl State.writeProfile s).word (profileAddr f) = writtenWord ws f (s.word (profileAddr f)) := by
  induction ws generalizing s with
  | nil => rfl
  | cons w ws ih =>
    have hwf : BookWf (s.writeProfile w) := State.setWord_wf s _ _ (profileAddr_fits w.field) hw
    rw [List.foldl_cons, ih hwf, writtenWord_cons]
    congr 1
    by_cases h : w.field = f
    · rw [if_pos h, ← h]
      exact State.word_setWord s _ _ hw (profileAddr_fits _)
    · rw [if_neg h]
      exact State.word_setWord_ne s _ _ _ hw (profileAddr_fits _) (profileAddr_apart h).symm

theorem word_asLatched {s : State} (hw : BookWf s) (during : List LatchWrite) (f : ProfileField) :
    (s.asLatched during).word (profileAddr f) = latchedWord s during f := word_writeProfile f _ hw

/-! ### The fields as they are clamped (R18) -/

theorem clamped_profileInt {s : State} {f : ProfileField} {v : Word} {lo hi : Int} (h : lo ≤ hi)
    (hv : s.word (profileAddr f) = v) : Clamped lo hi v.toInt (s.profileInt f lo hi) := by
  rw [← hv]
  exact clamped_clampInt h _

theorem clamped_profileNat {s : State} {f : ProfileField} {v : Word} {lo hi : Nat} (h : lo ≤ hi)
    (hv : s.word (profileAddr f) = v) : Clamped lo hi v.toInt (s.profileNat f lo hi : Nat) := by
  have hb := profileInt_bounds (lo := lo) (hi := hi) s f (by omega)
  rw [State.profileNat, Int.toNat_of_nonneg (by omega)]
  exact clamped_profileInt (by omega) hv

theorem clamped_unique {lo hi x y z : Int} (h : lo ≤ hi) (h1 : Clamped lo hi x y) (h2 : Clamped lo hi x z) : y = z := by
  unfold Clamped at h1 h2
  omega

theorem unsteadyOff_spec {s : State} {v : Word} {on : Nat} (hv : s.word (profileAddr .unsteadyOff) = v) (hon : 1 ≤ on) (off : Int)
    (h : Clamped 0 15 v.toInt off) :
    (off < on → (unsteadyOffOf on (s.profileNat .unsteadyOff 0 15) : Int) = off) ∧
      ((on : Int) ≤ off → (unsteadyOffOf on (s.profileNat .unsteadyOff 0 15) : Int) = on - 1) := by
  have heq : off = (s.profileNat .unsteadyOff 0 15 : Nat) :=
    clamped_unique (by decide) h (clamped_profileNat (lo := 0) (hi := 15) (by decide) hv)
  rw [heq]
  unfold unsteadyOffOf
  split <;> omega

/-- Settles O20, field by field. -/
theorem latchTakesTheClampedProfile : Obligations.LatchTakesTheClampedProfile := by
  intro during s v p hw hv hp
  have hword : ∀ f, (s.asLatched during).word (profileAddr f) = v f := fun f => by rw [hv, word_asLatched hw]
  rw [hp, State.latchedProfile]
  generalize s.asLatched during = u at *
  have hon := profileNat_bounds (lo := 2) (hi := 16) u .unsteadyOn (by decide)
  have hint : ∀ f lo hi, lo ≤ hi → Clamped lo hi (v f).toInt (u.profileInt f lo hi) := fun f _ _ h =>
    clamped_profileInt h (hword f)
  have hnat : ∀ f (lo hi : Nat), lo ≤ hi → Clamped lo hi (v f).toInt (u.profileNat f lo hi : Nat) := fun f _ _ h =>
    clamped_profileNat h (hword f)
  refine ⟨⟨hint _ _ _ (by decide), hint _ _ _ (by decide), hint _ _ _ (by decide)⟩,
    ⟨hint _ _ _ (by decide), hint _ _ _ (by decide), hint _ _ _ (by decide)⟩,
    ⟨hint _ _ _ (by decide), hint _ _ _ (by decide)⟩,
    ⟨hnat _ 1 63 (by decide), hnat _ 100 60000 (by decide), hnat _ 16 1024 (by decide), hnat _ 3 14 (by decide),
      hnat _ 0 60000 (by decide)⟩,
    ⟨hnat _ 2 16 (by decide), fun off h => unsteadyOff_spec (hword _) (Nat.le_of_succ_le hon.1) off h⟩,
    ⟨hnat _ 10 900 (by decide), hnat _ 2 60 (by decide), hnat _ 5 100 (by decide), hint _ _ _ (by decide),
      hint _ _ _ (by decide)⟩,
    ⟨fun h => ?_, fun h => ?_, fun h1 h2 => ?_⟩, ⟨fun h => ?_, fun h => ?_⟩, ?_⟩
  · simp [State.readProfile, recoveryModeOf, hword, h]
  · simp [State.readProfile, recoveryModeOf, hword, h]
  · change recoveryModeOf (u.word (profileAddr .recoveryMode)) = _
    rw [hword, recoveryModeOf, if_neg h1, if_neg h2]
  · simp [State.readProfile, preferredFeederOf, hword, h]
  · change preferredFeederOf (u.word (profileAddr .preferredFeeder)) = _
    rw [hword, preferredFeederOf, if_neg h]
  · simp [State.readProfile, hword]

end Sys2Proof
end

section
/-! SUPPORT. The host's reads (1.1, 1.7, 10.1 to 10.3, 11.5): registers, the book's words and the fields of the status block. -/

namespace Sys2Proof

open Sys2Proof.Machine

/-! ### Lanes -/

theorem laneMask_bit (lanes : BitVec 4) {n : Nat} (h : n < 32) :
    (laneMask lanes).getLsbD n = lanes.getLsbD (n / 8) := by
  have key : ∀ (l : BitVec 4) (m : Fin 32), (laneMask l).getLsbD m.val = l.getLsbD (m.val / 8) := by decide
  exact key lanes ⟨n, h⟩

/-! ### Registers -/

theorem flagBit_toNat (b : Bool) {n : Nat} (h : n < 32) : (flagBit b n).toNat = bitValue b n := by
  have key : ∀ (b : Bool) (m : Fin 32), (flagBit b m.val).toNat = bitValue b m.val := by decide
  exact key b ⟨n, h⟩

theorem stateRegister_toNat (s : State) :
    s.stateRegister.toNat =
      (match s.control.state with
        | .init => 0 | .idle => 1 | .run => 2 | .drain => 3 | .halt => 4) +
      bitValue s.control.manualGrant 8 + bitValue s.cal.valid 9 + bitValue s.cal.busy 10 +
      bitValue s.control.emergency 11 + bitValue s.line.complete 12 := by
  unfold State.stateRegister
  generalize s.control.manualGrant = a
  generalize s.cal.valid = b
  generalize s.cal.busy = c
  generalize s.control.emergency = d
  generalize s.line.complete = e
  cases s.control.state
  all_goals revert a b c d e
  all_goals decide

/-! ### Fields of a status word -/

/-- The fields of a word that packs a byte, a byte and a half. -/
theorem field_pack8 {a b : Nat} (ha : a < 256) (hb : b < 2 ^ 24) :
    field (BitVec.ofNat 32 (a + b * 256)) 0 8 = a ∧ field (BitVec.ofNat 32 (a + b * 256)) 8 24 = b := by
  rw [field_eq, field_eq, BitVec.toNat_ofNat]
  omega

theorem field_pack88 {a b c : Nat} (ha : a < 256) (hb : b < 256) (hc : c < 65536) :
    field (BitVec.ofNat 32 (a + b * 256 + c * 65536)) 0 8 = a ∧
      field (BitVec.ofNat 32 (a + b * 256 + c * 65536)) 8 8 = b ∧
      field (BitVec.ofNat 32 (a + b * 256 + c * 65536)) 16 16 = c ∧
      field (BitVec.ofNat 32 (a + b * 256 + c * 65536)) 16 8 = c % 256 ∧
      field (BitVec.ofNat 32 (a + b * 256 + c * 65536)) 24 8 = c / 256 := by
  simp only [field_eq, BitVec.toNat_ofNat]
  omega

theorem showsIndex_indexWord (x : Option EntryIx) : ShowsIndex (indexWord x) x := by
  refine ⟨fun h => by rw [h]; rfl, fun i h => ?_⟩
  have := i.isLt
  rw [h, indexWord, field_eq, field_eq, BitVec.toNat_ofNat]
  omega

theorem showsContent_contentWord (c : Content) : ShowsContent (contentWord c) c := by
  refine ⟨fun h => by rw [h]; rfl, fun i h => ?_, fun i h => ?_, fun h => by rw [h]; decide⟩
  · have := i.isLt
    rw [h, contentWord, field_eq, field_eq, BitVec.toNat_ofNat]
    omega
  · have := i.isLt
    rw [h, contentWord, field_eq, field_eq, BitVec.toNat_ofNat]
    omega

theorem operationCode_lt (o : Outstanding) : operationCode o < 256 := by
  unfold operationCode
  split
  · decide
  · exact (commandCode _).isLt
  · decide

theorem showsStation_words (x : Station) : ShowsStation (stationWordA x.shown) (stationWordB x.shown) x := by
  have hkind : kindCode x.shown.kind < 256 := by cases h : x.shown.kind <;> decide
  have hstate : stationStateCode x.shown.state < 256 := by cases h : x.shown.state <;> decide
  have hop := operationCode_lt x.shown.operation
  obtain ⟨h1, h2, -, h4, h5⟩ := field_pack88 hkind hstate (show operationCode x.shown.operation < 65536 by omega)
  refine ⟨h1.trans ?_, h2.trans ?_, (h4.trans (Nat.mod_eq_of_lt hop)).trans ?_, h5.trans (Nat.div_eq_of_lt hop), rfl⟩
  · change kindCode x.kind = _
    cases x.kind <;> rfl
  · change stationStateCode x.state = _
    cases x.state <;> rfl
  · change operationCode x.operation = _
    cases x.operation with
    | command c => cases c <;> rfl
    | _ => rfl

/-! ### The words of the status block -/

theorem hostReadWord_book {s : State} {a : Nat} (h : a < 0x0500 ∨ 0x0600 ≤ a) : s.hostReadWord a = s.word a :=
  if_neg (by simp only [inStatusBlock, decide_eq_true_eq]; omega)

theorem hostReadWord_count (s : State) : s.hostReadWord 0x0500 = s.status.count := rfl

theorem hostReadWord_status {s : State} (hs : s.status.fields = s.statusNow) {j : Nat} (hj : j < 63) :
    s.hostReadWord (0x0504 + 4 * j) = (s.statusNow.words[j]?).getD 0 := by
  have hdiv : (0x0504 + 4 * j - 0x0504) / 4 = j := by omega
  rw [State.hostReadWord, if_pos (by simp only [inStatusBlock, decide_eq_true_eq]; omega), if_neg (by omega), hs, hdiv]

/-- Every status word, by its place in the block. -/
theorem hostReadWord_at {s : State} (hs : s.status.fields = s.statusNow) (j : Nat) {a : Nat} (w : Word) (hj : j < 63)
    (ha : a = 0x0504 + 4 * j) (hw : s.statusNow.words[j]? = some w) : s.hostReadWord a = w := by
  rw [ha, hostReadWord_status hs hj, hw]
  rfl

theorem trackingCode_lt (x : TrackingState) : trackingCode x < 2 ^ 24 := by cases x <;> decide

theorem gripperCode_lt (x : GripperState) : gripperCode x < 2 ^ 24 := by cases x <;> decide

theorem bayCode_lt (x : BayState) : bayCode x < 256 := by cases x <;> decide

theorem supplyCode_lt (x : Supply) : supplyCode x < 65536 := by cases x <;> decide

theorem supply_starved {s : State} (h : s.issue.starved = true) : s.supply = .starved := by simp [State.supply, h]

theorem supply_held {s : State} (h : s.issue.starved = false) (hf : ∃ f, (s.line.at (feederPosition f)).state = .held) :
    s.supply = .held := by
  have hor : s.line.feederA.state = .held ∨ s.line.feederB.state = .held := by
    obtain ⟨f, hf⟩ := hf
    cases f
    · exact .inl hf
    · exact .inr hf
  simp [State.supply, h, hor]

theorem supply_ready {s : State} (h : s.issue.starved = false) (hf : ∀ f, (s.line.at (feederPosition f)).state ≠ .held) :
    s.supply = .ready := by
  have hor : ¬(s.line.feederA.state = .held ∨ s.line.feederB.state = .held) := fun ho => ho.elim (hf .a) (hf .b)
  simp [State.supply, h, hor]

theorem train_word {s : State} (hs : s.status.fields = s.statusNow) (hq : s.train.queue.length < 256) :
    field (s.hostReadWord 0x0510) 0 8 = s.train.queue.length ∧
      field (s.hostReadWord 0x0510) 8 8 = (s.train.queue.filter fun c => c.content = none).length ∧
      field (s.hostReadWord 0x0510) 16 16 = supplyCode s.supply := by
  have hvoids : s.train.voids < 256 := lt_of_le_of_lt (List.length_filter_le _ _) hq
  obtain ⟨h1, h2, h3, -⟩ := field_pack88 hq hvoids (supplyCode_lt s.supply)
  rw [hostReadWord_at hs 3 _ (by decide) rfl rfl]
  exact ⟨h1, h2, h3⟩

/-- The words beyond the fields read 0. -/
theorem hostReadWord_rest {s : State} (hs : s.status.fields = s.statusNow) {j : Nat} (hj : j < 31) :
    s.hostReadWord (0x0584 + 4 * j) = 0 := by
  have hlen : s.statusNow.words.length = 32 := rfl
  have ha : 0x0584 + 4 * j = 0x0504 + 4 * (32 + j) := by omega
  rw [ha, hostReadWord_status hs (by omega), List.getElem?_eq_none (by omega)]
  rfl

/-- Settles O19: the registers, the lanes, the book and the status block. -/
theorem hostReadsShowTheState : Obligations.HostReadsShowTheState := by
  refine ⟨fun s => ⟨rfl, flagBit_toNat _ (by decide), stateRegister_toNat s, rfl, rfl, rfl, rfl, rfl⟩,
    fun s r a n lanes hn => ⟨?_, ?_⟩, fun s a ha => hostReadWord_book ha, fun s hs => ?_⟩
  · rw [State.readRegisterBytes, BitVec.getLsbD_and, laneMask_bit lanes hn]
  · rw [State.hostRead, BitVec.getLsbD_and, laneMask_bit lanes hn]
  have hat := fun (j : Nat) (a : Nat) (w : Word) => hostReadWord_at hs (a := a) j w
  have hpointer : (BitVec.ofNat 32 s.seq.pointer.val : Word).toNat = s.seq.pointer.val := by
    have := s.seq.pointer.isLt
    rw [BitVec.toNat_ofNat]
    omega
  refine ⟨hostReadWord_count s, ?_, ?_, hat 2 _ _ (by decide) rfl rfl, fun hq => ?_, ?_, fun hb => ?_, ?_, ?_, ?_, ?_, ?_, ?_,
    ?_, ?_, ?_, ?_, ?_, hat 30 _ _ (by decide) rfl rfl, ?_, fun j hj => hostReadWord_rest hs hj⟩
  · rw [hat 0 _ _ (by decide) rfl rfl]
    exact hpointer
  · rw [hat 1 _ _ (by decide) rfl rfl]
    exact BitVec.toNat_setWidth_of_le (by decide)
  · obtain ⟨h1, h2, h3⟩ := train_word hs hq
    refine ⟨h1, h2, fun h => ?_, fun h hf => ?_, fun h hf => ?_⟩
    · rw [h3, supply_starved h]
      rfl
    · rw [h3, supply_held h hf]
      rfl
    · rw [h3, supply_ready h hf]
      rfl
  · rw [hat 4 _ _ (by decide) rfl rfl]
    exact showsIndex_indexWord _
  · rw [hat 5 _ _ (by decide) rfl rfl]
    obtain ⟨h1, h2⟩ := field_pack8 hb (trackingCode_lt s.tracker.state)
    refine ⟨h1, h2.trans ?_⟩
    cases s.tracker.state <;> rfl
  · exact ⟨hat 6 _ _ (by decide) rfl rfl, hat 7 _ _ (by decide) rfl rfl, hat 8 _ _ (by decide) rfl rfl,
      hat 9 _ _ (by decide) rfl rfl, hat 10 _ _ (by decide) rfl rfl, hat 11 _ _ (by decide) rfl rfl,
      hat 12 _ _ (by decide) rfl rfl, hat 13 _ _ (by decide) rfl rfl⟩
  · exact ⟨hat 14 _ _ (by decide) rfl rfl, hat 15 _ _ (by decide) rfl rfl, hat 16 _ _ (by decide) rfl rfl,
      hat 17 _ _ (by decide) rfl rfl⟩
  · rw [hat 18 _ _ (by decide) rfl rfl]
    change (BitVec.ofNat 32 (classCode s.tracker.lastClass)).toNat = _
    cases s.tracker.lastClass with
    | none => rfl
    | some c => cases c <;> rfl
  · rw [hat 19 _ _ (by decide) rfl rfl, hat 20 _ _ (by decide) rfl rfl]
    exact showsStation_words _
  · rw [hat 21 _ _ (by decide) rfl rfl, hat 22 _ _ (by decide) rfl rfl]
    exact showsStation_words _
  · rw [hat 23 _ _ (by decide) rfl rfl, hat 24 _ _ (by decide) rfl rfl]
    exact showsStation_words _
  · rw [hat 25 _ _ (by decide) rfl rfl, hat 26 _ _ (by decide) rfl rfl]
    exact showsStation_words _
  · rw [hat 27 _ _ (by decide) rfl rfl]
    refine (field_pack8 (bayCode_lt s.head.bay.state) (gripperCode_lt s.head.gripper.state)).1.trans ?_
    cases s.head.bay.state <;> rfl
  · rw [hat 27 _ _ (by decide) rfl rfl]
    refine (field_pack8 (bayCode_lt s.head.bay.state) (gripperCode_lt s.head.gripper.state)).2.trans ?_
    cases s.head.gripper.state <;> rfl
  · rw [hat 28 _ _ (by decide) rfl rfl]
    exact showsContent_contentWord _
  · rw [hat 29 _ _ (by decide) rfl rfl]
    exact showsContent_contentWord _
  · rw [hat 31 _ _ (by decide) rfl rfl]
    exact showsIndex_indexWord _

end Sys2Proof
end

section
/-! SUPPORT. The receiver and the tracking unit (chapter 6): bytes, frames, the vote and the tracking state. -/

namespace Sys2Proof

open Sys2Proof.Machine

/-! ### The receiver (R105) -/

/-- The receiver holds these bytes, and nothing else is changed. -/
def collecting (s : State) (c : List Byte) : State := s.withTracker { s.tracker with collected := c }

theorem takeByte_collects {s : State} {c : List Byte} (b : Byte) (hc : c ≠ []) (hlt : c.length + 1 < 18) :
    (collecting s c).takeByte b = collecting s (c ++ [b]) := by
  obtain ⟨x, c, rfl⟩ := List.exists_cons_of_ne_nil hc
  have hlen : ((x :: c) ++ [b]).length ≠ frameLength := by
    simp only [List.length_append, List.length_cons, List.length_nil, frameLength] at hlt ⊢
    omega
  exact if_neg hlen

theorem foldl_takeByte_collects (s : State) (l c : List Byte) (hc : c ≠ []) (hlt : c.length + l.length < 18) :
    l.foldl State.takeByte (collecting s c) = collecting s (c ++ l) := by
  induction l generalizing c with
  | nil => simp
  | cons b l ih =>
    rw [List.length_cons] at hlt
    rw [List.foldl_cons, takeByte_collects b hc (by omega), ih (c ++ [b]) (by simp) (by simp; omega), List.append_assoc]
    rfl

theorem takeByte_sync {s : State} (h : s.tracker.collected = []) : s.takeByte syncByte = collecting s [syncByte] := by
  rw [State.takeByte, h]
  exact if_pos rfl

/-- Bytes that do not fill a frame are collected. -/
theorem foldl_takeByte_sync {s : State} {l : List Byte} (h : s.tracker.collected = []) (hlt : l.length < 17) :
    (syncByte :: l).foldl State.takeByte s = collecting s (syncByte :: l) := by
  rw [List.foldl_cons, takeByte_sync h, foldl_takeByte_collects s l [syncByte] (by simp) (by simp; omega)]
  rfl

theorem noteSequence_collecting (s : State) (c : List Byte) (q : Byte) :
    (collecting s c).tracker.noteSequence q = { s.tracker.noteSequence q with collected := c } := by
  unfold Tracker.noteSequence
  cases h : s.tracker.sequence <;> simp [collecting, h]

/-- What a frame does depends on no byte collected before it. -/
theorem takeFrame_collecting (s : State) (c bytes : List Byte) : (collecting s c).takeFrame bytes = s.takeFrame bytes := by
  unfold State.takeFrame
  cases judgeFrame bytes with
  | malformed => rfl
  | nofix q =>
    dsimp only
    rw [noteSequence_collecting]
    rfl
  | fix q h =>
    dsimp only
    rw [noteSequence_collecting]
    rfl

/-- A frame that arrives whole at a hunting receiver is judged. -/
theorem takeBytes_of_arrives {s : State} {bytes : List Byte} {x : FrameContent} (h : FrameArrives s bytes x) :
    s.takeBytes bytes = s.takeFrame bytes := by
  obtain ⟨hr, hc, hlen, hsync, -⟩ := h
  obtain ⟨b, l, rfl⟩ : ∃ b l, bytes = b :: l := List.exists_cons_of_length_pos (by omega)
  obtain rfl : b = syncByte := Option.some.inj hsync
  obtain ⟨front, last, rfl⟩ : ∃ front last, l = front ++ [last] :=
    ⟨l.dropLast, l.getLast (by rintro rfl; simp at hlen), (List.dropLast_append_getLast _).symm⟩
  simp only [List.length_cons, List.length_append, List.length_nil] at hlen
  have hfront := foldl_takeByte_sync (l := front) hc (by omega)
  have hlast : (collecting s (syncByte :: front)).takeByte last = (collecting s (syncByte :: front)).takeFrame
      ((syncByte :: front) ++ [last]) := by
    have hfull : (syncByte :: front ++ [last]).length = frameLength := by
      simp only [List.length_append, List.length_cons, List.length_nil, frameLength]
      omega
    exact if_pos hfull
  rw [State.takeBytes, if_pos hr, ← List.cons_append, List.foldl_append, hfront, List.foldl_cons, List.foldl_nil, hlast,
    takeFrame_collecting]

theorem exec_trackerFrame (bytes : List Byte) (s : State) : exec (.trackerFrame bytes) s = answer s (s.takeBytes bytes) := rfl

theorem exec_trackerByteGap (bytes : List Byte) (s : State) :
    exec (.trackerByteGap bytes) s = answer s (s.takeBytes bytes).byteGap := rfl

theorem exec_trackerFrame_arrives {s : State} {bytes : List Byte} {x : FrameContent} (h : FrameArrives s bytes x) :
    exec (.trackerFrame bytes) s = answer s (s.takeFrame bytes) := by
  rw [exec_trackerFrame, takeBytes_of_arrives h]

/-! ### Frames that yield no sample (R106, R107) -/

theorem touches_showTracking (s : State) : Touches [] [] s s.showTracking :=
  touches_of_frame (by simp [keptBut_iff]) (by simp) (by simp)

/-- An update of the tracking unit, shown in the status block. -/
theorem touches_trackerShown (s : State) (x : Tracker) : Touches [.tracker] [] s (s.withTracker x).showTracking :=
  (touches_withTracker s x).trans (touches_showTracking _).mono

theorem frame_malformed {bytes : List Byte} {s : State} (h : FrameArrives s bytes .malformed) :
    ∃ t, exec (.trackerFrame bytes) s = .next t ∧ t.tracker.malformed = s.tracker.malformed + 1 ∧
      t.tracker = { s.tracker with malformed := t.tracker.malformed, collected := t.tracker.collected } ∧
      KeptBut [.tracker] s t ∧ CausesKeptBut [] s t := by
  have hframe : s.takeFrame bytes = (s.withTracker
      { s.tracker with
        malformed := s.tracker.malformed + 1
        collected := (bytes.drop 1).dropWhile fun b => b ≠ syncByte }).showTracking := by
    rw [State.takeFrame, h.2.2.2.2]
  exact ⟨_, by rw [exec_trackerFrame_arrives h, hframe]; rfl, by simp, by simp, (touches_trackerShown s _).closed⟩

theorem noteSequence_eq (t : Tracker) (q : Byte) :
    t.noteSequence q = { t with sequence := some q, gaps := (t.noteSequence q).gaps } := by
  unfold Tracker.noteSequence
  split <;> rfl

theorem noteSequence_gaps (s : State) (q : Byte) :
    (s.tracker.noteSequence q).gaps = s.tracker.gaps + (if breaksSequence s q then 1 else 0) := by
  unfold Tracker.noteSequence breaksSequence
  cases s.tracker.sequence with
  | none => simp
  | some r =>
    by_cases h : q = r + 1
    · simp [h]
    · dsimp only
      rw [if_neg h, if_pos (decide_eq_true h)]

theorem frame_nofix {bytes : List Byte} {n : Byte} {s : State} (h : FrameArrives s bytes (.nofix n)) :
    ∃ t, exec (.trackerFrame bytes) s = .next t ∧
      t.tracker = { s.tracker with
        collected := [], sequence := some n, nofix := s.tracker.nofix + 1, gaps := t.tracker.gaps } ∧
      t.tracker.gaps = s.tracker.gaps + (if breaksSequence s n then 1 else 0) ∧
      KeptBut [.tracker] s t ∧ CausesKeptBut [] s t := by
  have hframe : s.takeFrame bytes = (s.withTracker
      { s.tracker.noteSequence n with
        nofix := (s.tracker.noteSequence n).nofix + 1, collected := [] }).showTracking := by
    rw [State.takeFrame, h.2.2.2.2]
  refine ⟨_, by rw [exec_trackerFrame_arrives h, hframe]; rfl, ?_, ?_, (touches_trackerShown s _).closed⟩
  · simp only [finish_frame, State.showTracking_frame]
    rw [noteSequence_eq]
    rfl
  · simpa using noteSequence_gaps s n

/-! ### A sample (R109 to R117) -/

/-- The tracking state at which a sample is judged: a FIX frame in LOST has made it ACQUIRING. -/
def enteredState (st : TrackingState) : TrackingState := if st = .lost then .acquiring else st

theorem enteredState_ne_lost (st : TrackingState) : enteredState st ≠ .lost := by
  unfold enteredState
  split
  · decide
  · assumption

theorem enteredState_eq_tracking_iff (st : TrackingState) : enteredState st = .tracking ↔ st = .tracking := by
  cases st <;> decide

theorem leaveLost_tracker (s : State) :
    s.leaveLost.tracker = { s.tracker with
      state := enteredState s.tracker.state
      lossTimer := if s.tracker.state = .lost then some 0 else s.tracker.lossTimer } := by
  unfold State.leaveLost enteredState
  split <;> simp [*]

theorem leaveLost_head (s : State) :
    s.leaveLost.head = if s.tracker.state = .lost then { s.head with restartTimer := none } else s.head := by
  unfold State.leaveLost
  split <;> simp

theorem touches_leaveLost (s : State) : Touches [.tracker, .head] [] s s.leaveLost := by
  unfold State.leaveLost
  split
  · exact (touches_withTracker s _).mono.trans (touches_withHead _ _).mono
  · exact .refl _ _ s

/-- The class of a sample taken now. -/
def sampleClass (s : State) (h : Pose) : SampleClass := voteClass s.seq.profile s.tracker.history ⟨h, s.time⟩

/-- The tracking unit after a sample. -/
def sampledTracker (s : State) (h : Pose) : Tracker := s.leaveLost.tracker.takeSample s.seq.profile ⟨h, s.time⟩

/-- A sample once the tracking unit has done its own work, before what it hands on. -/
def sampled (s : State) (h : Pose) : State :=
  let s2 := (s.leaveLost.withTracker (sampledTracker s h)).showTracking
  let s3 := if (sampledTracker s h).state = .unsteady ∧ s.leaveLost.tracker.state ≠ .unsteady then s2.raise .unsteady else s2
  if s.leaveLost.tracker.state = .tracking ∧ (sampledTracker s h).state ≠ .tracking then s3.zeroSettle else s3

theorem takeSample_eq (s : State) (h : Pose) :
    s.takeSample h =
      if sampleClass s h = .unstable then (sampled s h).zeroSettle
      else if (sampleClass s h).usable then (sampled s h).usableSample h
      else sampled s h := by
  have hc : voteClass s.leaveLost.seq.profile s.leaveLost.tracker.history ⟨h, s.time⟩ = sampleClass s h := by
    simp [sampleClass, leaveLost_tracker]
  have ht : s.leaveLost.tracker.takeSample s.leaveLost.seq.profile ⟨h, s.time⟩ = sampledTracker s h := by
    simp [sampledTracker]
  unfold State.takeSample
  dsimp only
  rw [hc, ht]
  rfl

theorem sampledTracker_eq (s : State) (h : Pose) :
    sampledTracker s h =
      { s.leaveLost.tracker.countClass (sampleClass s h) with
        history := voteHistory s.tracker.history (sampleClass s h) ⟨h, s.time⟩
        window := appendWindow s.tracker.window (sampleClass s h)
        lossTimer := if (sampleClass s h).usable then some 0 else s.leaveLost.tracker.lossTimer
        state := nextTracking s.seq.profile (enteredState s.tracker.state) (sampleClass s h)
          (badCount (appendWindow s.tracker.window (sampleClass s h)))
        lastPose := h
        lastClass := some (sampleClass s h) } := by
  have hh : s.leaveLost.tracker.history = s.tracker.history := by rw [leaveLost_tracker]
  have hw : s.leaveLost.tracker.window = s.tracker.window := by rw [leaveLost_tracker]
  have hs : s.leaveLost.tracker.state = enteredState s.tracker.state := by rw [leaveLost_tracker]
  unfold sampledTracker Tracker.takeSample
  rw [hh, hw, hs]
  rfl

theorem sampled_tracker (s : State) (h : Pose) : (sampled s h).tracker = sampledTracker s h := by
  unfold sampled
  dsimp only
  split <;> split <;> simp

theorem sampled_head (s : State) (h : Pose) : (sampled s h).head = s.leaveLost.head := by
  unfold sampled
  dsimp only
  split <;> split <;> simp

theorem sampled_trim (s : State) (h : Pose) :
    (sampled s h).trim = if s.tracker.state = .tracking ∧ (sampledTracker s h).state ≠ .tracking then
      { s.trim with settleCount := 0 } else s.trim := by
  have hs : s.leaveLost.tracker.state = .tracking ↔ s.tracker.state = .tracking := by
    rw [leaveLost_tracker]
    exact enteredState_eq_tracking_iff _
  unfold sampled
  simp only [hs]
  split <;> split <;> simp [State.zeroSettle]

theorem sampled_frame (s : State) (h : Pose) :
    (sampled s h).seq = s.seq ∧ (sampled s h).control = s.control ∧ (sampled s h).book = s.book ∧
      (sampled s h).time = s.time := by
  unfold sampled
  dsimp only
  split <;> split <;> simp

theorem touches_zeroSettle_trim (s : State) : Touches [.trim] [] s s.zeroSettle := touches_withTrim s _

theorem touches_sampled (s : State) (h : Pose) : Touches [.tracker, .trim, .head] [.unsteady] s (sampled s h) := by
  have hshown : Touches [.tracker, .trim, .head] [.unsteady] s (s.leaveLost.withTracker (sampledTracker s h)).showTracking :=
    (touches_leaveLost s).mono.trans (touches_trackerShown _ _).mono
  unfold sampled
  dsimp only
  split <;> split
  · exact (hshown.trans (touches_raise _ .unsteady).mono).trans (touches_zeroSettle_trim _).mono
  · exact hshown.trans (touches_zeroSettle_trim _).mono
  · exact hshown.trans (touches_raise _ .unsteady).mono
  · exact hshown

theorem sampled_unsteady (s : State) (h : Pose) :
    hasCause (sampled s h) .unsteady = (hasCause s .unsteady ||
      (decide ((sampledTracker s h).state = .unsteady) && !decide (enteredState s.tracker.state = .unsteady))) := by
  have hs : s.leaveLost.tracker.state = enteredState s.tracker.state := by rw [leaveLost_tracker]
  have hshown : hasCause (s.leaveLost.withTracker (sampledTracker s h)).showTracking .unsteady = hasCause s .unsteady :=
    hasCause_congr (by simp) _
  have hzero : ∀ u : State, hasCause u.zeroSettle .unsteady = hasCause u .unsteady := fun u => hasCause_congr (by simp) _
  unfold sampled
  rw [hs]
  dsimp only
  by_cases hc : (sampledTracker s h).state = .unsteady ∧ enteredState s.tracker.state ≠ .unsteady
  · rw [if_pos hc]
    split <;> simp [hzero, hc.1, hc.2]
  · rw [if_neg hc]
    have hno : (decide ((sampledTracker s h).state = .unsteady) && !decide (enteredState s.tracker.state = .unsteady)) = false := by
      simpa using hc
    split <;> simp [hzero, hshown, hno]

end Sys2Proof
end

section
/-! SUPPORT. FIX frames (6.1 to 6.5) and the work on a usable sample, as far as the tracking unit sees it. -/

namespace Sys2Proof

open Sys2Proof.Machine

/-! ### What a sample is handed on to -/

theorem touches_showReach (s : State) : Touches [] [] s s.showReach :=
  touches_of_frame (by simp [keptBut_iff]) (by simp) (by simp)

theorem touches_testSaturation (s : State) (a : Attempt) (e : Pose) : Touches [.trim] [.reach] s (s.testSaturation a e) := by
  unfold State.testSaturation
  dsimp only
  split
  · split
    · exact (((touches_withTrim s _).mono.trans (touches_withTrim _ _).mono).trans (touches_showReach _).mono).trans
        (touches_raise _ .reach).mono
    · exact (touches_withTrim s _).mono
  · exact (touches_withTrim s _).mono.trans (touches_showReach _).mono

theorem touches_waitConfirm (s : State) (a : Attempt) : Touches [.trim] [.confirmWait] s (s.waitConfirm a) := by
  unfold State.waitConfirm
  split
  · exact .refl _ _ s
  · exact (touches_withTrim s _).mono.trans (touches_raise _ .confirmWait).mono

theorem touches_decideRelease (s : State) (a : Attempt) (d : Pose) : Touches [.trim, .head] [] s (s.decideRelease a d) :=
  (touches_withTrim s _).mono.trans (touches_putHead _ _).mono

theorem touches_decideProbe (s : State) (a : Attempt) (x y : Int) : Touches [.trim, .head] [] s (s.decideProbe a x y) :=
  (touches_withTrim s _).mono.trans (touches_putHead _ _).mono

theorem touches_takeDecision (s : State) (a : Attempt) (b : Bool) (g e : Pose) :
    Touches [.trim, .head] [.confirmWait] s (s.takeDecision a b g e) := by
  unfold State.takeDecision
  split
  · split
    · split
      · exact (touches_waitConfirm s a).mono
      · exact (touches_decideRelease s a _).mono
    · exact (touches_decideProbe s a _ _).mono
  · exact .refl _ _ s

theorem touches_workAttempt (s : State) (a : Attempt) (g e : Pose) :
    Touches [.trim, .head] [.confirmWait, .reach] s (s.workAttempt a g e) :=
  ((touches_withTrim s _).mono.trans (touches_testSaturation _ a e).mono).trans (touches_takeDecision _ a _ g e).mono

theorem touches_usableSample (s : State) (h : Pose) : Touches [.trim, .head] [.confirmWait, .reach] s (s.usableSample h) := by
  unfold State.usableSample
  dsimp only
  split
  · exact (touches_withTrim s _).mono
  · exact (touches_withTrim s _).mono.trans (touches_workAttempt _ _ _ _)

@[simp] theorem takeDecision_restartTimer (s : State) (a : Attempt) (b : Bool) (g e : Pose) :
    (s.takeDecision a b g e).head.restartTimer = s.head.restartTimer := by
  unfold State.takeDecision State.waitConfirm State.decideRelease State.decideProbe
  repeat' split
  all_goals simp

theorem usableSample_restartTimer (s : State) (h : Pose) :
    (s.usableSample h).head.restartTimer = s.head.restartTimer := by
  unfold State.usableSample
  dsimp only
  split
  · simp
  · simp [State.workAttempt]

theorem takeSample_tracker (s : State) (h : Pose) : (s.takeSample h).tracker = sampledTracker s h := by
  rw [takeSample_eq, ← sampled_tracker]
  split
  · simp
  · split <;> simp

theorem takeSample_restartTimer (s : State) (h : Pose) :
    (s.takeSample h).head.restartTimer = s.leaveLost.head.restartTimer := by
  rw [takeSample_eq, ← sampled_head s h]
  split
  · simp
  · split
    · exact usableSample_restartTimer _ h
    · rfl

theorem touches_takeSample (s : State) (h : Pose) :
    Touches [.tracker, .trim, .head] [.unsteady, .confirmWait, .reach] s (s.takeSample h) := by
  rw [takeSample_eq]
  split
  · exact (touches_sampled s h).mono.trans (touches_zeroSettle_trim _).mono
  · split
    · exact (touches_sampled s h).mono.trans (touches_usableSample _ h).mono
    · exact (touches_sampled s h).mono

theorem takeSample_unsteady (s : State) (h : Pose) :
    hasCause (s.takeSample h) .unsteady = hasCause (sampled s h) .unsteady := by
  rw [takeSample_eq]
  split
  · exact hasCause_congr (by simp) _
  · split
    · exact (touches_usableSample _ h).causes.others _ (by decide)
    · rfl

/-! ### FIX frames -/

/-- A frame has been judged, and its number noted. -/
def noted (s : State) (q : Byte) : State := s.withTracker { s.tracker.noteSequence q with collected := [] }

theorem noted_tracker (s : State) (q : Byte) :
    (noted s q).tracker = { s.tracker with
      sequence := some q, collected := [], gaps := s.tracker.gaps + (if breaksSequence s q then 1 else 0) } := by
  unfold noted
  rw [noteSequence_eq, noteSequence_gaps]
  rfl

theorem exec_fix {s : State} {bytes : List Byte} {n : Byte} {h : Pose} (ha : FrameArrives s bytes (.fix n h)) :
    exec (.trackerFrame bytes) s = answer s ((noted s n).takeSample h) := by
  rw [exec_trackerFrame_arrives ha, State.takeFrame, ha.2.2.2.2]
  rfl

theorem sampleClass_noted (s : State) (n : Byte) (h : Pose) :
    sampleClass (noted s n) h = voteClass s.seq.profile s.tracker.history ⟨h, s.time⟩ := by
  rw [sampleClass, noted_tracker]
  rfl

theorem touches_noted (s : State) (q : Byte) : Touches [.tracker] [] s (noted s q) := touches_withTracker s _

/-- The counter of the class rises, and no other. -/
theorem countClass_counts (t : Tracker) (c : SampleClass) :
    (t.countClass c).priming = t.priming + (if c = .priming then 1 else 0) ∧
      (t.countClass c).accepted = t.accepted + (if c = .accepted then 1 else 0) ∧
      (t.countClass c).corrected = t.corrected + (if c = .corrected then 1 else 0) ∧
      (t.countClass c).rejected = t.rejected + (if c = .rejected then 1 else 0) ∧
      (t.countClass c).unstable = t.unstable + (if c = .unstable then 1 else 0) ∧
      (t.countClass c).malformed = t.malformed ∧ (t.countClass c).nofix = t.nofix ∧ (t.countClass c).gaps = t.gaps ∧
      (t.countClass c).sequence = t.sequence ∧ (t.countClass c).collected = t.collected := by
  cases c <;> simp [Tracker.countClass]

/-- The moves of the tracking state. -/
theorem nextTracking_cases (p : Profile) (st : TrackingState) (c : SampleClass) (bad : Nat) :
    (c = .priming → nextTracking p st c bad = st) ∧
      (c.usable = true → st = .acquiring →
        nextTracking p st c bad = if p.unsteadyOn ≤ bad then .unsteady else .tracking) ∧
      (c = .rejected ∨ c = .unstable → st = .acquiring → nextTracking p st c bad = .acquiring) ∧
      (c ≠ .priming → st = .tracking →
        nextTracking p st c bad = if p.unsteadyOn ≤ bad then .unsteady else .tracking) ∧
      (c ≠ .priming → st = .unsteady →
        nextTracking p st c bad = if bad ≤ p.unsteadyOff then .tracking else .unsteady) := by
  unfold nextTracking
  cases c <;> simp +contextual [SampleClass.usable]

theorem frame_fix {bytes : List Byte} {n : Byte} {h : Pose} {c : SampleClass} {w : List SampleClass} {st : TrackingState}
    {s : State} (ha : FrameArrives s bytes (.fix n h)) (hc : c = voteClass s.seq.profile s.tracker.history ⟨h, s.time⟩)
    (hw : w = appendWindow s.tracker.window c)
    (hst : st = (if s.tracker.state = .lost then .acquiring else s.tracker.state)) :
    ∃ t, exec (.trackerFrame bytes) s = .next t ∧ t.tracker.lastPose = h ∧ t.tracker.lastClass = some c ∧
      t.tracker.sequence = some n ∧ t.tracker.collected = [] ∧
      t.tracker.history = voteHistory s.tracker.history c ⟨h, s.time⟩ ∧ t.tracker.window = w ∧
      t.tracker.priming = s.tracker.priming + (if c = .priming then 1 else 0) ∧
      t.tracker.accepted = s.tracker.accepted + (if c = .accepted then 1 else 0) ∧
      t.tracker.corrected = s.tracker.corrected + (if c = .corrected then 1 else 0) ∧
      t.tracker.rejected = s.tracker.rejected + (if c = .rejected then 1 else 0) ∧
      t.tracker.unstable = s.tracker.unstable + (if c = .unstable then 1 else 0) ∧
      t.tracker.malformed = s.tracker.malformed ∧ t.tracker.nofix = s.tracker.nofix ∧
      t.tracker.gaps = s.tracker.gaps + (if breaksSequence s n then 1 else 0) ∧
      (c = .priming → t.tracker.state = st) ∧
      (c.usable = true → st = .acquiring →
        t.tracker.state = if s.seq.profile.unsteadyOn ≤ badCount w then .unsteady else .tracking) ∧
      (c = .rejected ∨ c = .unstable → st = .acquiring → t.tracker.state = .acquiring) ∧
      (c ≠ .priming → st = .tracking →
        t.tracker.state = if s.seq.profile.unsteadyOn ≤ badCount w then .unsteady else .tracking) ∧
      (c ≠ .priming → st = .unsteady →
        t.tracker.state = if badCount w ≤ s.seq.profile.unsteadyOff then .tracking else .unsteady) ∧
      hasCause t .unsteady =
        (hasCause s .unsteady || (decide (t.tracker.state = .unsteady) && !decide (st = .unsteady))) ∧
      (s.tracker.state = .lost → t.head.restartTimer = none ∧ t.tracker.lossTimer = some 0) ∧
      (c.usable = true → t.tracker.lossTimer = some 0) ∧
      (c.usable = false → s.tracker.state ≠ .lost → t.tracker.lossTimer = s.tracker.lossTimer) ∧
      KeptBut [.tracker, .trim, .head] s t ∧ CausesKeptBut [.unsteady, .confirmWait, .reach] s t := by
  have hclass : sampleClass (noted s n) h = c := (sampleClass_noted s n h).trans hc.symm
  have htracker : (finish s ((noted s n).takeSample h)).tracker = sampledTracker (noted s n) h :=
    (finish_frame _ _).2.2.2.2.2.2.2.2.2.1.trans (takeSample_tracker _ h)
  have hnoted := noted_tracker s n
  have hentered : enteredState (noted s n).tracker.state = st := by
    rw [hst, hnoted]
    rfl
  have hcause : hasCause (finish s ((noted s n).takeSample h)) .unsteady = hasCause (sampled (noted s n) h) .unsteady :=
    (hasCause_finish_of_ne _ _ (by decide)).trans (takeSample_unsteady _ h)
  rw [sampled_unsteady, hentered, ← htracker] at hcause
  obtain ⟨k1, k2, k3, k4, k5, k6, k7, k8, k9, k10⟩ := countClass_counts (noted s n).leaveLost.tracker c
  rw [leaveLost_tracker, hnoted] at k1 k2 k3 k4 k5 k6 k7 k8 k9 k10
  obtain ⟨n1, n2, n3, n4, n5⟩ := nextTracking_cases s.seq.profile st c (badCount w)
  have htrackerEq := sampledTracker_eq (noted s n) h
  rw [hclass, hentered, leaveLost_tracker, hnoted] at htrackerEq
  have hstate : (finish s ((noted s n).takeSample h)).tracker.state = nextTracking s.seq.profile st c (badCount w) := by
    rw [htracker, htrackerEq, hw]
    rfl
  have htouch := ((touches_noted s n).mono.trans (touches_takeSample _ h)).closed
  have hrestart : (finish s ((noted s n).takeSample h)).head.restartTimer = (noted s n).leaveLost.head.restartTimer := by
    rw [← takeSample_restartTimer _ h]
    simp
  have hlost : (noted s n).leaveLost.head.restartTimer =
      if s.tracker.state = .lost then none else (noted s n).head.restartTimer := by
    have hsame : (noted s n).tracker.state = s.tracker.state := by rw [hnoted]
    rw [leaveLost_head, hsame]
    exact apply_ite (fun x : Head => x.restartTimer) _ _ _
  have hexec := exec_fix ha
  change exec _ s = .next (finish s ((noted s n).takeSample h)) at hexec
  generalize finish s ((noted s n).takeSample h) = t at *
  rw [htrackerEq] at htracker
  have hloss : t.tracker.lossTimer =
      if c.usable then some 0 else if s.tracker.state = .lost then some 0 else s.tracker.lossTimer := congrArg _ htracker
  have hhistory : t.tracker.history = voteHistory s.tracker.history c ⟨h, s.time⟩ := congrArg _ htracker
  have hwindow : t.tracker.window = appendWindow s.tracker.window c := congrArg _ htracker
  refine ⟨t, hexec, by rw [htracker], by rw [htracker], by rw [htracker]; exact k9, by rw [htracker]; exact k10,
    hhistory, hwindow.trans hw.symm, by rw [htracker]; exact k1, by rw [htracker]; exact k2,
    by rw [htracker]; exact k3, by rw [htracker]; exact k4, by rw [htracker]; exact k5, by rw [htracker]; exact k6,
    by rw [htracker]; exact k7, by rw [htracker]; exact k8, fun h => hstate.trans (n1 h), fun h1 h2 => hstate.trans (n2 h1 h2),
    fun h1 h2 => hstate.trans (n3 h1 h2), fun h1 h2 => hstate.trans (n4 h1 h2), fun h1 h2 => hstate.trans (n5 h1 h2),
    hcause, fun hl => ⟨?_, ?_⟩, fun hu => ?_, fun hu hl => ?_, htouch⟩
  · rw [hrestart, hlost, if_pos hl]
  · simp [hloss, hl]
  · rw [hloss, if_pos hu]
  · simp [hloss, hu, hl]

/-! ### Gaps between bytes (R105) -/

theorem byteGap_of_collected {s : State} (h : s.tracker.collected ≠ []) :
    s.byteGap = (s.withTracker { s.tracker with malformed := s.tracker.malformed + 1, collected := [] }).showTracking := by
  unfold State.byteGap
  split
  · exact absurd ‹_› h
  · rfl

theorem byteGap_of_hunting {s : State} (h : s.tracker.collected = []) : s.byteGap = s := by
  unfold State.byteGap
  rw [h]

theorem takeBytes_nil (s : State) : s.takeBytes [] = s := by simp [State.takeBytes]

/-- Settles O36, by what the receiver makes of the bytes. -/
theorem trackerFramesAreJudged : Obligations.TrackerFramesAreJudged := by
  refine ⟨fun bytes s h => frame_malformed h, fun bytes n s h => frame_nofix h,
    fun bytes n h c w st s ha hc hw hst => frame_fix ha hc hw hst, fun b bytes s hr hc hb hlt => ?_, fun s hc => ?_,
    fun s hc => noEffect_of_exec ?_⟩
  · have hbytes : s.takeBytes (b :: bytes) = collecting s (b :: bytes) := by
      rw [State.takeBytes, if_pos hr, hb, foldl_takeByte_sync hc hlt]
    have htouch : Touches [.tracker] [] s (collecting s (b :: bytes)) := touches_withTracker s _
    refine ⟨_, by rw [exec_trackerByteGap, hbytes, byteGap_of_collected (by simp [collecting])]; rfl, ?_,
      (htouch.trans (touches_trackerShown _ _)).closed⟩
    simp [collecting, ← hc]
  · refine ⟨_, by rw [exec_trackerByteGap, takeBytes_nil, byteGap_of_collected hc]; rfl, by simp,
      (touches_trackerShown s _).closed⟩
  · rw [exec_trackerByteGap, takeBytes_nil, byteGap_of_hunting hc]

end Sys2Proof
end

section
/-! SUPPORT. The trim stage at a FIX sample (7.2, 7.6, 7.7): the demand, the move of S and the frame that carries it. -/

namespace Sys2Proof

open Sys2Proof.Machine

/-! ### The state a sample is worked on in -/

theorem nextTracking_ne_lost {p : Profile} {st : TrackingState} {c : SampleClass} {bad : Nat} (h : st ≠ .lost) :
    nextTracking p st c bad ≠ .lost := by
  unfold nextTracking
  cases st with
  | lost => exact absurd rfl h
  | _ => repeat' split
         all_goals simp_all

/-- The state in which a FIX frame's sample is worked on. -/
def fixed (s : State) (n : Byte) (h : Pose) : State := sampled (noted s n) h

theorem fixed_tracker (s : State) (n : Byte) (h : Pose) :
    (fixed s n h).tracker.state = nextTracking s.seq.profile (enteredState s.tracker.state)
      (voteClass s.seq.profile s.tracker.history ⟨h, s.time⟩)
      (badCount (appendWindow s.tracker.window (voteClass s.seq.profile s.tracker.history ⟨h, s.time⟩))) := by
  rw [fixed, sampled_tracker, sampledTracker_eq, sampleClass_noted, noted_tracker]
  rfl

theorem fixed_ne_lost (s : State) (n : Byte) (h : Pose) : (fixed s n h).tracker.state ≠ .lost := by
  rw [fixed_tracker]
  exact nextTracking_ne_lost (enteredState_ne_lost _)

theorem fixed_frame (s : State) (n : Byte) (h : Pose) :
    (fixed s n h).seq = s.seq ∧ (fixed s n h).control = s.control ∧ (fixed s n h).book = s.book ∧
      (fixed s n h).time = s.time := sampled_frame (noted s n) h

/-- Tracking that leaves TRACKING returns the settle count to 0. -/
theorem fixed_trim (s : State) (n : Byte) (h : Pose) :
    (fixed s n h).trim = if s.tracker.state = .tracking ∧ (fixed s n h).tracker.state ≠ .tracking then
      { s.trim with settleCount := 0 } else s.trim := by
  have hstate : (noted s n).tracker.state = s.tracker.state := by rw [noted_tracker]
  rw [fixed, sampled_trim, sampled_tracker, hstate]
  rfl

theorem fixed_head (s : State) (n : Byte) (h : Pose) :
    (fixed s n h).head = if s.tracker.state = .lost then { s.head with restartTimer := none } else s.head := by
  have hstate : (noted s n).tracker.state = s.tracker.state := by rw [noted_tracker]
  rw [fixed, sampled_head, leaveLost_head, hstate]
  rfl

theorem touches_fixed (s : State) (n : Byte) (h : Pose) : Touches [.tracker, .trim, .head] [.unsteady] s (fixed s n h) :=
  (touches_noted s n).mono.trans (touches_sampled _ h)

/-- A sample that is not usable goes no further than the settle count. -/
theorem exec_fix_unusable {s : State} {bytes : List Byte} {n : Byte} {h : Pose} (ha : FrameArrives s bytes (.fix n h))
    (hu : (voteClass s.seq.profile s.tracker.history ⟨h, s.time⟩).usable = false) :
    exec (.trackerFrame bytes) s = answer s
      (if voteClass s.seq.profile s.tracker.history ⟨h, s.time⟩ = .unstable then (fixed s n h).zeroSettle
      else fixed s n h) := by
  rw [exec_fix ha, takeSample_eq, sampleClass_noted, hu]
  rfl

theorem exec_fix_usable {s : State} {bytes : List Byte} {n : Byte} {h : Pose} (ha : FrameArrives s bytes (.fix n h))
    (hu : (voteClass s.seq.profile s.tracker.history ⟨h, s.time⟩).usable = true) :
    exec (.trackerFrame bytes) s = answer s ((fixed s n h).usableSample h) := by
  have hne : voteClass s.seq.profile s.tracker.history ⟨h, s.time⟩ ≠ .unstable := fun he => by
    rw [he] at hu
    cases hu
  rw [exec_fix ha, takeSample_eq, sampleClass_noted, if_neg hne, if_pos hu]
  rfl

/-! ### The move of S (R129, R130, R138, R139) -/

/-- S after a usable sample. -/
def movedSetPoint (s : State) (h : Pose) : Pose :=
  if s.control.boomMoving = true ∨ s.control.emergency = true then s.trim.setPoint
  else slewPose s.seq.profile s.trim.range (s.demand h) s.trim.setPoint

/-- The fields of the trim controller that the demand and the move of S read. -/
theorem fixed_trim_fields (s : State) (n : Byte) (h : Pose) :
    ∃ k, (fixed s n h).trim = { s.trim with settleCount := k } := by
  rw [fixed_trim]
  split
  · exact ⟨0, rfl⟩
  · exact ⟨s.trim.settleCount, rfl⟩

theorem fixed_nextSetPoint (s : State) (n : Byte) (h : Pose) : (fixed s n h).nextSetPoint h = movedSetPoint s h := by
  obtain ⟨hseq, hcontrol, hbook, -⟩ := fixed_frame s n h
  have hlost := fixed_ne_lost s n h
  obtain ⟨k, htrim⟩ := fixed_trim_fields s n h
  generalize fixed s n h = v at *
  have hjog : v.jogPose = s.jogPose := by
    unfold State.jogPose State.word
    rw [hbook]
  have hdemand : v.demand h = s.demand h := by
    unfold State.demand State.sampleError
    rw [hjog, hseq, hcontrol, htrim]
  have hheld : v.setPointHeld = true ↔ s.control.boomMoving = true ∨ s.control.emergency = true := by
    simp [State.setPointHeld, hlost, hcontrol]
  unfold State.nextSetPoint movedSetPoint
  simp only [hheld, hdemand, hseq, htrim]

theorem usableSample_trim (s : State) (h : Pose) :
    (s.usableSample h).trim.setPoint = s.nextSetPoint h ∧ (s.usableSample h).trim.range = s.trim.range ∧
      (s.usableSample h).trim.sending = (s.trim.moveSetPoint (s.nextSetPoint h)).sending ∧
      (s.usableSample h).trim.outputPending = (s.trim.moveSetPoint (s.nextSetPoint h)).outputPending ∧
      (s.usableSample h).trim.lastFrame = (s.trim.moveSetPoint (s.nextSetPoint h)).lastFrame := by
  unfold State.usableSample
  dsimp only
  split <;> simp

/-- A component that is stepped and then clamped moves no further than the slew limit. -/
theorem slew_within {limit r current : Int} (hl : 0 ≤ limit) (hr : 0 ≤ r) (hc : Within r current) (demand : Int) :
    Within limit (clampRange r (slewStep limit demand current) - current) := by
  have h1 := clamped_slewStep hl demand current
  have h2 := clamped_clampInt (lo := -r) (hi := r) (by omega) (slewStep limit demand current)
  unfold clampRange
  generalize clampInt (-r) r (slewStep limit demand current) = y at *
  generalize slewStep limit demand current = x at *
  unfold Within Clamped at *
  omega

/-- What the obligation says of the trim stage, of two trim controllers. -/
theorem movedSetPoint_within {s : State} (hr : StageWithinRange s) (h : Pose) :
    PoseWithin s.trim.range (movedSetPoint s h) := by
  obtain ⟨hw, hb⟩ := (stageWithinRange_iff s).1 hr
  unfold movedSetPoint
  split
  · exact hw
  · exact clampPose_within hb _

theorem movedSetPoint_slew {s : State} (hr : StageWithinRange s) (h : Pose) (h1 : 0 ≤ s.seq.profile.slewXY)
    (h2 : 0 ≤ s.seq.profile.slewZ) (h3 : 0 ≤ s.seq.profile.slewYaw) :
    Within s.seq.profile.slewXY ((movedSetPoint s h).x - s.trim.setPoint.x) ∧
      Within s.seq.profile.slewXY ((movedSetPoint s h).y - s.trim.setPoint.y) ∧
      Within s.seq.profile.slewZ ((movedSetPoint s h).z - s.trim.setPoint.z) ∧
      Within s.seq.profile.slewYaw ((movedSetPoint s h).yaw - s.trim.setPoint.yaw) := by
  obtain ⟨⟨hx, hy, hz, hyaw⟩, ⟨rx, -⟩, ⟨ry, -⟩, ⟨rz, -⟩, ryaw, -⟩ := (stageWithinRange_iff s).1 hr
  unfold movedSetPoint
  split
  · unfold Within
    omega
  · exact ⟨slew_within h1 (by omega) hx _, slew_within h1 (by omega) hy _, slew_within h2 (by omega) hz _,
      slew_within h3 (by omega) hyaw _⟩

theorem setPoint_stands_unusable (s : State) (n : Byte) (h : Pose) (b : Bool) :
    (if b then (fixed s n h).zeroSettle else fixed s n h).trim.setPoint = s.trim.setPoint := by
  obtain ⟨k, htrim⟩ := fixed_trim_fields s n h
  cases b <;> simp [htrim]

theorem demand_jog {s : State} {h j : Pose} (hr : StageWithinRange s) (hm : s.control.manualGrant = true)
    (hx : Clamped (-s.trim.range.x) s.trim.range.x (s.word (jogAddr .x)).toInt j.x)
    (hy : Clamped (-s.trim.range.y) s.trim.range.y (s.word (jogAddr .y)).toInt j.y)
    (hz : Clamped (-s.trim.range.z) s.trim.range.z (s.word (jogAddr .z)).toInt j.z)
    (hyaw : Clamped (-s.trim.range.yaw) s.trim.range.yaw (s.word (jogAddr .yaw)).toInt j.yaw) : s.demand h = j := by
  obtain ⟨-, ⟨rx, -⟩, ⟨ry, -⟩, ⟨rz, -⟩, ryaw, -⟩ := (stageWithinRange_iff s).1 hr
  have heq : ∀ {r x y : Int}, 1 ≤ r → Clamped (-r) r x y → clampRange r x = y := fun h1 hc =>
    clamped_unique (by omega) (clamped_clampInt (by omega) _) hc
  rw [State.demand, if_pos hm]
  unfold clampPose State.jogPose
  dsimp only
  rw [heq rx hx, heq ry hy, heq rz hz, heq ryaw hyaw]

theorem demand_attempt {s : State} {h g : Pose} {a : Attempt} (hm : s.control.manualGrant = false)
    (ha : s.trim.attempt = some a) (hg : g = neutralPose h s.trim.offset) :
    s.demand h = poseError (effectiveTarget s.seq.profile a g) g := by
  rw [State.demand, if_neg (by simp [hm]), State.sampleError, ha, hg]
  rfl

theorem demand_none {s : State} {h : Pose} (hm : s.control.manualGrant = false) (ha : s.trim.attempt = none) :
    s.demand h = .zero := by
  rw [State.demand, if_neg (by simp [hm]), State.sampleError, ha]
  rfl

/-- A moved set-point is sent, or marked to be sent. -/
theorem moveSetPoint_sends (t : Trim) {sp : Pose} (hne : sp ≠ t.setPoint) :
    (t.sending = false → (t.moveSetPoint sp).sending = true ∧
      (t.moveSetPoint sp).lastFrame = setPointFrame t.nextFrame t.driveEnable sp) ∧
    (t.sending = true → (t.moveSetPoint sp).outputPending = true) := by
  unfold Trim.moveSetPoint Trim.wantFrame Trim.beginFrame
  rw [if_neg hne]
  constructor
  · intro hs
    simp [hs]
  · intro hs
    simp [hs]

/-- What a sample does to S, from the set-point it leaves. -/
theorem stage_after {s t : State} {h : Pose} (hr : StageWithinRange s) (h1 : 0 ≤ s.seq.profile.slewXY)
    (h2 : 0 ≤ s.seq.profile.slewZ) (h3 : 0 ≤ s.seq.profile.slewYaw) (hrange : t.trim.range = s.trim.range)
    (hsp : t.trim.setPoint = s.trim.setPoint ∨ t.trim.setPoint = movedSetPoint s h) :
    StageWithinRange t ∧ Within s.seq.profile.slewXY (t.trim.setPoint.x - s.trim.setPoint.x) ∧
      Within s.seq.profile.slewXY (t.trim.setPoint.y - s.trim.setPoint.y) ∧
      Within s.seq.profile.slewZ (t.trim.setPoint.z - s.trim.setPoint.z) ∧
      Within s.seq.profile.slewYaw (t.trim.setPoint.yaw - s.trim.setPoint.yaw) := by
  obtain ⟨hw, hb⟩ := (stageWithinRange_iff s).1 hr
  rcases hsp with hsp | hsp
  · rw [stageWithinRange_iff, hrange, hsp]
    refine ⟨⟨hw, hb⟩, ?_⟩
    unfold Within
    omega
  · rw [stageWithinRange_iff, hrange, hsp]
    exact ⟨⟨movedSetPoint_within hr h, hb⟩, movedSetPoint_slew hr h h1 h2 h3⟩

/-- Settles O40, by whether the sample is usable. -/
theorem stageMovesWithinSlewAndRange : Obligations.StageMovesWithinSlewAndRange := by
  intro bytes n h g s ha hr h1 h2 h3 hg
  obtain ⟨k, htrim⟩ := fixed_trim_fields s n h
  cases hu : (voteClass s.seq.profile s.tracker.history ⟨h, s.time⟩).usable with
  | false =>
    have hexec := exec_fix_unusable ha hu
    have hfield : ∀ v, v = (if voteClass s.seq.profile s.tracker.history ⟨h, s.time⟩ = .unstable then
        (fixed s n h).zeroSettle else fixed s n h) →
        v.trim.setPoint = s.trim.setPoint ∧ v.trim.range = s.trim.range := by
      rintro v rfl
      split <;> simp [htrim]
    obtain ⟨hsp, hrange⟩ := hfield _ rfl
    refine ⟨_, hexec, ?_⟩
    generalize (if voteClass s.seq.profile s.tracker.history ⟨h, s.time⟩ = .unstable then (fixed s n h).zeroSettle
      else fixed s n h) = v at *
    have hsp' : (finish s v).trim.setPoint = s.trim.setPoint := by simpa using hsp
    obtain ⟨k1, k2, k3, k4, k5⟩ := stage_after (t := finish s v) (h := h) hr h1 h2 h3 (by simpa using hrange) (.inl hsp')
    exact ⟨k1, k2, k3, k4, k5, fun _ => hsp', fun hc => by simp at hc, fun hne => absurd hsp' hne,
      fun hne => absurd hsp' hne⟩
  | true =>
    obtain ⟨hsp, hrange, hsend, hpend, hframe⟩ := usableSample_trim (fixed s n h) h
    have hexec := exec_fix_usable ha hu
    rw [fixed_nextSetPoint] at hsp hsend hpend hframe
    generalize (fixed s n h).usableSample h = v at *
    generalize fixed s n h = u at *
    have hsp' : (finish s v).trim.setPoint = movedSetPoint s h := by simpa using hsp
    obtain ⟨k1, k2, k3, k4, k5⟩ := stage_after (t := finish s v) (h := h) hr h1 h2 h3 (by simp [hrange, htrim]) (.inr hsp')
    refine ⟨_, hexec, k1, k2, k3, k4, k5, fun hheld => ?_, fun _ hb he => ⟨fun j hm hx hy hz hw => ?_, fun a hm hat => ?_,
      fun hm hat => ?_⟩, fun hne hs => ?_, fun hne hs => ?_⟩
    · rw [hsp', movedSetPoint, if_pos (hheld.imp id fun h => h.resolve_right (by simp))]
    · rw [hsp', movedSetPoint, if_neg (by simp [hb, he]), demand_jog hr hm hx hy hz hw]
    · rw [hsp', movedSetPoint, if_neg (by simp [hb, he]), demand_attempt hm hat hg]
    · rw [hsp', movedSetPoint, if_neg (by simp [hb, he]), demand_none hm hat]
    · rw [hsp'] at hne ⊢
      obtain ⟨hs1, -⟩ := moveSetPoint_sends u.trim (sp := movedSetPoint s h) (by simpa [htrim] using hne)
      obtain ⟨hs2, hs3⟩ := hs1 (by simpa [htrim] using hs)
      refine ⟨by simp [hsend, hs2], ?_⟩
      rw [show (finish s v).trim.lastFrame = v.trim.lastFrame by simp, hframe, hs3]
      simp [htrim]
    · rw [hsp'] at hne
      obtain ⟨-, hs1⟩ := moveSetPoint_sends u.trim (sp := movedSetPoint s h) (by simpa [htrim] using hne)
      simp [hpend, hs1 (by simpa [htrim] using hs)]

end Sys2Proof
end

section
/-! SUPPORT. An attempt at a usable sample (7.3, 7.4, 8.5 to 8.7): the settle count, the saturation test and the decision. -/

namespace Sys2Proof

open Sys2Proof.Machine

/-! ### The saturation test (R135) -/

theorem isSaturated_iff (p : Profile) (r e : Pose) : isSaturated p r e = true ↔ Saturated p r e := by
  have habs : ∀ x : Int, magnitude x = x.natAbs := fun x => by
    unfold magnitude
    split <;> omega
  simp only [isSaturated, decide_eq_true_eq, habs]
  rfl

/-- The saturated count reaches the reach count at this sample. -/
def ReachesNow (s : State) : Prop :=
  s.trim.saturated < s.seq.profile.reachCount ∧ s.seq.profile.reachCount ≤ min 1024 (s.trim.saturated + 1)

theorem testSaturation_unsaturated {s : State} {a : Attempt} {e : Pose} (h : ¬Saturated s.seq.profile s.trim.range e) :
    (s.testSaturation a e).trim = { s.trim with saturated := 0, reach := none } ∧
      hasCause (s.testSaturation a e) .reach = hasCause s .reach := by
  unfold State.testSaturation
  rw [if_neg fun hc => h ((isSaturated_iff _ _ _).1 hc)]
  exact ⟨by simp, hasCause_congr (by simp) _⟩

theorem testSaturation_reaches {s : State} {a : Attempt} {e : Pose} (h : Saturated s.seq.profile s.trim.range e)
    (hr : ReachesNow s) :
    (s.testSaturation a e).trim =
        { s.trim with saturated := min 1024 (s.trim.saturated + 1), reach := some a.entry } ∧
      hasCause (s.testSaturation a e) .reach = true := by
  unfold State.testSaturation
  rw [if_pos ((isSaturated_iff _ _ _).2 h)]
  dsimp only
  rw [if_pos (show _ ∧ _ from hr)]
  exact ⟨by simp, by simp⟩

theorem testSaturation_counts {s : State} {a : Attempt} {e : Pose} (h : Saturated s.seq.profile s.trim.range e)
    (hr : ¬ReachesNow s) :
    (s.testSaturation a e).trim = { s.trim with saturated := min 1024 (s.trim.saturated + 1) } ∧
      hasCause (s.testSaturation a e) .reach = hasCause s .reach := by
  unfold State.testSaturation
  rw [if_pos ((isSaturated_iff _ _ _).2 h)]
  dsimp only
  rw [if_neg (show ¬(_ ∧ _) from hr)]
  exact ⟨by simp, hasCause_congr (by simp) _⟩

/-- The saturation test leaves what settling and the decision read. -/
theorem testSaturation_keeps (s : State) (a : Attempt) (e : Pose) :
    (s.testSaturation a e).trim.settleCount = s.trim.settleCount ∧ (s.testSaturation a e).trim.tally = s.trim.tally ∧
      (s.testSaturation a e).trim.attempt = s.trim.attempt ∧
      (s.testSaturation a e).trim.settleTimer = s.trim.settleTimer := by
  by_cases h : Saturated s.seq.profile s.trim.range e
  · by_cases hr : ReachesNow s
    · simp [(testSaturation_reaches (a := a) h hr).1]
    · simp [(testSaturation_counts (a := a) h hr).1]
  · simp [(testSaturation_unsaturated (a := a) h).1]

/-! ### The decision (R133, R134, R136) -/

theorem takeDecision_counts (s : State) (a : Attempt) (b : Bool) (g e : Pose) :
    (s.takeDecision a b g e).trim.settleCount = s.trim.settleCount ∧
      (s.takeDecision a b g e).trim.tally = s.trim.tally ∧
      (s.takeDecision a b g e).trim.saturated = s.trim.saturated ∧
      (s.takeDecision a b g e).trim.reach = s.trim.reach := by
  unfold State.takeDecision State.waitConfirm State.decideRelease State.decideProbe
  repeat' split
  all_goals simp

/-- What a decision needs: a count raised to N at this sample, and an attempt not decided before. -/
def Settles (s : State) (a : Attempt) (raised : Bool) : Prop :=
  raised = true ∧ a.decided = false ∧ s.seq.profile.settleCount ≤ s.trim.settleCount

theorem takeDecision_release {s : State} {a : Attempt} {raised : Bool} {g e : Pose} (h : Settles s a raised)
    (hk : a.kind = .lay) (hc : a.hold = true → s.head.gripper.confirm = true) :
    s.takeDecision a raised g e = s.decideRelease a (poseSub s.trim.setPoint e) := by
  obtain ⟨hr, hd, hn⟩ := h
  rw [State.takeDecision, hr, hd, if_pos (by simpa using hn)]
  simp only [hk]
  exact if_neg (by simpa using hc)

theorem takeDecision_waits {s : State} {a : Attempt} {raised : Bool} {g e : Pose} (h : Settles s a raised)
    (hk : a.kind = .lay) (hh : a.hold = true) (hc : s.head.gripper.confirm = false) :
    s.takeDecision a raised g e = s.waitConfirm a := by
  obtain ⟨hr, hd, hn⟩ := h
  rw [State.takeDecision, hr, hd, if_pos (by simpa using hn)]
  simp only [hk]
  exact if_pos (by simp [hh, hc])

theorem takeDecision_probe {s : State} {a : Attempt} {raised : Bool} {g e : Pose} (h : Settles s a raised)
    (hk : a.kind = .probe) : s.takeDecision a raised g e = s.decideProbe a g.z s.trim.setPoint.z := by
  obtain ⟨hr, hd, hn⟩ := h
  rw [State.takeDecision, hr, hd, if_pos (by simpa using hn)]
  simp only [hk]

/-- CONFIRM_WAIT is raised at the first wait of the attempt, and no more. -/
theorem waitConfirm_spec {s : State} {a : Attempt} (ha : s.trim.attempt = some a) :
    (s.waitConfirm a).trim.attempt = some { a with confirmWait := true } ∧ (s.waitConfirm a).head = s.head ∧
      hasCause (s.waitConfirm a) .confirmWait = (hasCause s .confirmWait || !a.confirmWait) := by
  unfold State.waitConfirm
  cases hw : a.confirmWait with
  | true =>
    refine ⟨?_, rfl, by simp⟩
    rw [if_pos rfl, ha, ← hw]
  | false => simp

/-! ### The work on a sample under an attempt -/

/-- The counts of a sample, written before the saturation test. -/
def counted (s : State) (a : Attempt) (raised : Bool) : State :=
  s.withTrim { s.trim with
    settleCount := s.countSettle raised, tally := if a.decided then s.trim.tally else min 65535 (s.trim.tally + 1) }

/-- The sample raises the settle count. -/
def raisesCount (s : State) (a : Attempt) (e : Pose) : Bool :=
  !s.settleBlocked && withinTolerance s.seq.profile a.kind (poseSub s.trim.setPoint e)

theorem workAttempt_eq (s : State) (a : Attempt) (g e : Pose) :
    s.workAttempt a g e =
      ((counted s a (raisesCount s a e)).testSaturation a e).takeDecision a (raisesCount s a e) g e := rfl

theorem workAttempt_settle (s : State) (a : Attempt) (g e : Pose) :
    (s.workAttempt a g e).trim.settleCount = s.countSettle (raisesCount s a e) ∧
      (s.workAttempt a g e).trim.tally = (if a.decided then s.trim.tally else min 65535 (s.trim.tally + 1)) := by
  obtain ⟨k1, k2, -⟩ := takeDecision_counts ((counted s a (raisesCount s a e)).testSaturation a e) a (raisesCount s a e) g e
  obtain ⟨n1, n2, -⟩ := testSaturation_keeps (counted s a (raisesCount s a e)) a e
  rw [workAttempt_eq, k1, k2, n1, n2]
  exact ⟨rfl, rfl⟩

theorem workAttempt_saturation (s : State) (a : Attempt) (g e : Pose) :
    (Saturated s.seq.profile s.trim.range e → ReachesNow s →
      (s.workAttempt a g e).trim.saturated = min 1024 (s.trim.saturated + 1) ∧
        (s.workAttempt a g e).trim.reach = some a.entry ∧ hasCause (s.workAttempt a g e) .reach = true) ∧
    (Saturated s.seq.profile s.trim.range e → ¬ReachesNow s →
      (s.workAttempt a g e).trim.saturated = min 1024 (s.trim.saturated + 1) ∧
        (s.workAttempt a g e).trim.reach = s.trim.reach ∧
        hasCause (s.workAttempt a g e) .reach = hasCause s .reach) ∧
    (¬Saturated s.seq.profile s.trim.range e →
      (s.workAttempt a g e).trim.saturated = 0 ∧ (s.workAttempt a g e).trim.reach = none ∧
        hasCause (s.workAttempt a g e) .reach = hasCause s .reach) := by
  have hcause : hasCause (s.workAttempt a g e) .reach =
      hasCause ((counted s a (raisesCount s a e)).testSaturation a e) .reach :=
    (touches_takeDecision _ a _ g e).causes.others _ (by decide)
  obtain ⟨-, -, k3, k4⟩ := takeDecision_counts ((counted s a (raisesCount s a e)).testSaturation a e) a (raisesCount s a e) g e
  rw [workAttempt_eq] at hcause ⊢
  rw [k3, k4, hcause]
  refine ⟨fun h hr => ?_, fun h hr => ?_, fun h => ?_⟩
  · obtain ⟨h1, h2⟩ := testSaturation_reaches (s := counted s a (raisesCount s a e)) (a := a) h hr
    rw [h1, h2]
    exact ⟨rfl, rfl, rfl⟩
  · obtain ⟨h1, h2⟩ := testSaturation_counts (s := counted s a (raisesCount s a e)) (a := a) h hr
    rw [h1, h2]
    exact ⟨rfl, rfl, hasCause_congr rfl _⟩
  · obtain ⟨h1, h2⟩ := testSaturation_unsaturated (s := counted s a (raisesCount s a e)) (a := a) h
    rw [h1, h2]
    exact ⟨rfl, rfl, hasCause_congr rfl _⟩

/-! ### FIX frames with an attempt -/

/-- The state in which the attempt is worked on: S has moved. -/
def movedStage (s : State) (n : Byte) (h : Pose) : State :=
  (fixed s n h).withTrim ((fixed s n h).trim.moveSetPoint (movedSetPoint s h))

theorem exec_fix_attempt {s : State} {bytes : List Byte} {n : Byte} {h g e : Pose} {a : Attempt}
    (ha : FrameArrives s bytes (.fix n h))
    (hu : (voteClass s.seq.profile s.tracker.history ⟨h, s.time⟩).usable = true) (hat : s.trim.attempt = some a)
    (hg : g = neutralPose h s.trim.offset) (he : e = poseError (effectiveTarget s.seq.profile a g) g) :
    exec (.trackerFrame bytes) s = answer s ((movedStage s n h).workAttempt a g e) := by
  rw [exec_fix_usable ha hu]
  obtain ⟨hseq, -⟩ := fixed_frame s n h
  obtain ⟨k, htrim⟩ := fixed_trim_fields s n h
  unfold State.usableSample movedStage
  rw [fixed_nextSetPoint]
  have hat' : (fixed s n h).trim.attempt = some a := by rw [htrim, ← hat]
  have hoffset : (fixed s n h).trim.offset = s.trim.offset := by rw [htrim]
  simp only [hat', hoffset, State.withTrim, hseq]
  rw [he, hg]

theorem movedStage_trim (s : State) (n : Byte) (h : Pose) :
    (movedStage s n h).trim.setPoint = movedSetPoint s h ∧ (movedStage s n h).trim.range = s.trim.range ∧
      (movedStage s n h).trim.attempt = s.trim.attempt ∧ (movedStage s n h).trim.tally = s.trim.tally ∧
      (movedStage s n h).trim.saturated = s.trim.saturated ∧ (movedStage s n h).trim.reach = s.trim.reach ∧
      (movedStage s n h).trim.settleCount = (fixed s n h).trim.settleCount := by
  obtain ⟨k, htrim⟩ := fixed_trim_fields s n h
  unfold movedStage
  simp [htrim]

theorem movedStage_frame (s : State) (n : Byte) (h : Pose) :
    (movedStage s n h).seq = s.seq ∧ (movedStage s n h).control = s.control ∧
      (movedStage s n h).tracker = (fixed s n h).tracker ∧ (movedStage s n h).head = (fixed s n h).head := by
  obtain ⟨hseq, hcontrol, -⟩ := fixed_frame s n h
  exact ⟨hseq, hcontrol, rfl, rfl⟩

theorem touches_movedStage (s : State) (n : Byte) (h : Pose) :
    Touches [.tracker, .trim, .head] [.unsteady] s (movedStage s n h) :=
  (touches_fixed s n h).trans (touches_withTrim _ _).mono

/-- What keeps the settle count at 0. -/
theorem settleBlocked_movedStage (s : State) (n : Byte) (h : Pose) :
    (movedStage s n h).settleBlocked = true ↔ (fixed s n h).tracker.state ≠ .tracking ∨ s.control.boomMoving = true ∨
      s.control.manualGrant = true ∨ s.control.emergency = true := by
  obtain ⟨-, hcontrol, htracker, -⟩ := movedStage_frame s n h
  simp [State.settleBlocked, hcontrol, htracker, or_assoc]

theorem settle_usable {bytes : List Byte} {n : Byte} {h : Pose} {a : Attempt} {g e : Pose} {s : State}
    (ha : FrameArrives s bytes (.fix n h)) (hu : (voteClass s.seq.profile s.tracker.history ⟨h, s.time⟩).usable = true)
    (hat : s.trim.attempt = some a) (hg : g = neutralPose h s.trim.offset)
    (he : e = poseError (effectiveTarget s.seq.profile a g) g) :
    ∃ t, exec (.trackerFrame bytes) s = .next t ∧
      (Saturated s.seq.profile s.trim.range e → s.trim.saturated ≤ 1024 →
        t.trim.saturated = min 1024 (s.trim.saturated + 1) ∧
          (s.trim.saturated < s.seq.profile.reachCount → s.seq.profile.reachCount ≤ t.trim.saturated →
            t.trim.reach = some a.entry ∧ hasCause t .reach = true) ∧
          (s.seq.profile.reachCount ≤ s.trim.saturated ∨ t.trim.saturated < s.seq.profile.reachCount →
            t.trim.reach = s.trim.reach ∧ hasCause t .reach = hasCause s .reach)) ∧
      (¬Saturated s.seq.profile s.trim.range e →
        t.trim.saturated = 0 ∧ t.trim.reach = none ∧ hasCause t .reach = hasCause s .reach) ∧
      (withinTolerance s.seq.profile a.kind (poseSub t.trim.setPoint e) = false ∨ t.tracker.state ≠ .tracking ∨
          s.control.boomMoving = true ∨ s.control.manualGrant = true ∨ s.control.emergency = true →
        t.trim.settleCount = 0) ∧
      (withinTolerance s.seq.profile a.kind (poseSub t.trim.setPoint e) = true → s.tracker.state = .tracking →
        t.tracker.state = .tracking → s.control.boomMoving = false → s.control.manualGrant = false →
        s.control.emergency = false → t.trim.settleCount = min 63 (s.trim.settleCount + 1)) ∧
      (a.decided = false → t.trim.tally = min 65535 (s.trim.tally + 1)) ∧
      (a.decided = true → t.trim.tally = s.trim.tally) := by
  refine ⟨_, exec_fix_attempt ha hu hat hg he, ?_⟩
  obtain ⟨m1, m2, -, m4, m5, m6, m7⟩ := movedStage_trim s n h
  obtain ⟨hseq, -, htracker, -⟩ := movedStage_frame s n h
  have hblocked := settleBlocked_movedStage s n h
  have hreach : hasCause (movedStage s n h) .reach = hasCause s .reach :=
    (touches_movedStage s n h).causes.others _ (by decide)
  have htrim := fixed_trim s n h
  generalize movedStage s n h = v at *
  generalize fixed s n h = u at *
  have hset : (finish s (v.workAttempt a g e)).trim.setPoint = movedSetPoint s h := by simp [m1]
  have hstate : (finish s (v.workAttempt a g e)).tracker.state = u.tracker.state := by simp [htracker]
  have hfinish : (finish s (v.workAttempt a g e)).trim = (v.workAttempt a g e).trim := by simp
  have hcause : hasCause (finish s (v.workAttempt a g e)) .reach = hasCause (v.workAttempt a g e) .reach :=
    hasCause_finish_of_ne _ _ (by decide)
  obtain ⟨w1, w2⟩ := workAttempt_settle v a g e
  obtain ⟨w3, w4, w5⟩ := workAttempt_saturation v a g e
  rw [m4] at w2
  simp only [ReachesNow, hseq, m2, m5, m6, hreach] at w3 w4 w5
  rw [hset, hstate, hfinish, hcause, w1, w2]
  have hraises : raisesCount v a e =
      (!v.settleBlocked && withinTolerance s.seq.profile a.kind (poseSub (movedSetPoint s h) e)) := by
    rw [raisesCount, hseq, m1]
  refine ⟨fun hsat _ => ?_, w5, fun hb => ?_, fun hw hts htt hb hm hem => ?_, fun hd => by simp [hd], fun hd => by simp [hd]⟩
  · refine ⟨?_, fun hlt hle => ?_, fun hor => ?_⟩
    · by_cases hr : s.trim.saturated < s.seq.profile.reachCount ∧ s.seq.profile.reachCount ≤ min 1024 (s.trim.saturated + 1)
      · exact (w3 hsat hr).1
      · exact (w4 hsat hr).1
    · have hcount : (v.workAttempt a g e).trim.saturated = min 1024 (s.trim.saturated + 1) := by
        by_cases hr : s.trim.saturated < s.seq.profile.reachCount ∧
          s.seq.profile.reachCount ≤ min 1024 (s.trim.saturated + 1)
        · exact (w3 hsat hr).1
        · exact (w4 hsat hr).1
      exact (w3 hsat ⟨hlt, hcount ▸ hle⟩).2
    · refine (w4 hsat fun hr => ?_).2
      rw [(w3 hsat hr).1] at hor
      omega
  · rw [hraises, State.countSettle]
    refine if_neg fun hc => ?_
    rcases hb with hb | hb
    · simp [hb] at hc
    · simp [hblocked.2 hb] at hc
  · have hfree : v.settleBlocked = false := by
      rw [← Bool.not_eq_true, hblocked]
      simp [htt, hb, hm, hem]
    have hcount : v.trim.settleCount = s.trim.settleCount := by rw [m7, htrim, if_neg (by simp [htt])]
    rw [hraises, hfree, hw, ← hcount]
    rfl

theorem settle_unusable {bytes : List Byte} {n : Byte} {h : Pose} {c : SampleClass} {s : State}
    (ha : FrameArrives s bytes (.fix n h)) (hc : c = voteClass s.seq.profile s.tracker.history ⟨h, s.time⟩)
    (hu : c.usable = false) :
    ∃ t, exec (.trackerFrame bytes) s = .next t ∧
      (c = .unstable ∨ (s.tracker.state = .tracking ∧ t.tracker.state ≠ .tracking) →
        t.trim = { s.trim with settleCount := 0 }) ∧
      (c ≠ .unstable → s.tracker.state ≠ .tracking ∨ t.tracker.state = .tracking → t.trim = s.trim) := by
  refine ⟨_, exec_fix_unusable ha (hc ▸ hu), ?_⟩
  rw [← hc]
  have htrim := fixed_trim s n h
  obtain ⟨k, hk⟩ := fixed_trim_fields s n h
  generalize fixed s n h = v at *
  have hfinish : ∀ u : State, (finish s u).trim = u.trim ∧ (finish s u).tracker = u.tracker := fun u => by simp
  have hstate : (if c = .unstable then v.zeroSettle else v).tracker = v.tracker := by split <;> simp
  rw [(hfinish _).1, (hfinish _).2, hstate]
  by_cases hun : c = .unstable
  · rw [if_pos hun]
    exact ⟨fun _ => by simp [State.zeroSettle, hk], fun hne => absurd hun hne⟩
  · rw [if_neg hun, htrim]
    refine ⟨fun h => if_pos (h.resolve_left hun), fun _ h => if_neg fun hleft => ?_⟩
    exact h.elim (fun h => h hleft.1) hleft.2

/-- Settles O41, by whether the sample is usable. -/
theorem samplesSettleAndAskForReach : Obligations.SamplesSettleAndAskForReach :=
  ⟨fun _ _ _ _ _ _ _ ha hu hat hg he => settle_usable ha hu hat hg he, fun _ _ _ _ _ ha hc hu => settle_unusable ha hc hu⟩

/-! ### The settled sample -/

theorem causesKeptBut_of_stands {c : Cause} {cs : List Cause} {s t : State} (h : CausesKeptBut (c :: cs) s t)
    (hc : hasCause t c = hasCause s c) (hne : c ≠ .supplyStarved) : CausesKeptBut cs s t := by
  refine ⟨fun d hd hs => ?_, fun hs => h.2 (by simpa [hne.symm] using hs)⟩
  by_cases heq : d = c
  · rw [heq, hc]
  · exact h.1 d (by simp [heq, hd]) hs

/-- A usable sample with a bad count below the on threshold leaves TRACKING standing. -/
theorem fixed_tracking {s : State} {n : Byte} {h : Pose} (hs : s.tracker.state = .tracking)
    (hu : (voteClass s.seq.profile s.tracker.history ⟨h, s.time⟩).usable = true)
    (hb : badCount (appendWindow s.tracker.window (voteClass s.seq.profile s.tracker.history ⟨h, s.time⟩)) <
      s.seq.profile.unsteadyOn) :
    (fixed s n h).tracker.state = .tracking ∧ (fixed s n h).trim = s.trim ∧ (fixed s n h).head = s.head ∧
      hasCause (fixed s n h) .unsteady = hasCause s .unsteady := by
  have hstate : (fixed s n h).tracker.state = .tracking := by
    rw [fixed_tracker, hs]
    refine ((nextTracking_cases _ _ _ _).2.2.2.1 (fun he => ?_) rfl).trans (if_neg (by omega))
    rw [he] at hu
    cases hu
  refine ⟨hstate, by rw [fixed_trim, hstate, if_neg (by simp)], by rw [fixed_head, hs, if_neg (by decide)], ?_⟩
  have hnot : (sampledTracker (noted s n) h).state ≠ .unsteady := by
    rw [← sampled_tracker]
    intro he
    rw [fixed, he] at hstate
    cases hstate
  rw [fixed, sampled_unsteady, decide_eq_false hnot]
  simp only [Bool.false_and, Bool.or_false]
  exact hasCause_congr (by simp [noted]) _

/-- Settles O42, by what the settled attempt wants. -/
theorem settledSampleDecidesTheAttempt : Obligations.SettledSampleDecidesTheAttempt := by
  intro bytes n h a g e sp s ha hts hu hbad hboom hgrant hem hat hd hg he hsp hw hn
  refine ⟨_, exec_fix_attempt ha hu hat hg he, ?_⟩
  obtain ⟨hstate, htrim, hhead, hunsteady⟩ := fixed_tracking (n := n) hts hu hbad
  obtain ⟨m1, m2, m3, m4, -, -, m7⟩ := movedStage_trim s n h
  obtain ⟨hseq, -, -, hmhead⟩ := movedStage_frame s n h
  have hmoved : movedSetPoint s h = sp := by
    rw [movedSetPoint, if_neg (by simp [hboom, hem]), demand_attempt hgrant hat hg, ← he, hsp]
  have hfree : (movedStage s n h).settleBlocked = false := by
    rw [← Bool.not_eq_true, settleBlocked_movedStage]
    simp [hstate, hboom, hgrant, hem]
  have htouch := (touches_movedStage s n h).mono (bs' := [.tracker, .trim, .head]) (cs' := [.unsteady, .confirmWait, .reach])
  have hbefore : hasCause (movedStage s n h) .unsteady = hasCause s .unsteady :=
    ((touches_withTrim (fixed s n h) _).causes.others (cs := []) _ (by decide)).trans hunsteady
  have hwait : hasCause (movedStage s n h) .confirmWait = hasCause s .confirmWait :=
    (touches_movedStage s n h).causes.others _ (by decide)
  rw [hmoved] at m1
  rw [hhead] at hmhead
  rw [htrim] at m7
  rw [← hseq] at hw hn
  rw [← m7] at hn ⊢
  rw [← m4]
  rw [← m1] at hw ⊢
  rw [← hmhead, ← hwait]
  rw [hat] at m3
  generalize movedStage s n h = v at *
  have hraises : raisesCount v a e = true := by rw [raisesCount, hfree, hw]; rfl
  obtain ⟨w1, w2⟩ := workAttempt_settle v a g e
  rw [hraises] at w1
  rw [if_neg (by simp [hd])] at w2
  have hclosed := (htouch.trans (touches_workAttempt v a g e).mono).closed
  have hfinal : hasCause (finish s (v.workAttempt a g e)) .unsteady = hasCause s .unsteady :=
    (hasCause_finish_of_ne _ _ (by decide)).trans (((touches_workAttempt v a g e).causes.others _ (by decide)).trans hbefore)
  have hframe : (finish s (v.workAttempt a g e)).trim = (v.workAttempt a g e).trim ∧
      (finish s (v.workAttempt a g e)).head = (v.workAttempt a g e).head := by simp
  have hconfirm : hasCause (finish s (v.workAttempt a g e)) .confirmWait = hasCause (v.workAttempt a g e) .confirmWait :=
    hasCause_finish_of_ne _ _ (by decide)
  rw [hframe.1, hframe.2, hconfirm, w1, w2]
  refine ⟨by simp, if_pos rfl, rfl, ?_⟩
  -- the decision is taken in the state after the saturation test
  obtain ⟨n1, n2, n3, -⟩ := testSaturation_keeps (counted v a true) a e
  have hbase : ((counted v a true).testSaturation a e).head = v.head ∧
      ((counted v a true).testSaturation a e).trim.setPoint = v.trim.setPoint ∧
      hasCause ((counted v a true).testSaturation a e) .confirmWait = hasCause v .confirmWait := by
    refine ⟨by simp [counted], by simp [counted], ?_⟩
    exact ((touches_testSaturation _ a e).causes.others _ (by decide)).trans (hasCause_congr rfl _)
  have htally : (counted v a true).trim.tally = min 65535 (v.trim.tally + 1) := by simp [counted, hd]
  have hsettles : Settles ((counted v a true).testSaturation a e) a true :=
    ⟨rfl, hd, by rw [n1]; simpa [counted, State.countSettle] using hn⟩
  have hattempt : ((counted v a true).testSaturation a e).trim.attempt = some a := n3.trans m3
  rw [htally] at n2
  obtain ⟨b1, b2, b3⟩ := hbase
  have hwork : v.workAttempt a g e = ((counted v a true).testSaturation a e).takeDecision a true g e := by
    rw [workAttempt_eq, hraises]
  rw [hwork] at hclosed hfinal ⊢
  generalize (counted v a true).testSaturation a e = x at *
  rw [← b2, ← b1, ← b3, ← n2]
  refine ⟨fun hk hc => ?_, fun hk => ?_, fun hk hh hc => ?_, fun hor => ?_, hclosed.1,
    causesKeptBut_of_stands hclosed.2 hfinal (by decide)⟩
  · rw [takeDecision_release hsettles hk (b1 ▸ hc)]
    simp [State.decideRelease]
  · rw [takeDecision_probe hsettles hk]
    simp [State.decideProbe]
  · rw [takeDecision_waits hsettles hk hh (b1 ▸ hc)]
    obtain ⟨k1, k2, k3⟩ := waitConfirm_spec hattempt
    exact ⟨k1, k2, fun hc => by simp [k3, hc], fun hc => by simp [k3, hc]⟩
  · cases hk : a.kind with
    | probe =>
      rw [takeDecision_probe hsettles hk]
      exact hasCause_congr (by simp) _
    | lay =>
      rw [hk] at hor
      rw [takeDecision_release hsettles hk fun hh => by simpa [hh, b1] using hor]
      exact hasCause_congr (by simp) _

end Sys2Proof
end

section
/-! SUPPORT. Fields of a word, and the failure of an attempt (3.5, 8.8): what it writes, counts and gives up. -/

namespace Sys2Proof

open Sys2Proof.Machine

/-! ### Fields of a word (R197) -/

theorem getLsbD_fieldMask {lo n j : Nat} (hj : j < 32) :
    (fieldMask lo n).getLsbD j = (decide (lo ≤ j) && decide (j < lo + n)) := by
  rw [fieldMask, BitVec.getLsbD_ofNat, Nat.testBit_mul_two_pow, Nat.testBit_two_pow_sub_one]
  by_cases h : lo ≤ j
  · simp [hj, h, show j - lo < n ↔ j < lo + n by omega]
  · simp [h]

theorem getLsbD_putField {v : Word} {lo n x j : Nat} (hj : j < 32) :
    (putField v lo n x).getLsbD j = if lo ≤ j ∧ j < lo + n then x.testBit (j - lo) else v.getLsbD j := by
  rw [putField, BitVec.getLsbD_or, BitVec.getLsbD_and, BitVec.getLsbD_not, getLsbD_fieldMask hj, BitVec.getLsbD_ofNat,
    Nat.testBit_mul_two_pow, Nat.testBit_mod_two_pow]
  by_cases h1 : lo ≤ j
  · by_cases h2 : j < lo + n
    · simp [h1, h2, hj, show j - lo < n by omega]
    · simp [h1, h2, hj, show ¬j - lo < n by omega]
  · simp [h1, hj]

theorem field_putField {v : Word} {lo n x : Nat} (h : lo + n ≤ 32) : field (putField v lo n x) lo n = x % 2 ^ n := by
  have heq : (putField v lo n x).extractLsb' lo n = BitVec.ofNat n x := by
    refine BitVec.eq_of_getLsbD_eq fun j hj => ?_
    rw [BitVec.getLsbD_extractLsb', getLsbD_putField (by omega), if_pos (by omega), BitVec.getLsbD_ofNat]
    simp [hj]
  rw [field, heq, BitVec.toNat_ofNat]

theorem field_putField_ne {v : Word} {lo n x lo' n' : Nat} (h : lo' + n' ≤ 32) (hd : lo' + n' ≤ lo ∨ lo + n ≤ lo') :
    field (putField v lo n x) lo' n' = field v lo' n' := by
  have heq : (putField v lo n x).extractLsb' lo' n' = v.extractLsb' lo' n' := by
    refine BitVec.eq_of_getLsbD_eq fun j hj => ?_
    rw [BitVec.getLsbD_extractLsb', BitVec.getLsbD_extractLsb', getLsbD_putField (by omega), if_neg (by omega)]
  rw [field, heq, field]

/-- A field within a field that stands stands. -/
theorem field_of_low {v w : Word} (h : field v 0 16 = field w 0 16) {lo n : Nat} (hn : lo + n ≤ 16) :
    field v lo n = field w lo n := by
  have hinner : ∀ x : Word, field x lo n = field x 0 16 / 2 ^ lo % 2 ^ n := fun x => by
    rw [field_eq, field_eq, Nat.pow_zero, Nat.div_one]
    have hsplit : 2 ^ 16 = 2 ^ lo * 2 ^ (16 - lo) := by rw [← Nat.pow_add, show lo + (16 - lo) = 16 by omega]
    rw [hsplit, Nat.mod_mul_right_div_self, Nat.mod_mod_of_dvd]
    exact Nat.pow_dvd_pow 2 (by omega)
  rw [hinner v, hinner w, h]

/-! ### The report of an attempt failure (R59) -/

/-- The record has left the list, and attempts used and last reason are written. -/
def reported (s : State) (i : EntryIx) (n : Nat) (reason : Reason) : State := (s.setAttempt i n reason).removeRecord i

@[simp] theorem reported_frame (s : State) (i : EntryIx) (n : Nat) (reason : Reason) :
    (reported s i n reason).seq = s.seq ∧ (reported s i n reason).host = s.host ∧ (reported s i n reason).time = s.time ∧
      (reported s i n reason).issue.list = s.issue.list.filter (fun x => x.entry ≠ i) := by
  unfold reported
  simp [State.removeRecord]

theorem touches_reported (s : State) (i : EntryIx) (n : Nat) (reason : Reason) :
    Touches [.bytes, .list] [] s (reported s i n reason) :=
  (touches_setAttempt s i n reason).mono.trans (touches_removeRecord _ i).mono

theorem bytesKept_reported {s : State} (hw : BookWf s) (i : EntryIx) (n : Nat) (reason : Reason) :
    BytesKeptOutside [(entryAddr i 7, 4)] s (reported s i n reason) := fun x hx =>
  State.read_setWord_ne s _ x _ hw (entryAddr_fits i 7 (by omega)) (hx _ (List.mem_singleton_self _))

theorem reported_wf {s : State} (hw : BookWf s) (i : EntryIx) (n : Nat) (reason : Reason) :
    BookWf (reported s i n reason) := State.setAttempt_wf s i n reason hw

theorem sameCourses_reported {s : State} (hw : BookWf s) (i : EntryIx) (n : Nat) (reason : Reason) :
    SameCourses s (reported s i n reason) :=
  .of_bytes (bytesKept_reported hw i n reason) (fun r hr => terminalWords_above (i := i) (by
    rw [List.mem_singleton.1 hr]
    simp [terminalWords])) (by simp) (by simp) (by simp)

theorem reasonCode_lt (r : Reason) : reasonCodeOf r < 8 := by cases r <;> decide

theorem reported_fields {s : State} (hw : BookWf s) (i : EntryIx) (n : Nat) (reason : Reason) :
    field ((reported s i n reason).word (entryAddr i 7)) 0 3 = n % 8 ∧
      field ((reported s i n reason).word (entryAddr i 7)) 8 3 = reasonCodeOf reason := by
  have hword : (reported s i n reason).word (entryAddr i 7) =
      putField (putField (s.word (entryAddr i 7)) 0 3 n) 8 3 (reasonCodeOf reason) :=
    State.word_setWord s _ _ hw (entryAddr_fits i 7 (by omega))
  rw [hword]
  refine ⟨(field_putField_ne (by omega) (by omega)).trans (field_putField (by omega)), ?_⟩
  rw [field_putField (by omega)]
  exact Nat.mod_eq_of_lt (reasonCode_lt reason)

theorem activeStrict_congr {s t : State} (h : SameCourses s t) : t.activeStrict = s.activeStrict := by
  unfold State.activeStrict State.courseStrict
  rw [h.seq]
  cases s.seq.active with
  | none => rfl
  | some k => exact congrArg (fun w : Word => w.getLsbD 0) (h.word k 4 (by omega))

theorem issueRecord_of {s : State} {r : IssueRecord} (hd : DistinctEntries s) (hr : r ∈ s.issue.list) :
    s.issueRecord r.entry = some r := by
  rw [State.issueRecord, List.find?_eq_some_iff_append]
  obtain ⟨l1, l2, hl⟩ := List.append_of_mem hr
  refine ⟨by simp, l1, l2, hl, fun x hx => ?_⟩
  unfold DistinctEntries at hd
  rw [hl, List.map_append, List.map_cons, List.nodup_append] at hd
  simpa using hd.2.2 _ (List.mem_map_of_mem (f := fun r => r.entry) hx) _ (List.mem_cons_self ..)

/-- An entry goes back to POSTED, or is cancelled; in a strict-order course the records behind go with it. -/
theorem attemptFailure_retry {s : State} {r : IssueRecord} (reason : Reason) (hw : BookWf s) (hd : DistinctEntries s)
    (hr : r ∈ s.issue.list) (hn : r.attemptsUsed + 1 < r.maxAttempts) :
    s.attemptFailure r.entry reason =
      if s.activeStrict then
        ((reported s r.entry (r.attemptsUsed + 1) reason).returnToPosted r.entry).displaceAll
          (recordsBehind r.entry s.issue.list)
      else (reported s r.entry (r.attemptsUsed + 1) reason).returnToPosted r.entry := by
  have hstrict : (s.setAttempt r.entry (r.attemptsUsed + 1) reason).activeStrict = s.activeStrict :=
    (activeStrict_congr (s := s.setAttempt r.entry (r.attemptsUsed + 1) reason)
      (t := reported s r.entry (r.attemptsUsed + 1) reason) (.of_book rfl rfl rfl (hasCause_congr rfl _))).symm.trans
      (activeStrict_congr (sameCourses_reported hw r.entry (r.attemptsUsed + 1) reason))
  rw [State.attemptFailure, issueRecord_of hd hr]
  dsimp only
  rw [if_pos hn, State.retry, hstrict]
  rfl

/-- An entry that fails finally, before the cause. -/
def failedFinally (s : State) (i : EntryIx) (n : Nat) (reason : Reason) : State :=
  ((reported s i n reason).finishEntry i .failed (reasonResult reason)).countTerminal i .failed

theorem attemptFailure_final {s : State} {r : IssueRecord} (reason : Reason) (hd : DistinctEntries s)
    (hr : r ∈ s.issue.list) (hn : r.maxAttempts ≤ r.attemptsUsed + 1) :
    s.attemptFailure r.entry reason =
      (failedFinally s r.entry (r.attemptsUsed + 1) reason).raise .entryFailed := by
  rw [State.attemptFailure, issueRecord_of hd hr]
  dsimp only
  rw [if_neg (by omega)]
  rfl

end Sys2Proof
end

section
/-! SUPPORT. What the report of an attempt failure leaves in the entry and in the counts (3.5, 2.4, 2.5). -/

namespace Sys2Proof

open Sys2Proof.Machine

/-! ### What leaves an entry alone -/

/-- The words of an entry and the cause ENTRY_FAILED stand, and the list gains nothing. -/
structure EntryStands (i : EntryIx) (s t : State) : Prop where
  word : ∀ w, w < 16 → t.word (entryAddr i w) = s.word (entryAddr i w)
  failed : hasCause t .entryFailed = hasCause s .entryFailed
  list : t.issue.list ⊆ s.issue.list

theorem EntryStands.refl (i : EntryIx) (s : State) : EntryStands i s s := ⟨fun _ _ => rfl, rfl, fun _ h => h⟩

theorem EntryStands.trans {i : EntryIx} {s t u : State} (h1 : EntryStands i s t) (h2 : EntryStands i t u) :
    EntryStands i s u :=
  ⟨fun w hw => (h2.word w hw).trans (h1.word w hw), h2.failed.trans h1.failed, fun _ h => h1.list (h2.list h)⟩

theorem EntryStands.state {i : EntryIx} {s t : State} (h : EntryStands i s t) : t.entryState i = s.entryState i :=
  State.entryState_congr (h.word 0 (by omega))

theorem EntryStands.of_book {i : EntryIx} {s t : State} (hb : t.book.cells = s.book.cells)
    (hc : hasCause t .entryFailed = hasCause s .entryFailed) (hl : t.issue.list = s.issue.list) : EntryStands i s t :=
  ⟨fun _ _ => State.word_congr hb _, hc, fun _ h => hl ▸ h⟩

theorem entryStands_finish (i : EntryIx) (old u : State) : EntryStands i u (finish old u) :=
  .of_book (by simp) (hasCause_finish_of_ne old u (by decide)) (by simp)

/-- What a displacement leaves of the list. -/
theorem displace_list (s : State) (x : IssueRecord) :
    (s.displace x).issue.list = s.issue.list.filter fun y => y.entry ≠ x.entry := by
  simpa using foldl_displace_list [x] s

/-- The words of one entry stand when another goes back to POSTED. -/
theorem setEntryState_word_ne {s : State} (hw : BookWf s) {i j : EntryIx} (h : j ≠ i) (e : EntryState) {w : Nat}
    (hlt : w < 16) : (s.setEntryState i e).word (entryAddr j w) = s.word (entryAddr j w) := by
  refine (bytesKept_setEntryState hw i e).word fun r hr => ?_
  rw [List.mem_singleton.1 hr]
  exact entryAddr_disjoint (i := i) (j := j) (v := w) (w := 0) hlt (by omega) (.inl h.symm)

theorem returnToPosted_word_ne {s : State} (hw : BookWf s) {i j : EntryIx} (h : j ≠ i) {w : Nat} (hlt : w < 16) :
    (s.returnToPosted i).word (entryAddr j w) = s.word (entryAddr j w) := by
  by_cases hc : UnderCloseRequest (s.setEntryState i .posted) i
  · rw [State.returnToPosted, cancelIfClosing_of_closing hc,
      cancelEntry_word_ne (State.setEntryState_wf s i .posted hw) h hlt, setEntryState_word_ne hw h _ hlt]
  · rw [State.returnToPosted, cancelIfClosing_of_not hc, setEntryState_word_ne hw h _ hlt]

theorem entryStands_displace {s : State} (hw : BookWf s) {x : IssueRecord} {i : EntryIx} (h : x.entry ≠ i) :
    EntryStands i s (s.displace x) where
  word := fun w hlt => by
    have hbook : (s.displace x).book.cells = ((s.removeRecord x.entry).returnToPosted x.entry).book.cells :=
      congrArg _ (by simp [State.displace])
    rw [State.word_congr hbook]
    exact returnToPosted_word_ne (s := s.removeRecord x.entry) hw h.symm hlt
  failed := (touches_displace s x).causes.others _ (by decide)
  list := by
    rw [displace_list]
    exact List.filter_subset_self _

theorem entryStands_foldl_displace {i : EntryIx} (l : List IssueRecord) {s : State} (hw : BookWf s)
    (h : ∀ x ∈ l, x.entry ≠ i) : EntryStands i s (l.foldl State.displace s) := by
  induction l generalizing s with
  | nil => exact .refl i s
  | cons x l ih =>
    exact (entryStands_displace hw (h x (List.mem_cons_self ..))).trans
      (ih (State.displace_wf s x hw) fun y hy => h y (List.mem_cons_of_mem _ hy))

theorem entryStands_displaceAll {i : EntryIx} (l : List IssueRecord) {s : State} (hw : BookWf s)
    (h : ∀ x ∈ l, x.entry ≠ i) : EntryStands i s (s.displaceAll l) :=
  (entryStands_foldl_displace l hw h).trans (.of_book (t := (l.foldl State.displace s).showTrain) (by simp)
    (hasCause_congr (by simp) _) (by simp))

/-- The records behind a record of the list are others'. -/
theorem recordsBehind_of_split {l1 l2 : List IssueRecord} {r : IssueRecord}
    (hd : ((l1 ++ r :: l2).map fun x => x.entry).Nodup) : recordsBehind r.entry (l1 ++ r :: l2) = l2 := by
  rw [List.map_append, List.map_cons, List.nodup_append] at hd
  have hfirst : ∀ x ∈ l1, decide (x.entry ≠ r.entry) = true := fun x hx => by
    simpa using hd.2.2 _ (List.mem_map_of_mem (f := fun r => r.entry) hx) _ (List.mem_cons_self ..)
  rw [recordsBehind, List.dropWhile_append_of_pos hfirst, List.dropWhile_cons_of_neg (by simp)]
  rfl

theorem entry_ne_of_split {l1 l2 : List IssueRecord} {r : IssueRecord}
    (hd : ((l1 ++ r :: l2).map fun x => x.entry).Nodup) : ∀ x ∈ l2, x.entry ≠ r.entry := by
  intro x hx he
  rw [List.map_append, List.map_cons, List.nodup_append, List.nodup_cons] at hd
  exact hd.2.1.1 (he ▸ List.mem_map_of_mem (f := fun r => r.entry) hx)

theorem recordsBehind_ne {s : State} {r : IssueRecord} (hd : DistinctEntries s) (hr : r ∈ s.issue.list) :
    ∀ x ∈ recordsBehind r.entry s.issue.list, x.entry ≠ r.entry := by
  obtain ⟨l1, l2, hl⟩ := List.append_of_mem hr
  unfold DistinctEntries at hd
  rw [hl] at hd ⊢
  rw [recordsBehind_of_split hd]
  exact entry_ne_of_split hd

/-! ### The outcome of a report -/

theorem AttemptFailed.stands {r : IssueRecord} {reason : Reason} {s t u : State} (h : AttemptFailed r reason s t)
    (hu : EntryStands r.entry t u) : AttemptFailed r reason s u := by
  unfold AttemptFailed
  rw [hu.word 7 (by omega), hu.word 13 (by omega), hu.failed, hu.state]
  obtain ⟨h1, h2, h3, hrest⟩ := h
  exact ⟨h1, h2, fun x hx => h3 x (hu.list hx), hrest⟩

/-- The report is judged from an earlier state that has the same time and cause. -/
theorem AttemptFailed.from {r : IssueRecord} {reason : Reason} {s v t : State} (h : AttemptFailed r reason v t)
    (ht : v.time = s.time) (hc : hasCause v .entryFailed = hasCause s .entryFailed) : AttemptFailed r reason s t := by
  unfold AttemptFailed at *
  rwa [ht, hc] at h

/-- Before an entry fails or goes back its record has left the list. -/
theorem reported_ne {s : State} {i : EntryIx} {n : Nat} {reason : Reason} :
    ∀ x ∈ (reported s i n reason).issue.list, x.entry ≠ i := by
  rw [(reported_frame s i n reason).2.2.2]
  intro x hx
  simpa using (List.mem_filter.1 hx).2

/-- The entry has gone back to POSTED, and nothing more. -/
def returned (s : State) (i : EntryIx) (n : Nat) (reason : Reason) : State :=
  (reported s i n reason).setEntryState i .posted

theorem returned_wf {s : State} (hw : BookWf s) (i : EntryIx) (n : Nat) (reason : Reason) : BookWf (returned s i n reason) :=
  State.setEntryState_wf _ _ _ (reported_wf hw i n reason)

theorem sameCourses_returned {s : State} (hw : BookWf s) (i : EntryIx) (n : Nat) (reason : Reason) :
    SameCourses s (returned s i n reason) :=
  (sameCourses_reported hw i n reason).trans (sameCourses_setEntryState (reported_wf hw i n reason) i .posted)

theorem touches_returned (s : State) (i : EntryIx) (n : Nat) (reason : Reason) :
    Touches [.bytes, .list] [] s (returned s i n reason) :=
  (touches_reported s i n reason).trans (touches_setEntryState _ i .posted).mono

theorem bytesKept_returned {s : State} (hw : BookWf s) (i : EntryIx) (n : Nat) (reason : Reason) :
    BytesKeptOutside [(entryAddr i 0, 4), (entryAddr i 7, 4)] s (returned s i n reason) :=
  bytesKept_trans (bytesKept_mono (bytesKept_reported hw i n reason) (by simp))
    (bytesKept_mono (bytesKept_setEntryState (reported_wf hw i n reason) i .posted) (by simp))

theorem returned_list (s : State) (i : EntryIx) (n : Nat) (reason : Reason) :
    (returned s i n reason).issue.list = s.issue.list.filter fun x => x.entry ≠ i := by
  simp [returned]

theorem returned_entry {s : State} (hw : BookWf s) (i : EntryIx) (n : Nat) (reason : Reason) :
    (returned s i n reason).entryState i = some .posted ∧
      (returned s i n reason).word (entryAddr i 7) = (reported s i n reason).word (entryAddr i 7) := by
  have hw' := reported_wf hw i n reason
  refine ⟨State.entryState_setEntryState _ i .posted hw', (bytesKept_setEntryState hw' i .posted).word ?_⟩
  simp [entryAddr]

/-- A retry that is not cancelled. -/
theorem returnToPosted_of_not {s : State} (hw : BookWf s) {i : EntryIx} {n : Nat} {reason : Reason}
    (hc : ¬UnderCloseRequest s i) : (reported s i n reason).returnToPosted i = returned s i n reason :=
  cancelIfClosing_of_not (mt ((sameCourses_returned hw i n reason).underCloseRequest_iff i).1 hc)

/-- A retry that is cancelled at once. -/
theorem returnToPosted_of_closing {s : State} (hw : BookWf s) {i : EntryIx} {n : Nat} {reason : Reason}
    (hc : UnderCloseRequest s i) : (reported s i n reason).returnToPosted i = (returned s i n reason).cancelEntry i :=
  cancelIfClosing_of_closing (((sameCourses_returned hw i n reason).underCloseRequest_iff i).2 hc)

theorem attemptFailed_returned {s : State} (hw : BookWf s) {r : IssueRecord} (reason : Reason)
    (hn : r.attemptsUsed + 1 < r.maxAttempts) :
    AttemptFailed r reason s (returned s r.entry (r.attemptsUsed + 1) reason) := by
  obtain ⟨hstate, hword⟩ := returned_entry hw r.entry (r.attemptsUsed + 1) reason
  obtain ⟨h1, h2⟩ := reported_fields hw r.entry (r.attemptsUsed + 1) reason
  rw [← hword] at h1 h2
  refine ⟨h1, h2, fun x hx => ?_, fun _ =>
    ⟨hstate, (touches_returned s r.entry _ reason).causes.others _ (by decide)⟩, fun h => by omega⟩
  rw [returned_list] at hx
  simpa using (List.mem_filter.1 hx).2

theorem ended_failedFinally {s : State} (hw : BookWf s) (i : EntryIx) (n : Nat) (reason : Reason) :
    Ended i .failed (reasonResult reason) (reported s i n reason) (failedFinally s i n reason) :=
  ended_finishEntry (reported_wf hw i n reason) i .failed (reasonResult reason)

theorem failedFinally_list (s : State) (i : EntryIx) (n : Nat) (reason : Reason) :
    (failedFinally s i n reason).issue.list = s.issue.list.filter fun x => x.entry ≠ i := by
  simp [failedFinally]

theorem touches_failedFinally (s : State) (i : EntryIx) (n : Nat) (reason : Reason) :
    Touches [.bytes, .seq, .list] [.courseClosed] s (failedFinally s i n reason) :=
  ((touches_reported s i n reason).mono.trans (touches_finishEntry _ i _ _).mono).trans (touches_countTerminal _ i _).mono

/-- The words of an entry that has failed finally. -/
theorem failedFinally_words {s : State} (hw : BookWf s) (i : EntryIx) (n : Nat) (reason : Reason) :
    field ((failedFinally s i n reason).word (entryAddr i 7)) 0 3 = n % 8 ∧
      field ((failedFinally s i n reason).word (entryAddr i 7)) 8 3 = reasonCodeOf reason ∧
      (failedFinally s i n reason).entryState i = some .failed ∧
      field ((failedFinally s i n reason).word (entryAddr i 7)) 16 4 = resultCodeOf (reasonResult reason) ∧
      (failedFinally s i n reason).word (entryAddr i 13) = s.time := by
  have h := ended_failedFinally hw i n reason
  obtain ⟨h1, h2⟩ := reported_fields hw i n reason
  obtain ⟨hresult, hlow⟩ := h.result
  exact ⟨(field_of_low hlow (by omega)).trans h1, (field_of_low hlow (by omega)).trans h2, h.state, hresult,
    h.stamp.trans (by simp)⟩

theorem attemptFailed_final {s : State} (hw : BookWf s) {r : IssueRecord} (reason : Reason)
    (hn : r.maxAttempts ≤ r.attemptsUsed + 1) :
    AttemptFailed r reason s ((failedFinally s r.entry (r.attemptsUsed + 1) reason).raise .entryFailed) := by
  obtain ⟨h1, h2, h3, h4, h5⟩ := failedFinally_words hw r.entry (r.attemptsUsed + 1) reason
  have hlist := failedFinally_list s r.entry (r.attemptsUsed + 1) reason
  generalize failedFinally s r.entry (r.attemptsUsed + 1) reason = v at *
  refine ⟨h1, h2, fun x hx => ?_, fun h => by omega, fun _ => ⟨h3, h4, h5, by simp⟩⟩
  have hx' : x ∈ v.issue.list := hx
  rw [hlist] at hx'
  simpa using (List.mem_filter.1 hx').2

theorem attemptFailed_attemptFailure {s : State} (hw : BookWf s) (hd : DistinctEntries s) {r : IssueRecord}
    (hr : r ∈ s.issue.list) (hc : ¬UnderCloseRequest s r.entry) (reason : Reason) :
    AttemptFailed r reason s (s.attemptFailure r.entry reason) := by
  by_cases hn : r.attemptsUsed + 1 < r.maxAttempts
  · rw [attemptFailure_retry reason hw hd hr hn, returnToPosted_of_not hw hc]
    have hback := attemptFailed_returned hw reason hn
    split
    · exact hback.stands (entryStands_displaceAll _ (returned_wf hw _ _ _) (recordsBehind_ne hd hr))
    · exact hback
  · rw [attemptFailure_final reason hd hr (by omega)]
    exact attemptFailed_final hw reason (by omega)

/-! ### The counts after a report -/

theorem FailureCounted.of_same {r : IssueRecord} {s v t t' : State} (h1 : SameCourses s v) (h2 : SameCourses t t')
    (h : FailureCounted r v t) : FailureCounted r s t' := by
  have hkept : (t.seq = v.seq ∧ ∀ k, t.courseFigures k = v.courseFigures k) →
      t'.seq = s.seq ∧ ∀ k, t'.courseFigures k = s.courseFigures k := fun ⟨hs, hf⟩ =>
    ⟨(h2.seq.trans hs).trans h1.seq, fun k => ((h2.courseFigures k).trans (hf k)).trans (h1.courseFigures k)⟩
  refine ⟨fun hn => hkept (h.1 hn), fun hn => ?_⟩
  obtain ⟨hno, htakes⟩ := h.2 hn
  refine ⟨fun hu => hkept (hno ((h1.uncounted_iff _).2 hu)), fun k f hk hf hfit => ?_⟩
  rw [← h1.courseFigures k] at hf
  exact takesFigures_of_same h1 h2 (htakes k f ((h1.inActive_iff k _).2 hk) hf hfit)

theorem failureCounted_final {s : State} (hw : BookWf s) {r : IssueRecord} (reason : Reason)
    (hn : r.maxAttempts ≤ r.attemptsUsed + 1) :
    FailureCounted r s ((failedFinally s r.entry (r.attemptsUsed + 1) reason).raise .entryFailed) := by
  have hsame := sameCourses_reported hw r.entry (r.attemptsUsed + 1) reason
  have h := ended_failedFinally hw r.entry (r.attemptsUsed + 1) reason
  have hfig := fun k => endedFigures_failed (reported_wf hw r.entry (r.attemptsUsed + 1) reason) k r.entry
    (reasonResult reason)
  generalize reported s r.entry (r.attemptsUsed + 1) reason = v at *
  generalize failedFinally s r.entry (r.attemptsUsed + 1) reason = t at *
  refine FailureCounted.of_same hsame
    (.of_book (s := t) rfl rfl rfl (by simp)) ⟨fun hlt => by omega, fun _ => ⟨fun hu => ?_, fun k f hk hf hfit => ?_⟩⟩
  · exact ⟨(h.uncounted hu).seq, fun k => (h.uncounted hu).courseFigures k⟩
  · rw [hf, ← hfig k] at hfit ⊢
    exact h.takes k hk hfit

theorem failureCounted_returned {s : State} (hw : BookWf s) {r : IssueRecord} (reason : Reason)
    (hn : r.attemptsUsed + 1 < r.maxAttempts) :
    FailureCounted r s (returned s r.entry (r.attemptsUsed + 1) reason) := by
  have hsame := sameCourses_returned hw r.entry (r.attemptsUsed + 1) reason
  exact ⟨fun _ => ⟨hsame.seq, fun k => hsame.courseFigures k⟩, fun h => by omega⟩

/-- A report that displaces nothing: its counts, its bytes and its frame. -/
theorem attemptFailure_counted {s : State} (hw : BookWf s) (hd : DistinctEntries s) {r : IssueRecord}
    (hr : r ∈ s.issue.list) (hc : ¬UnderCloseRequest s r.entry)
    (hs : s.activeStrict = false ∨ r.maxAttempts ≤ r.attemptsUsed + 1) (reason : Reason) :
    FailureCounted r s (s.attemptFailure r.entry reason) ∧
      (s.attemptFailure r.entry reason).issue.list = s.issue.list.filter (fun x => x.entry ≠ r.entry) ∧
      CountedBytes r.entry (terminalWords r.entry) s (s.attemptFailure r.entry reason) ∧
      Touches [.bytes, .seq, .list] [.entryFailed, .courseClosed] s (s.attemptFailure r.entry reason) := by
  by_cases hn : r.attemptsUsed + 1 < r.maxAttempts
  · rw [attemptFailure_retry reason hw hd hr hn, returnToPosted_of_not hw hc, hs.resolve_right (by omega), if_neg (by simp)]
    have hbytes := bytesKept_returned hw r.entry (r.attemptsUsed + 1) reason
    refine ⟨failureCounted_returned hw reason hn, returned_list .., ⟨fun _ => ?_, fun k _ => ?_⟩, (touches_returned ..).mono⟩
    · exact bytesKept_mono hbytes (by simp [terminalWords])
    · exact bytesKept_mono hbytes (by simp [terminalWords])
  · rw [attemptFailure_final reason hd hr (by omega)]
    have hbytes : CountedBytes r.entry (terminalWords r.entry) s (failedFinally s r.entry (r.attemptsUsed + 1) reason) :=
      countedBytes_trans (bytesKept_mono (bytesKept_reported hw r.entry _ reason) (by simp [terminalWords]))
        (ended_failedFinally hw r.entry _ reason).bytes (sameCourses_reported hw r.entry _ reason) (fun _ h => h)
    exact ⟨failureCounted_final hw reason (by omega), failedFinally_list .., countedBytes_congr hbytes rfl,
      (touches_failedFinally ..).mono.trans (touches_raise _ .entryFailed).mono⟩

/-! ### Under a close request -/

theorem FailedUnderCloseRequest.of_same {r : IssueRecord} {reason : Reason} {s v t : State} (h1 : SameCourses s v)
    (hc : hasCause v .entryFailed = hasCause s .entryFailed) (h : FailedUnderCloseRequest r reason v t) :
    FailedUnderCloseRequest r reason s t := by
  obtain ⟨ha, hb, hstamp, hretry, hfinal⟩ := h
  refine ⟨ha, hb, hstamp.trans h1.time, fun hn => ?_, fun hn => ?_⟩
  · obtain ⟨h2, h3, h4, h5⟩ := hretry hn
    refine ⟨h2, h3, h4.trans hc, fun k f hk hs hf hfit => ?_⟩
    rw [← h1.courseFigures k] at hf
    exact takesFigures_of_same h1 (.refl t) (h5 k f ((h1.inActive_iff k _).2 hk) ((activeStrict_congr h1).trans hs) hf hfit)
  · obtain ⟨h2, h3, h4, h5⟩ := hfinal hn
    exact ⟨h2, h3, h4, h5.of_same h1 (.refl t)⟩

/-- What follows may count further only where the course is strict. -/
theorem FailedUnderCloseRequest.stands {r : IssueRecord} {reason : Reason} {s t u : State}
    (h : FailedUnderCloseRequest r reason s t) (hu : EntryStands r.entry t u)
    (hs : r.attemptsUsed + 1 < r.maxAttempts ∧ s.activeStrict = true ∨ SameCourses t u) :
    FailedUnderCloseRequest r reason s u := by
  unfold FailedUnderCloseRequest
  rw [hu.word 7 (by omega), hu.word 13 (by omega), hu.failed, hu.state]
  obtain ⟨ha, hb, hstamp, hretry, hfinal⟩ := h
  refine ⟨ha, hb, hstamp, fun hn => ?_, fun hn => ?_⟩
  · obtain ⟨h2, h3, h4, h5⟩ := hretry hn
    refine ⟨h2, h3, h4, fun k f hk hns hf hfit => ?_⟩
    have hsame := hs.resolve_left fun hs => by simp [hs.2] at hns
    exact takesFigures_of_same (.refl s) hsame (h5 k f hk hns hf hfit)
  · obtain ⟨h2, h3, h4, h5⟩ := hfinal hn
    exact ⟨h2, h3, h4, h5.of_same (.refl s) (hs.resolve_left fun hs => by omega)⟩

theorem ended_cancelReturned {s : State} (hw : BookWf s) (i : EntryIx) (n : Nat) (reason : Reason) :
    Ended i .cancelled .cancelled (returned s i n reason) ((returned s i n reason).cancelEntry i) :=
  ended_cancelEntry (returned_wf hw i n reason) i

theorem failedUnderClose_retry {s : State} (hw : BookWf s) {r : IssueRecord} (reason : Reason)
    (hn : r.attemptsUsed + 1 < r.maxAttempts) :
    FailedUnderCloseRequest r reason s
      ((returned s r.entry (r.attemptsUsed + 1) reason).cancelEntry r.entry) := by
  have hsame := sameCourses_returned hw r.entry (r.attemptsUsed + 1) reason
  have h := ended_cancelReturned hw r.entry (r.attemptsUsed + 1) reason
  have hw' := returned_wf hw r.entry (r.attemptsUsed + 1) reason
  obtain ⟨-, hword⟩ := returned_entry hw r.entry (r.attemptsUsed + 1) reason
  obtain ⟨h1, h2⟩ := reported_fields hw r.entry (r.attemptsUsed + 1) reason
  have hcause : hasCause ((returned s r.entry (r.attemptsUsed + 1) reason).cancelEntry r.entry) .entryFailed =
      hasCause s .entryFailed :=
    ((touches_cancelEntry _ r.entry).causes.others _ (by decide)).trans
      ((touches_returned s r.entry _ reason).causes.others _ (by decide))
  obtain ⟨hresult, hlow⟩ := h.result
  rw [hword] at hlow
  refine ⟨(field_of_low hlow (by omega)).trans h1, (field_of_low hlow (by omega)).trans h2, h.stamp.trans hsame.time,
    fun _ => ⟨h.state, hresult, hcause, fun k f hk _ hf hfit => ?_⟩, fun h => by omega⟩
  rw [← hsame.courseFigures k] at hf
  exact takesFigures_of_same hsame (.refl _) (h.cancelCounted hw' k f ((hsame.inActive_iff k _).2 hk) hf hfit)

theorem failedUnderClose_attemptFailure {s : State} (hw : BookWf s) (hd : DistinctEntries s) {r : IssueRecord}
    (hr : r ∈ s.issue.list) (hc : UnderCloseRequest s r.entry) (reason : Reason) :
    FailedUnderCloseRequest r reason s (s.attemptFailure r.entry reason) ∧
      ∀ x ∈ (s.attemptFailure r.entry reason).issue.list, x.entry ≠ r.entry := by
  have hgone : ∀ x ∈ s.issue.list.filter (fun x => x.entry ≠ r.entry), x.entry ≠ r.entry := fun x hx => by
    simpa using (List.mem_filter.1 hx).2
  by_cases hn : r.attemptsUsed + 1 < r.maxAttempts
  · rw [attemptFailure_retry reason hw hd hr hn, returnToPosted_of_closing hw hc]
    have hback := failedUnderClose_retry hw reason hn
    have hlist : ((returned s r.entry (r.attemptsUsed + 1) reason).cancelEntry r.entry).issue.list =
        s.issue.list.filter (fun x => x.entry ≠ r.entry) := by
      rw [← returned_list s r.entry (r.attemptsUsed + 1) reason]
      simp
    have hw' : BookWf ((returned s r.entry (r.attemptsUsed + 1) reason).cancelEntry r.entry) :=
      State.cancelEntry_wf _ _ (returned_wf hw _ _ _)
    split
    · rename_i hstrict
      have hstands := entryStands_displaceAll _ hw' (recordsBehind_ne hd hr)
      exact ⟨hback.stands hstands (.inl ⟨hn, hstrict⟩), fun x hx => hgone x (hlist ▸ hstands.list hx)⟩
    · exact ⟨hback, fun x hx => hgone x (hlist ▸ hx)⟩
  · rw [attemptFailure_final reason hd hr (by omega)]
    obtain ⟨h1, h2, h3, h4, h5⟩ := failedFinally_words hw r.entry (r.attemptsUsed + 1) reason
    have hlist := failedFinally_list s r.entry (r.attemptsUsed + 1) reason
    have hcounted := failureCounted_final hw reason (r := r) (by omega)
    generalize failedFinally s r.entry (r.attemptsUsed + 1) reason = v at *
    exact ⟨⟨h1, h2, h5, fun h => absurd h hn, fun _ => ⟨h3, h4, by simp, hcounted⟩⟩, fun x hx => hgone x (hlist ▸ hx)⟩

end Sys2Proof
end

section
/-! SUPPORT. A failed attempt at the head (8.8, 8.9): its place is voided, and the timers that fail it. -/

namespace Sys2Proof

open Sys2Proof.Machine

/-! ### Contents once voided stay so -/

/-- Neither place holds the entry's brick as an entry, but for one that stays. -/
theorem gripper_ne_voidAtHead {s : State} {i : EntryIx} (j : EntryIx) (h : s.head.gripper.content ≠ .entry i) :
    (s.voidAtHead j).head.gripper.content ≠ .entry i := by
  unfold State.voidAtHead
  split
  · rw [State.voidGripper_head]
    exact afterVoid_content_ne _ _ _ i
  · split
    · rw [State.voidBay_head]
      dsimp only
      by_cases ht : s.head.gripper.state = .taking
      · exact afterBayVoid_content_ne _ ht i
      · rwa [afterBayVoid_of_not_taking _ ht]
    · exact h

theorem bay_ne_voidAtHead {s : State} {i : EntryIx} (j : EntryIx) (h : s.head.bay.content ≠ .entry i) :
    (s.voidAtHead j).head.bay.content ≠ .entry i := by
  unfold State.voidAtHead
  split
  · rw [State.voidGripper_head]
    exact h
  · split
    · rw [State.voidBay_head]
      exact bay_afterVoid_content_ne _ _ i
    · exact h

/-! ### The report of a failure at the head -/

/-- What voiding bricks, displacing records and reporting failures do to the places at the head. -/
structure HeadAfter (i : EntryIx) (s t : State) : Prop where
  path : ∀ {u}, HeadPath u s → HeadPath u t
  gripper : s.head.gripper.content ≠ .entry i → t.head.gripper.content ≠ .entry i
  bay : s.head.bay.content ≠ .entry i → t.head.bay.content ≠ .entry i
  attempt : AttemptGone s.trim → AttemptGone t.trim
  stations : t.line.spreader = s.line.spreader ∧ t.line.gripper = s.line.gripper
  gripperStill : (∀ j, s.head.gripper.content ≠ .entry j) → s.head.gripper.state ≠ .taking →
    t.head.gripper = s.head.gripper
  bayStill : (∀ j, s.head.bay.content ≠ .entry j) → s.head.gripper.state ≠ .taking → t.head.bay = s.head.bay

theorem HeadAfter.trans {i : EntryIx} {s t u : State} (h1 : HeadAfter i s t) (h2 : HeadAfter i t u) : HeadAfter i s u where
  path := fun h => h2.path (h1.path h)
  gripper := fun h => h2.gripper (h1.gripper h)
  bay := fun h => h2.bay (h1.bay h)
  attempt := fun h => h2.attempt (h1.attempt h)
  stations := ⟨h2.stations.1.trans h1.stations.1, h2.stations.2.trans h1.stations.2⟩
  gripperStill := fun h hs => by
    have heq := h1.gripperStill h hs
    exact (h2.gripperStill (by rwa [heq]) (by rwa [heq])).trans heq
  bayStill := fun h hs => by
    have heq := h1.bayStill h hs
    exact (h2.bayStill (by rwa [heq]) ((h1.path (.refl s)).not_taking hs)).trans heq

/-- An operation that leaves the places at the head alone. -/
theorem HeadAfter.of_stands {i : EntryIx} {s t : State} (h : HeadStands s t)
    (hl : t.line.spreader = s.line.spreader ∧ t.line.gripper = s.line.gripper) : HeadAfter i s t :=
  ⟨fun hp => hp.stands h, by rw [h.gripper]; exact id, by rw [h.bay]; exact id, h.attempt, hl, fun _ _ => h.gripper,
    fun _ _ => h.bay⟩

theorem HeadAfter.of_eq {i : EntryIx} {s t : State} (hl : t.line = s.line) (hh : t.head = s.head) (ht : t.trim = s.trim) :
    HeadAfter i s t := .of_stands (.of_eq hl hh ht) ⟨by rw [hl], by rw [hl]⟩

theorem voidAtHead_stations (s : State) (i : EntryIx) :
    (s.voidAtHead i).line.spreader = s.line.spreader ∧ (s.voidAtHead i).line.gripper = s.line.gripper := by
  unfold State.voidAtHead State.voidGripper State.voidBay
  dsimp only
  repeat' split
  all_goals exact ⟨rfl, rfl⟩

theorem headAfter_voidAtHead (i j : EntryIx) (s : State) : HeadAfter i s (s.voidAtHead j) := by
  refine ⟨fun h => h.voidAtHead j, gripper_ne_voidAtHead j, bay_ne_voidAtHead j, fun h => ?_, voidAtHead_stations s j,
    fun h hs => ?_, fun h hs => ?_⟩
  · unfold State.voidAtHead
    split
    · rw [voidGripper_trim]
      exact ⟨rfl, rfl, rfl⟩
    · split
      · rwa [voidBay_trim]
      · exact h
  · unfold State.voidAtHead
    rw [if_neg fun hc => h j hc.1]
    split
    · rw [State.voidBay_head]
      exact afterBayVoid_of_not_taking _ hs
    · rfl
  · unfold State.voidAtHead
    split
    · rw [State.voidGripper_head]
    · rw [if_neg (h j)]

theorem clearFeed_stations (s : State) :
    s.clearFeed.line.spreader = s.line.spreader ∧ s.clearFeed.line.gripper = s.line.gripper := by
  unfold State.clearFeed
  split
  · exact ⟨rfl, rfl⟩
  · rename_i f _
    unfold State.dropDeferredFeed
    dsimp only
    split
    · cases f.feeder <;> exact ⟨rfl, rfl⟩
    · exact ⟨rfl, rfl⟩

theorem headAfter_voidFeed (i : EntryIx) (s : State) : HeadAfter i s s.voidFeed := by
  refine .of_stands (headStands_voidFeed s) ?_
  unfold State.voidFeed
  split
  · exact ⟨rfl, rfl⟩
  · split
    · exact clearFeed_stations s
    all_goals exact ⟨rfl, rfl⟩

theorem headAfter_voidBrick (i : EntryIx) (r : IssueRecord) (s : State) : HeadAfter i s (s.voidBrick r) := by
  unfold State.voidBrick
  split
  · exact .of_eq rfl rfl rfl
  · exact headAfter_voidFeed i s
  · exact .of_eq (by simp) (by simp) (by simp)
  all_goals exact headAfter_voidAtHead i r.entry s

theorem headAfter_displace (i : EntryIx) (r : IssueRecord) (s : State) : HeadAfter i s (s.displace r) :=
  (HeadAfter.of_eq (by simp) (by simp) (by simp)).trans (headAfter_voidBrick i r _)

theorem headAfter_foldl (i : EntryIx) (l : List IssueRecord) (s : State) : HeadAfter i s (l.foldl State.displace s) := by
  induction l generalizing s with
  | nil => exact .of_eq rfl rfl rfl
  | cons r l ih => exact (headAfter_displace i r s).trans (ih _)

theorem bay_ne_foldl {i : EntryIx} (l : List IssueRecord) {s : State} (h : s.head.bay.content ≠ .entry i) :
    (l.foldl State.displace s).head.bay.content ≠ .entry i := (headAfter_foldl i l s).bay h

theorem headAfter_displaceAll (i : EntryIx) (l : List IssueRecord) (s : State) : HeadAfter i s (s.displaceAll l) :=
  (headAfter_foldl i l s).trans (.of_eq (t := (l.foldl State.displace s).showTrain) (by simp) (by simp) (by simp))

theorem headAfter_attemptFailure (i j : EntryIx) (reason : Reason) (s : State) :
    HeadAfter i s (s.attemptFailure j reason) := by
  unfold State.attemptFailure
  split
  · exact .of_eq rfl rfl rfl
  · dsimp only
    split
    · unfold State.retry
      dsimp only
      split
      · exact (HeadAfter.of_eq (by simp) (by simp) (by simp)).trans (headAfter_displaceAll i _ _)
      · exact .of_eq (by simp) (by simp) (by simp)
    · exact .of_eq (by simp) (by simp) (by simp)

theorem headAfter_failAttempt (i j : EntryIx) (reason : Reason) (s : State) : HeadAfter i s (s.failAttempt j reason) :=
  (headAfter_voidAtHead i j s).trans (headAfter_attemptFailure i j reason _)

theorem headAfter_finish (i : EntryIx) (old u : State) : HeadAfter i u (finish old u) :=
  .of_eq (by simp) (by simp) (by simp)

/-! ### The gripper given up -/

theorem GripperGone.givenUp {s t : State} (h : GripperGone s t) (hs : s.head.gripper.state = .holding) :
    GripperGivenUp s t := by
  obtain ⟨hg, ⟨ha, hb, hc⟩, -⟩ := h
  refine ⟨ha, hb, hc, ?_⟩
  rw [hg]
  simp only [Gripper.afterVoid, hs]

theorem voidAtHead_held {s : State} {i : EntryIx} (hs : s.head.gripper.state = .holding)
    (hi : s.head.gripper.content = .entry i) : s.voidAtHead i = s.voidGripper := by
  rw [State.voidAtHead, if_pos ⟨hi, by simp [hs]⟩]

theorem voidAtHead_bay {s : State} {i : EntryIx} (hi : s.head.bay.content = .entry i)
    (hg : s.head.gripper.content = .entry i → s.head.gripper.state = .taking) : s.voidAtHead i = s.voidBay := by
  rw [State.voidAtHead, if_neg (fun h => h.2 (hg h.1)), if_pos hi]

/-- A held attempt has no request to withdraw. -/
theorem touches_voidGripper_held {s : State} (hs : s.head.gripper.state = .holding) :
    Touches [.trim, .head] [] s s.voidGripper := by
  unfold State.voidGripper
  rw [hs]
  exact (touches_endAttempt s).trans (touches_putHead _ _).mono

theorem voidGripper_gives_up {s t : State} {i : EntryIx} (hs : s.head.gripper.state = .holding)
    (hi : s.head.gripper.content = .entry i) (h : HeadAfter i s.voidGripper t) : GripperGivenUp s t := by
  have hpath : HeadPath s t := h.path (voidAtHead_held hs hi ▸ (HeadPath.refl s).voidAtHead i)
  refine (hpath.gripperGone hi (by simp [hs]) (h.gripper ?_)).givenUp hs
  rw [State.voidGripper_head]
  exact afterVoid_content_ne _ _ _ i

theorem voidBay_voids {s t : State} {i : EntryIx} (hi : s.head.bay.content = .entry i)
    (hg : s.head.gripper.content = .entry i → s.head.gripper.state = .taking) (h : HeadAfter i s.voidBay t) :
    BayVoided s t := by
  have hpath : HeadPath s t := h.path (voidAtHead_bay hi hg ▸ (HeadPath.refl s).voidAtHead i)
  refine (hpath.bayGone hi (h.bay ?_)).voided
  rw [State.voidBay_head]
  exact bay_afterVoid_content_ne _ _ i

/-! ### The start of a report -/

/-- What a report reads of the book and the list is as it was. -/
structure SameStart (s v : State) : Prop where
  courses : SameCourses s v
  cells : v.book.cells = s.book.cells
  list : v.issue.list = s.issue.list
  failed : hasCause v .entryFailed = hasCause s .entryFailed

theorem SameStart.trans {s t u : State} (h1 : SameStart s t) (h2 : SameStart t u) : SameStart s u :=
  ⟨h1.courses.trans h2.courses, h2.cells.trans h1.cells, h2.list.trans h1.list, h2.failed.trans h1.failed⟩

theorem SameStart.of_frame {s v : State} (hb : v.book = s.book) (hs : v.seq = s.seq) (ht : v.time = s.time)
    (hl : v.issue.list = s.issue.list) (hc : ∀ c, c = .courseClosed ∨ c = .entryFailed → hasCause v c = hasCause s c) :
    SameStart s v :=
  ⟨.of_book (by rw [hb]) hs ht (hc _ (.inl rfl)), by rw [hb], hl, hc _ (.inr rfl)⟩

theorem sameStart_voidAtHead (s : State) (i : EntryIx) : SameStart s (s.voidAtHead i) :=
  .of_frame (by simp) (by simp) (by simp) (by simp) fun _ _ => hasCause_congr (by simp) _

/-- What every report of a failed attempt leaves, whatever the start. -/
theorem attemptFailure_from {s v : State} (hv : SameStart s v) (hw : BookWf s) (hd : DistinctEntries s) {r : IssueRecord}
    (hr : r ∈ s.issue.list) (reason : Reason) :
    (¬UnderCloseRequest s r.entry → AttemptFailed r reason s (v.attemptFailure r.entry reason)) ∧
    (UnderCloseRequest s r.entry → FailedUnderCloseRequest r reason s (v.attemptFailure r.entry reason) ∧
      ∀ x ∈ (v.attemptFailure r.entry reason).issue.list, x.entry ≠ r.entry) ∧
    (¬UnderCloseRequest s r.entry → s.activeStrict = false ∨ r.maxAttempts ≤ r.attemptsUsed + 1 →
      FailureCounted r s (v.attemptFailure r.entry reason) ∧
        (v.attemptFailure r.entry reason).issue.list = s.issue.list.filter (fun x => x.entry ≠ r.entry) ∧
        CountedBytes r.entry (terminalWords r.entry) s (v.attemptFailure r.entry reason) ∧
        Touches [.bytes, .seq, .list] [.entryFailed, .courseClosed] v (v.attemptFailure r.entry reason)) := by
  have hw' : BookWf v := by unfold BookWf; rw [hv.cells]; exact hw
  have hd' : DistinctEntries v := by unfold DistinctEntries; rw [hv.list]; exact hd
  have hr' : r ∈ v.issue.list := by rw [hv.list]; exact hr
  have hiff := hv.courses.underCloseRequest_iff r.entry
  refine ⟨fun hc => ?_, fun hc => ?_, fun hc hs => ?_⟩
  · exact (attemptFailed_attemptFailure hw' hd' hr' (mt hiff.1 hc) reason).from hv.courses.time hv.failed
  · obtain ⟨h1, h2⟩ := failedUnderClose_attemptFailure hw' hd' hr' (hiff.2 hc) reason
    exact ⟨h1.of_same hv.courses hv.failed, h2⟩
  · have hs' : v.activeStrict = false ∨ r.maxAttempts ≤ r.attemptsUsed + 1 := by rwa [activeStrict_congr hv.courses]
    obtain ⟨h1, h2, h3, h4⟩ := attemptFailure_counted hw' hd' hr' (mt hiff.1 hc) hs' reason
    refine ⟨h1.of_same hv.courses (.refl _), by rw [h2, hv.list], ?_, h4⟩
    exact countedBytes_trans (l := []) (bytesKept_of_cells hv.cells) h3 hv.courses (List.nil_subset _)

theorem failedUnderClose_finish {r : IssueRecord} {reason : Reason} {s u : State} (old : State)
    (h : FailedUnderCloseRequest r reason s u ∧ ∀ x ∈ u.issue.list, x.entry ≠ r.entry) :
    FailedUnderCloseRequest r reason s (finish old u) ∧ ∀ x ∈ (finish old u).issue.list, x.entry ≠ r.entry :=
  ⟨h.1.stands (entryStands_finish _ _ u) (.inr (sameCourses_finish old u)),
    fun x hx => h.2 x ((entryStands_finish r.entry old u).list hx)⟩

/-! ### The timers of a held attempt -/

/-- The settle timer stops as the attempt record ends. -/
theorem failAttempt_settleTimer {s : State} {i : EntryIx} (hs : s.head.gripper.state = .holding)
    (hi : s.head.gripper.content = .entry i) (reason : Reason) :
    (s.withTrim { s.trim with settleTimer := none }).failAttempt i reason = s.failAttempt i reason := by
  have hvoid : (s.withTrim { s.trim with settleTimer := none }).voidGripper = s.voidGripper := rfl
  rw [State.failAttempt, State.failAttempt, voidAtHead_held hs hi,
    voidAtHead_held (s := s.withTrim { s.trim with settleTimer := none }) hs hi, hvoid]

theorem exec_heldTimer {r : IssueRecord} {c : Instr} {reason : Reason} {s : State} (h : HeldTimerDue r c reason s) :
    exec c s = answer s (s.failAttempt r.entry reason) := by
  obtain ⟨hs, hi, h | h | h⟩ := h
  · obtain ⟨rfl, rfl, hreach, hboom, a, n, ha, hae, had, hn, hle⟩ := h
    have hdue : s.settleDue = some r.entry := by
      simp [State.settleDue, ha, hn, had, State.settlePaused, hreach, hboom, hle, hae]
    change execSettleLimitExpiry s = _
    rw [execSettleLimitExpiry, hdue]
    exact congrArg (answer s) (failAttempt_settleTimer hs hi .settleTimeout)
  · obtain ⟨rfl, rfl, n, hn, hle⟩ := h
    have hdue : s.openTimeDue .gripper = some r.entry := by simp [State.openTimeDue, hs, hi, hn, hle]
    change execOpenTimeExpiry .gripper s = _
    rw [execOpenTimeExpiry, hdue]
  · obtain ⟨rfl, rfl, n, hn, hle⟩ := h
    have hdue : s.restartDue = some r.entry := by simp [State.restartDue, hn, hle, Head.heldEntry, hs, hi]
    change execRestartDelayExpiry s = _
    rw [execRestartDelayExpiry, hdue]

theorem exec_bayTimer {r : IssueRecord} {s : State} (h : BayTimerDue r s) :
    exec (.openTimeExpiry .bay) s = answer s (s.failAttempt r.entry .openTime) := by
  obtain ⟨hs, hi, -, n, hn, hle⟩ := h
  have hdue : s.openTimeDue .bay = some r.entry := by simp [State.openTimeDue, hs, hi, hn, hle]
  change execOpenTimeExpiry .bay s = _
  rw [execOpenTimeExpiry, hdue]

/-- What the head is after a report that leaves it alone. -/
theorem failAttempt_held_head {s : State} (hs : s.head.gripper.state = .holding) {t : State}
    (ht : Touches [.bytes, .seq, .list] [.entryFailed, .courseClosed] s.voidGripper t) :
    t.head.restartTimer = none ∧ t.head.bay = s.head.bay ∧
      Touches [.bytes, .seq, .list, .trim, .head] [.entryFailed, .courseClosed] s t := by
  have hhead : t.head = s.voidGripper.head := ht.frame .head (by decide)
  rw [hhead, State.voidGripper_head]
  exact ⟨rfl, rfl, (touches_voidGripper_held hs).mono.trans ht.mono⟩

theorem bayTimer_head {s t : State} {r : IssueRecord} (h : BayTimerDue r s)
    (ht : Touches [.bytes, .seq, .list] [.entryFailed, .courseClosed] s.voidBay t) :
    (s.head.gripper.state ≠ .taking →
      t.head = { s.head with bay := { s.head.bay with content := .void (some r.entry), openTimer := none } } ∧
        t.line = s.line) ∧
      Touches [.bytes, .seq, .list, .line, .head] [.entryFailed, .courseClosed] s t := by
  obtain ⟨hs, hi, -, -⟩ := h
  have hhead : t.head = s.voidBay.head := ht.frame .head (by decide)
  have hline : t.line = s.voidBay.line := ht.frame .line (by decide)
  refine ⟨fun hg => ⟨?_, ?_⟩, (touches_voidBay s).mono.trans ht.mono⟩
  · rw [hhead, State.voidBay_head, afterBayVoid_of_not_taking _ hg]
    simp [Bay.afterVoid, hs, hi, voided]
  · rw [hline, State.voidBay, if_neg hg, if_neg (by simp [hs])]
    simp

/-- The failure of a held attempt: what it gives up, and what it reports from an earlier state. -/
theorem failAttempt_held {s v : State} (hv : SameStart s v) (hw : BookWf s) (hd : DistinctEntries s) {r : IssueRecord}
    (hr : r ∈ s.issue.list) (hs : v.head.gripper.state = .holding) (hi : v.head.gripper.content = .entry r.entry)
    (old : State) (reason : Reason) :
    GripperGivenUp v (finish old (v.failAttempt r.entry reason)) ∧
    (¬UnderCloseRequest s r.entry → AttemptFailed r reason s (finish old (v.failAttempt r.entry reason))) ∧
    (UnderCloseRequest s r.entry → FailedUnderCloseRequest r reason s (finish old (v.failAttempt r.entry reason)) ∧
      ∀ x ∈ (finish old (v.failAttempt r.entry reason)).issue.list, x.entry ≠ r.entry) ∧
    (¬UnderCloseRequest s r.entry → s.activeStrict = false ∨ r.maxAttempts ≤ r.attemptsUsed + 1 →
      FailureCounted r s (finish old (v.failAttempt r.entry reason)) ∧
        (finish old (v.failAttempt r.entry reason)).issue.list = s.issue.list.filter (fun x => x.entry ≠ r.entry) ∧
        CountedBytes r.entry (terminalWords r.entry) s (finish old (v.failAttempt r.entry reason)) ∧
        (finish old (v.failAttempt r.entry reason)).head.restartTimer = none ∧
        (finish old (v.failAttempt r.entry reason)).head.bay = v.head.bay ∧
        Touches [.bytes, .seq, .list, .trim, .head] [.entryFailed, .courseClosed] v (v.failAttempt r.entry reason)) := by
  have hvoid := voidAtHead_held hs hi
  have hafter := headAfter_attemptFailure r.entry r.entry reason (v.voidAtHead r.entry)
  obtain ⟨h1, h2, h3⟩ := attemptFailure_from (hv.trans (sameStart_voidAtHead v r.entry)) hw hd hr reason
  rw [hvoid] at hafter h1 h2 h3
  rw [State.failAttempt, hvoid]
  have hhead := fun ht => failAttempt_held_head (t := v.voidGripper.attemptFailure r.entry reason) hs ht
  generalize v.voidGripper.attemptFailure r.entry reason = u at *
  refine ⟨voidGripper_gives_up hs hi (hafter.trans (headAfter_finish _ old u)),
    fun hc => (h1 hc).stands (entryStands_finish _ old u), fun hc => failedUnderClose_finish old (h2 hc),
    fun hc hstrict => ?_⟩
  obtain ⟨hcount, hlist, hbytes, htouch⟩ := h3 hc hstrict
  obtain ⟨hrestart, hbay, htouches⟩ := hhead htouch
  exact ⟨hcount.of_same (.refl s) (sameCourses_finish old u), by simpa using hlist, countedBytes_congr hbytes (by simp),
    by simpa using hrestart, by simpa using hbay, htouches⟩

theorem SameStart.refl (s : State) : SameStart s s := ⟨.refl s, rfl, rfl, rfl⟩

theorem bayTimer_fails {r : IssueRecord} {s : State} (hw : BookWf s) (hd : DistinctEntries s) (hr : r ∈ s.issue.list)
    (h : BayTimerDue r s) :
    BayVoided s (finish s (s.failAttempt r.entry .openTime)) ∧
      (¬UnderCloseRequest s r.entry → AttemptFailed r .openTime s (finish s (s.failAttempt r.entry .openTime))) ∧
      (UnderCloseRequest s r.entry → FailedUnderCloseRequest r .openTime s (finish s (s.failAttempt r.entry .openTime)) ∧
        ∀ x ∈ (finish s (s.failAttempt r.entry .openTime)).issue.list, x.entry ≠ r.entry) := by
  obtain ⟨hs, hi, hg, -⟩ := h
  have hvoid := voidAtHead_bay hi hg
  obtain ⟨h1, h2, -⟩ := attemptFailure_from (sameStart_voidAtHead s r.entry) hw hd hr .openTime
  have hafter := headAfter_attemptFailure r.entry r.entry .openTime (s.voidAtHead r.entry)
  rw [hvoid] at h1 h2 hafter
  rw [State.failAttempt, hvoid]
  generalize s.voidBay.attemptFailure r.entry .openTime = u at *
  exact ⟨voidBay_voids hi hg (hafter.trans (headAfter_finish _ s u)),
    fun hc => (h1 hc).stands (entryStands_finish _ s u), fun hc => failedUnderClose_finish s (h2 hc)⟩

theorem bayTimer_counts {r : IssueRecord} {s : State} (hw : BookWf s) (hd : DistinctEntries s) (hr : r ∈ s.issue.list)
    (hc : ¬UnderCloseRequest s r.entry) (hstrict : s.activeStrict = false ∨ r.maxAttempts ≤ r.attemptsUsed + 1)
    (h : BayTimerDue r s) :
    ∃ t, exec (.openTimeExpiry .bay) s = .next t ∧ AttemptFailed r .openTime s t ∧ FailureCounted r s t ∧
      BayVoided s t ∧
      (s.head.gripper.state ≠ .taking →
        t.head = { s.head with bay := { s.head.bay with content := .void (some r.entry), openTimer := none } } ∧
          t.line = s.line) ∧
      t.issue.list = s.issue.list.filter (fun x => x.entry ≠ r.entry) ∧
      CountedBytes r.entry (terminalWords r.entry) s t ∧ KeptBut [.bytes, .seq, .list, .line, .head] s t ∧
      CausesKeptBut [.entryFailed, .courseClosed] s t := by
  have hexec := exec_bayTimer h
  obtain ⟨hup, hfail, -⟩ := bayTimer_fails hw hd hr h
  obtain ⟨-, -, h3⟩ := attemptFailure_from (sameStart_voidAtHead s r.entry) hw hd hr .openTime
  obtain ⟨hcount, hlist, hbytes, htouch⟩ := h3 hc hstrict
  have hvoid := voidAtHead_bay h.2.1 h.2.2.1
  rw [State.failAttempt, hvoid] at hexec hup hfail
  rw [hvoid] at hcount hlist hbytes htouch
  obtain ⟨hhead, htouches⟩ := bayTimer_head h htouch
  generalize s.voidBay.attemptFailure r.entry .openTime = u at *
  exact ⟨_, hexec, hfail hc, hcount.of_same (.refl s) (sameCourses_finish s u), hup,
    fun hg => ⟨(finish_frame s u).2.2.2.2.2.2.2.2.2.2.2.1.trans (hhead hg).1, by simpa using (hhead hg).2⟩,
    by simpa using hlist, countedBytes_congr hbytes (by simp), htouches.closed⟩

/-- Settles O26, by the place of the attempt and the close request. -/
theorem timersFailTheAttempt : Obligations.TimersFailTheAttempt := by
  refine ⟨fun r c reason s hw hd hr hc hs h => ?_, fun r s hw hd hr hc hs h => bayTimer_counts hw hd hr hc hs h,
    fun r c reason s hw hd hr hc h => ?_, fun r s hw hd hr hc h => ?_⟩
  · obtain ⟨hup, hfail, -, hcounts⟩ := failAttempt_held (.refl s) hw hd hr h.1 h.2.1 s reason
    obtain ⟨hcount, hlist, hbytes, hrestart, hbay, htouch⟩ := hcounts hc hs
    exact ⟨_, exec_heldTimer h, hfail hc, hcount, hup, hrestart, hbay, hlist, hbytes, htouch.closed⟩
  · obtain ⟨hup, -, hclose, -⟩ := failAttempt_held (.refl s) hw hd hr h.1 h.2.1 s reason
    exact ⟨_, exec_heldTimer h, (hclose hc).1, hup, (hclose hc).2⟩
  · obtain ⟨hup, -, hclose⟩ := bayTimer_fails hw hd hr h
    exact ⟨_, exec_bayTimer h, (hclose hc).1, hup, (hclose hc).2⟩

end Sys2Proof
end

section
/-! SUPPORT. Loss recovery (8.8) and the expiry of the loss timer (6.5). -/

namespace Sys2Proof

open Sys2Proof.Machine

/-! ### Loss recovery (R160, R161) -/

theorem heldEntry_of {h : Head} {i : EntryIx} (hs : h.gripper.state = .holding) (hi : h.gripper.content = .entry i) :
    h.heldEntry = some i := by simp [Head.heldEntry, hs, hi]

theorem heldEntry_some {h : Head} {i : EntryIx} (hh : h.heldEntry = some i) :
    h.gripper.state = .holding ∧ h.gripper.content = .entry i := by
  unfold Head.heldEntry at hh
  split at hh
  · exact ⟨‹_›, Option.some.inj hh ▸ ‹_›⟩
  · cases hh

/-- The recovery mode fails a held attempt at once (R160, R161). -/
def FailsAtOnce (p : Profile) : Prop :=
  p.recoveryMode = .fail ∨ (p.recoveryMode = .holdThenFail ∧ p.restartDelay = 0)

theorem recoverLoss_stands {s : State} (h : s.seq.profile.recoveryMode = .holdOnly ∨
    (∀ i, s.head.gripper.content ≠ .entry i) ∨ s.head.gripper.state ≠ .holding) : s.recoverLoss = s := by
  unfold State.recoverLoss
  cases hh : s.head.heldEntry with
  | none => rfl
  | some i =>
    obtain ⟨hs, hi⟩ := heldEntry_some hh
    have hmode := h.resolve_right fun h => h.elim (fun h => h i hi) fun h => h hs
    simp [hmode]

theorem recoverLoss_delays {s : State} {i : EntryIx} (hm : s.seq.profile.recoveryMode = .holdThenFail)
    (hd : 0 < s.seq.profile.restartDelay) (hs : s.head.gripper.state = .holding)
    (hi : s.head.gripper.content = .entry i) :
    s.recoverLoss = s.withHead { s.head with restartTimer := some 0 } := by
  rw [State.recoverLoss, heldEntry_of hs hi]
  simp only [hm]
  exact if_neg (by omega)

theorem recoverLoss_fails {s : State} {i : EntryIx} (hm : FailsAtOnce s.seq.profile)
    (hs : s.head.gripper.state = .holding) (hi : s.head.gripper.content = .entry i) :
    s.recoverLoss = s.failAttempt i .trackLost := by
  rw [State.recoverLoss, heldEntry_of hs hi]
  rcases hm with hm | ⟨hm, hd⟩
  · simp only [hm]
  · simp only [hm]
    exact if_pos hd

/-- The three outcomes of loss recovery. -/
theorem recoverLoss_cases (s : State) :
    s.recoverLoss = s ∨ s.recoverLoss = s.withHead { s.head with restartTimer := some 0 } ∨
      ∃ i, s.head.gripper.state = .holding ∧ s.head.gripper.content = .entry i ∧
        s.recoverLoss = s.failAttempt i .trackLost := by
  unfold State.recoverLoss
  cases hh : s.head.heldEntry with
  | none => exact .inl rfl
  | some i =>
    obtain ⟨hs, hi⟩ := heldEntry_some hh
    dsimp only
    split
    · exact .inl rfl
    · exact .inr (.inr ⟨i, hs, hi, rfl⟩)
    · split
      · exact .inr (.inr ⟨i, hs, hi, rfl⟩)
      · exact .inr (.inl rfl)

theorem touches_recoverLoss (s : State) : Touches failBlocks [.entryFailed, .courseClosed] s s.recoverLoss := by
  rcases recoverLoss_cases s with h | h | ⟨i, -, -, h⟩ <;> rw [h]
  · exact .refl _ _ s
  · exact (touches_withHead s _).mono
  · exact touches_failAttempt s i _

/-- An attempt that is failed leaves no settle count. -/
theorem failAttempt_settleCount {s : State} {i : EntryIx} (hs : s.head.gripper.state = .holding)
    (hi : s.head.gripper.content = .entry i) (reason : Reason) : (s.failAttempt i reason).trim.settleCount = 0 := by
  rw [State.failAttempt, voidAtHead_held hs hi]
  exact (voidGripper_gives_up hs hi (headAfter_attemptFailure i i reason _)).2.2.1

/-! ### The expiry of the loss timer (R118) -/

/-- Tracking is LOST, and nothing has met the attempt yet. -/
def trackLostState (s : State) : State :=
  ((s.withTracker { s.tracker with state := .lost, history := [], window := [], lossTimer := none }).showTracking.raise
    .trackLost).zeroSettle

theorem trackLostState_frame (s : State) :
    (trackLostState s).tracker = { s.tracker with state := .lost, history := [], window := [], lossTimer := none } ∧
      (trackLostState s).trim = { s.trim with settleCount := 0 } ∧ (trackLostState s).head = s.head ∧
      (trackLostState s).seq = s.seq ∧ (trackLostState s).book = s.book ∧ (trackLostState s).issue = s.issue ∧
      (trackLostState s).line = s.line ∧ (trackLostState s).time = s.time := ⟨rfl, rfl, rfl, rfl, rfl, rfl, rfl, rfl⟩

theorem touches_trackLostState (s : State) : Touches [.tracker, .trim] [.trackLost] s (trackLostState s) :=
  ((touches_trackerShown s _).mono.trans (touches_raise _ .trackLost).mono).trans (touches_zeroSettle_trim _).mono

theorem hasCause_trackLostState (s : State) : hasCause (trackLostState s) .trackLost = true :=
  (hasCause_congr (s := (s.withTracker _).showTracking.raise .trackLost) rfl _).trans (by simp)

theorem sameStart_trackLostState (s : State) : SameStart s (trackLostState s) := by
  obtain ⟨-, -, -, hseq, hbook, hissue, -, htime⟩ := trackLostState_frame s
  exact .of_frame hbook hseq htime (by rw [hissue]) fun c hc =>
    (touches_trackLostState s).causes.others c (by rcases hc with rfl | rfl <;> decide)

theorem exec_lossTimerExpiry {n : Nat} {s : State} (hn : s.tracker.lossTimer = some n) :
    exec .lossTimerExpiry s =
      answer s (if 2 ^ s.seq.profile.lossExponent ≤ n then (trackLostState s).recoverLoss else s) := by
  change execLossTimerExpiry s = _
  rw [execLossTimerExpiry, State.lossDue, hn]
  simp only [decide_eq_true_eq]
  rfl

/-- The outcomes that do not fail the attempt. -/
theorem lost_stands {s : State} (h : s.seq.profile.recoveryMode = .holdOnly ∨
    (∀ i, s.head.gripper.content ≠ .entry i) ∨ s.head.gripper.state ≠ .holding) :
    (finish s (trackLostState s).recoverLoss).trim = { s.trim with settleCount := 0 } ∧
      KeptBut [.tracker, .trim] s (finish s (trackLostState s).recoverLoss) ∧
      CausesKeptBut [.trackLost] s (finish s (trackLostState s).recoverLoss) := by
  rw [recoverLoss_stands (s := trackLostState s) h]
  exact ⟨(finish_frame s _).2.2.2.2.2.2.2.2.2.2.1, (touches_trackLostState s).closed⟩

theorem lost_delays {s : State} {i : EntryIx} (hm : s.seq.profile.recoveryMode = .holdThenFail)
    (hd : 0 < s.seq.profile.restartDelay) (hs : s.head.gripper.state = .holding)
    (hi : s.head.gripper.content = .entry i) :
    (finish s (trackLostState s).recoverLoss).trim = { s.trim with settleCount := 0 } ∧
      (finish s (trackLostState s).recoverLoss).head = { s.head with restartTimer := some 0 } ∧
      KeptBut [.tracker, .trim, .head] s (finish s (trackLostState s).recoverLoss) ∧
      CausesKeptBut [.trackLost] s (finish s (trackLostState s).recoverLoss) := by
  rw [recoverLoss_delays (s := trackLostState s) hm hd hs hi]
  exact ⟨(finish_frame s _).2.2.2.2.2.2.2.2.2.2.1, (finish_frame s _).2.2.2.2.2.2.2.2.2.2.2.1,
    ((touches_trackLostState s).mono.trans (touches_withHead _ _).mono).closed⟩

theorem gripperGivenUp_congr {s v t : State} (h : GripperGivenUp v t) (hh : v.head = s.head) : GripperGivenUp s t := by
  unfold GripperGivenUp at *
  rwa [hh] at h

theorem lost_fails {s : State} {r : IssueRecord} (hw : BookWf s) (hd : DistinctEntries s) (hr : r ∈ s.issue.list)
    (hm : FailsAtOnce s.seq.profile) (hs : s.head.gripper.state = .holding)
    (hi : s.head.gripper.content = .entry r.entry) {t : State} (ht : t = finish s (trackLostState s).recoverLoss) :
    GripperGivenUp s t ∧ (UnderCloseRequest s r.entry → FailedUnderCloseRequest r .trackLost s t) ∧
      (¬UnderCloseRequest s r.entry → AttemptFailed r .trackLost s t) ∧
      (¬UnderCloseRequest s r.entry → s.activeStrict = false ∨ r.maxAttempts ≤ r.attemptsUsed + 1 →
        FailureCounted r s t ∧ CountedBytes r.entry (terminalWords r.entry) s t ∧
          KeptBut [.bytes, .seq, .list, .tracker, .trim, .head] s t ∧
          CausesKeptBut [.trackLost, .entryFailed, .courseClosed] s t) := by
  have hfails := recoverLoss_fails (s := trackLostState s) hm hs hi
  rw [hfails] at ht
  obtain ⟨hup, hfail, hclose, hcounts⟩ :=
    failAttempt_held (v := trackLostState s) (sameStart_trackLostState s) hw hd hr hs hi s .trackLost
  rw [← ht] at hup hfail hclose hcounts
  refine ⟨gripperGivenUp_congr hup rfl, fun hc => (hclose hc).1, hfail, fun hc hstrict => ?_⟩
  obtain ⟨hcount, -, hbytes, -, -, htouch⟩ := hcounts hc hstrict
  refine ⟨hcount, hbytes, ?_⟩
  rw [ht]
  exact ((touches_trackLostState s).mono.trans htouch.mono).closed

/-- Settles O37, by the recovery mode and what the gripper holds. -/
theorem lossTimerEndsTracking : Obligations.LossTimerEndsTracking := by
  refine ⟨fun n s hn hle => ?_, fun n s hn hlt => noEffect_of_exec ?_⟩
  · refine ⟨_, (exec_lossTimerExpiry hn).trans (congrArg (answer s) (if_pos hle)), ?_, ?_, ?_, ?_, fun h => lost_stands h,
      fun i hm hd hs hi => lost_delays hm hd hs hi, fun r hw hd hr hm hs hi => lost_fails hw hd hr hm hs hi rfl⟩
    · exact (finish_frame s _).2.2.2.2.2.2.2.2.2.1.trans ((State.recoverLoss_frame _).2.2.2.2.2.2.2.2.2.2.1)
    · exact hasCause_finish_raised s ((touches_recoverLoss _).causes.stand _ (hasCause_trackLostState s))
    · rw [(finish_frame s _).2.2.2.2.2.2.2.2.2.2.1]
      rcases recoverLoss_cases (trackLostState s) with h | h | ⟨i, hs, hi, h⟩
      · rw [h]
        rfl
      · rw [h]
        rfl
      · rw [h]
        exact failAttempt_settleCount hs hi _
    · rw [(finish_frame s _).2.2.2.2.2.2.2.2.2.2.1, (State.recoverLoss_frame _).2.2.2.2.2.2.2.2.2.2.2.1]
      rfl
  · rw [exec_lossTimerExpiry hn, if_neg (by omega)]

end Sys2Proof
end

section
/-! SUPPORT. A retry in a strict-order course (3.5): the records behind leave the list with their bricks, in either case of
the close request. -/

namespace Sys2Proof

open Sys2Proof.Machine

/-! ### The bricks of displaced records (R61) -/

/-- What becomes of a carrier as the records of a list are displaced. -/
def displacedCarrier (l : List IssueRecord) (c : Carrier) : Carrier :=
  if ∃ x ∈ l, x.location = .train ∧ c.content = some x.entry then { c with content := none, former := c.content } else c

theorem displacedCarrier_cons (x : IssueRecord) (l : List IssueRecord) (c : Carrier) :
    displacedCarrier l (displacedCarrier [x] c) = displacedCarrier (x :: l) c := by
  unfold displacedCarrier
  by_cases h : x.location = .train ∧ c.content = some x.entry
  · simp [h]
  · simp [h]

theorem voidBrick_queue (s : State) (r : IssueRecord) :
    (s.voidBrick r).train.queue = s.train.queue.map (displacedCarrier [r]) := by
  have hstay : r.location ≠ .train → s.train.queue.map (displacedCarrier [r]) = s.train.queue := fun h =>
    (List.map_congr_left fun c _ => by simp [displacedCarrier, h]).trans (List.map_id _)
  unfold State.voidBrick
  cases hl : r.location with
  | train =>
    simp only [State.voidCarrier, State.withTrain_train]
    refine List.map_congr_left fun c _ => ?_
    by_cases hc : c.content = some r.entry
    · simp [displacedCarrier, hl, hc, Carrier.voided]
    · simp [displacedCarrier, hc]
  | none => exact (hstay (by simp [hl])).symm
  | feed => simpa using (hstay (by simp [hl])).symm
  | bay => simpa using (hstay (by simp [hl])).symm
  | gripper => simpa using (hstay (by simp [hl])).symm

theorem foldl_displace_queue (l : List IssueRecord) (s : State) :
    (l.foldl State.displace s).train.queue = s.train.queue.map (displacedCarrier l) := by
  induction l generalizing s with
  | nil =>
    have hid : displacedCarrier [] = id := funext fun c => by simp [displacedCarrier]
    rw [hid, List.map_id]
    rfl
  | cons x l ih =>
    have hone : (s.displace x).train.queue = s.train.queue.map (displacedCarrier [x]) := (voidBrick_queue _ x).trans (by simp)
    rw [List.foldl_cons, ih, hone, List.map_map]
    exact List.map_congr_left fun c _ => displacedCarrier_cons x l c

theorem foldl_displace_feed (l : List IssueRecord) (s : State) :
    (l.foldl State.displace s).issue.feed =
      if ∃ x ∈ l, x.location = .feed then feedVoided s.issue.feed else s.issue.feed := by
  induction l generalizing s with
  | nil => simp
  | cons x l ih =>
    have hone : (s.displace x).issue.feed = if x.location = .feed then feedVoided s.issue.feed else s.issue.feed := by
      unfold State.displace State.voidBrick
      cases hl : x.location with
      | feed =>
        rw [if_pos rfl]
        exact (voidFeed_feed _).trans (congrArg feedVoided (by simp [State.removeRecord]))
      | _ => simp [State.removeRecord]
    rw [List.foldl_cons, ih, hone]
    by_cases hx : x.location = .feed
    · simp [hx, feedVoided_feedVoided]
    · simp [hx]

/-- The bay's brick of an entry is an entry's no more, once that entry's record has been displaced from the bay. -/
theorem voidAtHead_bay_ne {s u : State} {i : EntryIx} (h : HeadPath s u)
    (hg : s.head.gripper.content = .entry i → s.head.gripper.state = .taking) :
    (u.voidAtHead i).head.bay.content ≠ .entry i := by
  unfold State.voidAtHead
  split
  · rename_i hc
    rw [State.voidGripper_head]
    intro hbay
    by_cases ht : s.head.gripper.state = .taking
    · rcases h.bay with ⟨-, hsame⟩ | ⟨hgone, -⟩
      · exact hc.2 (by rw [hsame ht, ht])
      · exact bay_afterVoid_content_ne _ _ i (hgone ▸ hbay)
    · rcases h.gripper ht with hsame | ⟨hgone, -⟩
      · exact ht (hg (hsame ▸ hc.1))
      · exact afterVoid_content_ne _ _ _ i (hgone ▸ hc.1)
  · split
    · rw [State.voidBay_head]
      exact bay_afterVoid_content_ne _ _ i
    · assumption

theorem foldl_displace_bay {s : State} {x : IssueRecord}
    (hg : s.head.gripper.content = .entry x.entry → s.head.gripper.state = .taking) (hx : x.location = .bay)
    (l : List IssueRecord) {u : State} (h : HeadPath s u) (hm : x ∈ l) :
    (l.foldl State.displace u).head.bay.content ≠ .entry x.entry := by
  induction l generalizing u with
  | nil => exact absurd hm (List.not_mem_nil)
  | cons y l ih =>
    rw [List.foldl_cons]
    rcases List.mem_cons.1 hm with rfl | hm
    · refine bay_ne_foldl l ?_
      have hback : HeadPath s ((u.removeRecord x.entry).returnToPosted x.entry) :=
        h.stands (.of_eq (by simp) (by simp) (by simp))
      unfold State.displace State.voidBrick
      rw [hx]
      exact voidAtHead_bay_ne hback hg
    · exact ih (h.displace y) hm

/-- The bricks of the displaced records, judged from a state whose train, feed and head the displacement began with. -/
theorem bricksVoided_foldl {s u t : State} (l : List IssueRecord) (hpath : HeadPath s u)
    (hq : u.train.queue = s.train.queue) (hf : u.issue.feed = s.issue.feed)
    (htq : t.train.queue = (l.foldl State.displace u).train.queue)
    (htf : t.issue.feed = (l.foldl State.displace u).issue.feed)
    (hth : HeadStands (l.foldl State.displace u) t) : BricksVoided l s t := by
  have hfeed := foldl_displace_feed l u
  rw [hf] at hfeed
  refine ⟨?_, fun hno => ?_, fun f hs hx => ⟨fun hp => ?_, fun i hp he => ?_⟩, fun x hx hl hi hg => ?_⟩
  · rw [htq, foldl_displace_queue, hq]
    rfl
  · rw [htf, hfeed, if_neg fun ⟨x, hx, hl⟩ => hno x hx hl]
  · rw [htf, hfeed, if_pos hx, hs, feedVoided, if_pos hp]
  · rw [htf, hfeed, if_pos hx, hs, feedVoided, if_neg hp, FeedPending.voided, he]
  · have hend : HeadPath s t := (hpath.foldl_displace l).stands hth
    refine (hend.bayGone hi ?_).voided
    rw [hth.bay]
    exact foldl_displace_bay hg hl l hpath hx

/-! ### Cancelled one after another under a close request (R36) -/

/-- One entry has been returned and cancelled under a close request, and the active course has counted it. -/
structure CancelStep (k : Slot) (i : EntryIx) (s t : State) : Prop where
  ended : Ended i .cancelled .cancelled s t
  others : ∀ {j w}, j ≠ i → w < 16 → t.word (entryAddr j w) = s.word (entryAddr j w)
  time : t.time = s.time
  more : 1 < (s.courseFigures k).remaining →
    t.seq = s.seq ∧ t.courseState k = s.courseState k ∧ hasCause t .courseClosed = hasCause s .courseClosed ∧
      (∀ j, t.inCourse k j = s.inCourse k j) ∧ (t.courseFigures k).remaining = (s.courseFigures k).remaining - 1 ∧
      ((s.courseFigures k).cancelled + 1 < 65536 → t.courseFigures k = { s.courseFigures k with
        remaining := (s.courseFigures k).remaining - 1, cancelled := (s.courseFigures k).cancelled + 1 })
  last : (s.courseFigures k).remaining = 1 →
    t.seq.active = none ∧ t.seq.closeMark = false ∧ t.courseState k = some .closed ∧ hasCause t .courseClosed = true

theorem cancelStep_returned {s : State} (hw : BookWf s) {k : Slot} {i : EntryIx} (ha : InActive s k i) :
    CancelStep k i s ((s.setEntryState i .posted).cancelEntry i) := by
  have hsame := sameCourses_setEntryState hw i .posted
  have hw' : BookWf (s.setEntryState i .posted) := State.setEntryState_wf s i .posted hw
  have hbytes := bytesKept_setEntryState hw i .posted
  have hlow : (s.setEntryState i .posted).word (entryAddr i 7) = s.word (entryAddr i 7) := hbytes.word (by simp [entryAddr])
  have hword := fun j w (h : j ≠ i) (hlt : w < 16) => setEntryState_word_ne (w := w) hw h .posted hlt
  have htime : (s.setEntryState i .posted).time = s.time := by simp
  have hfig : ∀ k, endedFigures (s.setEntryState i .posted) k i .cancelled .cancelled = endedFigures s k i .cancelled .cancelled :=
    fun k => by rw [endedFigures_cancelled hw', endedFigures_cancelled hw, hsame.courseFigures]
  generalize s.setEntryState i .posted = u at *
  have hau : InActive u k i := (hsame.inActive_iff k i).2 ha
  refine ⟨Ended.of_same hsame (by rw [hlow]) (bytesKept_mono hbytes (by simp [terminalWords])) hfig (ended_cancelEntry hw' i),
    fun h hlt => (cancelEntry_word_ne hw' h hlt).trans (hword _ _ h hlt), by simp [htime], fun hr => ?_, fun hr => ?_⟩
  · rw [← hsame.courseFigures k] at hr ⊢
    obtain ⟨h1, h2, h3, h4, h5, h6⟩ := cancelEntry_more hw' hau hr
    exact ⟨h1.trans hsame.seq, h2.trans (hsame.courseState k), h3.trans hsame.closed,
      fun j => (h4 j).trans (hsame.inCourse k j), h5, h6⟩
  · rw [← hsame.courseFigures k] at hr
    obtain ⟨h1, h2, -, h4, -, h6⟩ := cancelEntry_last hw' hau hr
    exact ⟨h1, h2, h4, h6⟩

/-- What follows and leaves book, sequencer, time and COURSE_CLOSED alone. -/
theorem CancelStep.after {k : Slot} {i : EntryIx} {s t u : State} (h : CancelStep k i s t)
    (hb : u.book.cells = t.book.cells) (hs : u.seq = t.seq) (ht : u.time = t.time)
    (hc : hasCause u .courseClosed = hasCause t .courseClosed) : CancelStep k i s u := by
  have hsame : SameCourses t u := .of_book hb hs ht hc
  refine ⟨h.ended.after hb hs ht hc, fun hj hlt => (State.word_congr hb _).trans (h.others hj hlt), ht.trans h.time,
    fun hr => ?_, fun hr => ?_⟩
  · obtain ⟨h1, h2, h3, h4, h5, h6⟩ := h.more hr
    rw [hsame.courseFigures k]
    exact ⟨hs.trans h1, (hsame.courseState k).trans h2, hc.trans h3, fun j => (hsame.inCourse k j).trans (h4 j), h5, h6⟩
  · obtain ⟨h1, h2, h3, h4⟩ := h.last hr
    exact ⟨by rw [hs, h1], by rw [hs, h2], (hsame.courseState k).trans h3, hc.trans h4⟩

/-- The step is judged from an earlier state with the same book, sequencer, time and COURSE_CLOSED. -/
theorem CancelStep.before {k : Slot} {i : EntryIx} {s v t : State} (h : CancelStep k i v t)
    (hb : v.book.cells = s.book.cells) (hs : v.seq = s.seq) (ht : v.time = s.time)
    (hc : hasCause v .courseClosed = hasCause s .courseClosed) (hw : BookWf s) : CancelStep k i s t := by
  have hsame : SameCourses s v := .of_book hb hs ht hc
  have hw' : BookWf v := by unfold BookWf; rw [hb]; exact hw
  refine ⟨Ended.of_same hsame (by rw [State.word_congr hb]) (bytesKept_of_cells hb)
    (fun k => by rw [endedFigures_cancelled hw', endedFigures_cancelled hw, hsame.courseFigures]) h.ended,
    fun hj hlt => (h.others hj hlt).trans (State.word_congr hb _), h.time.trans ht, fun hr => ?_, fun hr => ?_⟩
  · rw [← hsame.courseFigures k] at hr ⊢
    obtain ⟨h1, h2, h3, h4, h5, h6⟩ := h.more hr
    exact ⟨h1.trans hs, h2.trans (hsame.courseState k), h3.trans hc, fun j => (h4 j).trans (hsame.inCourse k j), h5, h6⟩
  · exact h.last (by rw [hsame.courseFigures k, hr])

/-- A displacement under a close request is such a step. -/
theorem cancelStep_displace {s : State} (hw : BookWf s) {k : Slot} {x : IssueRecord} (ha : InActive s k x.entry)
    (hm : s.seq.closeMark = true) : CancelStep k x.entry s (s.displace x) := by
  have hw' : BookWf (s.removeRecord x.entry) := hw
  have hcauses : hasCause (s.removeRecord x.entry) .courseClosed = hasCause s .courseClosed := hasCause_congr rfl _
  have hsame : SameCourses s (s.removeRecord x.entry) := .of_book rfl rfl rfl hcauses
  have ha' := (hsame.inActive_iff k x.entry).2 ha
  have hback : (s.removeRecord x.entry).returnToPosted x.entry =
      ((s.removeRecord x.entry).setEntryState x.entry .posted).cancelEntry x.entry :=
    cancelIfClosing_of_closing (((sameCourses_setEntryState hw' x.entry .posted).underCloseRequest_iff x.entry).2
      ⟨hm, k, ha'⟩)
  have hstep := cancelStep_returned hw' ha'
  rw [← hback] at hstep
  refine (hstep.after (u := s.displace x) ?_ ?_ ?_ (hasCause_congr ?_ _)).before rfl rfl rfl hcauses hw
  all_goals simp [State.displace]

/-- A list of entries has been cancelled, and the active course has counted them. -/
structure CancelRun (k : Slot) (l : List EntryIx) (s t : State) : Prop where
  ended : ∀ i ∈ l, t.entryState i = some .cancelled ∧ ResultOf i .cancelled s t ∧ t.word (entryAddr i 13) = s.time
  others : ∀ i w, i ∉ l → w < 16 → t.word (entryAddr i w) = s.word (entryAddr i w)
  bytes : BytesKeptOutside ((courseAddr k 0, 64) :: l.flatMap terminalWords) s t
  stays : l.length < (s.courseFigures k).remaining → (s.courseFigures k).cancelled + l.length < 65536 →
    t.seq = s.seq ∧ t.courseState k = s.courseState k ∧
      t.courseFigures k = { s.courseFigures k with
        remaining := (s.courseFigures k).remaining - l.length
        cancelled := (s.courseFigures k).cancelled + l.length } ∧
      hasCause t .courseClosed = hasCause s .courseClosed
  closes : l.length = (s.courseFigures k).remaining → l ≠ [] →
    t.seq.active = none ∧ t.seq.closeMark = false ∧ t.courseState k = some .closed ∧ hasCause t .courseClosed = true

theorem CancelRun.nil (k : Slot) (s : State) : CancelRun k [] s s :=
  ⟨by simp, fun _ _ _ _ => rfl, bytesKept_refl _ s, fun _ _ => ⟨rfl, rfl, rfl, rfl⟩, fun _ h => absurd rfl h⟩

theorem CancelRun.cons {k : Slot} {i : EntryIx} {l : List EntryIx} {s u t : State} (h1 : CancelStep k i s u)
    (ha : InActive s k i) (h2 : CancelRun k l u t) (hi : i ∉ l) (hn : l = [] → t = u) : CancelRun k (i :: l) s t where
  ended := fun j hj => by
    by_cases hji : j = i
    · subst hji
      exact ⟨(State.entryState_congr (h2.others j 0 hi (by omega))).trans h1.ended.state,
        resultOf_congr h1.ended.result (h2.others j 7 hi (by omega)), (h2.others j 13 hi (by omega)).trans h1.ended.stamp⟩
    · obtain ⟨k1, ⟨k2, k3⟩, k4⟩ := h2.ended j ((List.mem_cons.1 hj).resolve_left hji)
      exact ⟨k1, ⟨k2, by rw [k3, h1.others hji (by omega)]⟩, k4.trans h1.time⟩
  others := fun j w hj hlt =>
    (h2.others j w (fun h => hj (List.mem_cons_of_mem _ h)) hlt).trans
      (h1.others (fun h => hj (h ▸ List.mem_cons_self ..)) hlt)
  bytes := bytesKept_trans (bytesKept_mono (h1.ended.bytes.2 k ha) (by simp [List.flatMap_cons]))
    (bytesKept_mono h2.bytes (by simp [List.flatMap_cons]))
  stays := fun hlt hfit => by
    rw [List.length_cons] at hlt hfit ⊢
    obtain ⟨k1, k2, k3, -, -, k6⟩ := h1.more (by omega)
    have hfig := k6 (by omega)
    obtain ⟨n1, n2, n3, n4⟩ := h2.stays (by rw [hfig]; dsimp only; omega) (by rw [hfig]; dsimp only; omega)
    refine ⟨n1.trans k1, n2.trans k2, ?_, n4.trans k3⟩
    rw [n3, hfig]
    have hsub : (s.courseFigures k).remaining - 1 - l.length = (s.courseFigures k).remaining - (l.length + 1) := by omega
    have hadd : (s.courseFigures k).cancelled + 1 + l.length = (s.courseFigures k).cancelled + (l.length + 1) := by omega
    simp only [hsub, hadd]
  closes := fun heq _ => by
    rw [List.length_cons] at heq
    by_cases hl : l = []
    · rw [hn hl]
      exact h1.last (by simp [hl] at heq; omega)
    · have hpos := List.length_pos_iff.2 hl
      exact h2.closes (by rw [(h1.more (by omega)).2.2.2.2.1]; omega) hl

/-- Records displaced under a close request of a course with room for all of them. -/
theorem foldl_displace_closing {k : Slot} (l : List IssueRecord) {s : State} (hw : BookWf s)
    (ha : s.seq.active = some k) (hm : s.seq.closeMark = true) (hin : ∀ x ∈ l, s.inCourse k x.entry = true)
    (hd : (l.map fun x => x.entry).Nodup) (hle : l.length ≤ (s.courseFigures k).remaining) :
    CancelRun k (l.map fun x => x.entry) s (l.foldl State.displace s) := by
  induction l generalizing s with
  | nil => exact .nil k s
  | cons x l ih =>
    rw [List.map_cons, List.nodup_cons] at hd
    obtain ⟨hx, hl⟩ := List.forall_mem_cons.1 hin
    rw [List.length_cons] at hle
    have hstep := cancelStep_displace hw ⟨ha, hx⟩ hm
    have hw' : BookWf (s.displace x) := State.displace_wf s x hw
    rw [List.map_cons, List.foldl_cons]
    cases l with
    | nil => exact .cons hstep ⟨ha, hx⟩ (.nil k _) (by simp) fun _ => rfl
    | cons y l =>
      rw [List.length_cons] at hle
      obtain ⟨k1, -, -, k4, k5, -⟩ := hstep.more (by omega)
      refine .cons hstep ⟨ha, hx⟩ (ih hw' (by rw [k1, ha]) (by rw [k1, hm]) (fun z hz => by rw [k4, hl z hz]) hd.2 ?_) hd.1
        fun h => by simp at h
      rw [k5, List.length_cons]
      omega

end Sys2Proof
end

section
/-! SUPPORT. A retry in a strict-order course, as a whole (3.5). -/

namespace Sys2Proof

open Sys2Proof.Machine

/-- A block that is kept is no block of the frame. -/
theorem keptBut_drop {b : Block} {bs : List Block} {s t : State} (h : KeptBut (b :: bs) s t) (hb : b.kept s t) :
    KeptBut bs s t := fun c hc => by
  by_cases heq : c = b
  · exact heq ▸ hb
  · exact h c (by simp [heq, hc])

/-- The list without the failed record and those behind it. -/
theorem filter_behind {l1 l2 : List IssueRecord} {r : IssueRecord} (hd : ((l1 ++ r :: l2).map fun x => x.entry).Nodup) :
    ((l1 ++ r :: l2).filter fun x => x.entry ≠ r.entry).filter (fun x => ∀ y ∈ l2, x.entry ≠ y.entry) = l1 := by
  simp only [List.map_append, List.map_cons, List.nodup_append, List.nodup_cons] at hd
  obtain ⟨-, -, hapart⟩ := hd
  rw [List.filter_filter, List.filter_append]
  have hkeep : ∀ x ∈ l1, (decide (∀ y ∈ l2, x.entry ≠ y.entry) && decide (x.entry ≠ r.entry)) = true := fun x hx => by
    have hmem := List.mem_map_of_mem (f := fun x : IssueRecord => x.entry) hx
    rw [Bool.and_eq_true, decide_eq_true_eq, decide_eq_true_eq]
    exact ⟨fun y hy => hapart _ hmem _ (List.mem_cons_of_mem _ (List.mem_map_of_mem (f := fun x => x.entry) hy)),
      hapart _ hmem _ (List.mem_cons_self ..)⟩
  have hdrop : ∀ x ∈ r :: l2, ¬(decide (∀ y ∈ l2, x.entry ≠ y.entry) && decide (x.entry ≠ r.entry)) = true := fun x hx => by
    rw [Bool.and_eq_true, decide_eq_true_eq, decide_eq_true_eq]
    rintro ⟨h1, h2⟩
    rcases List.mem_cons.1 hx with rfl | hx
    · exact h2 rfl
    · exact h1 x hx rfl
  rw [List.filter_eq_self.2 hkeep, List.filter_eq_nil_iff.2 hdrop, List.append_nil]

section
variable {l1 l2 : List IssueRecord} {r : IssueRecord} {s : State}

/-- The voiding at the head begins a failure with the list as it was. -/
theorem strict_failAttempt (hw : BookWf s) (hd : DistinctEntries s) (hl : s.issue.list = l1 ++ r :: l2)
    (hstrict : s.activeStrict = true) (hn : r.attemptsUsed + 1 < r.maxAttempts) (reason : Reason) :
    s.failAttempt r.entry reason =
      ((reported (s.voidAtHead r.entry) r.entry (r.attemptsUsed + 1) reason).returnToPosted r.entry).displaceAll l2 := by
  have hv := sameStart_voidAtHead s r.entry
  have hw' : BookWf (s.voidAtHead r.entry) := by unfold BookWf; rw [hv.cells]; exact hw
  have hd' : DistinctEntries (s.voidAtHead r.entry) := by unfold DistinctEntries; rw [hv.list]; exact hd
  unfold DistinctEntries at hd
  rw [hl] at hd
  rw [State.failAttempt, attemptFailure_retry reason hw' hd' (by rw [hv.list, hl]; simp) hn,
    activeStrict_congr hv.courses, hstrict, if_pos rfl, hv.list, hl, recordsBehind_of_split hd]

/-- The bricks and the list after a strict retry, whatever became of the entries. -/
theorem strict_bricks (hd : DistinctEntries s) (hl : s.issue.list = l1 ++ r :: l2) {u : State} (reason : Reason)
    (hu : u = (reported (s.voidAtHead r.entry) r.entry (r.attemptsUsed + 1) reason).returnToPosted r.entry) :
    (finish s (u.displaceAll l2)).issue.list = l1 ∧ BricksVoided l2 s (finish s (u.displaceAll l2)) := by
  unfold DistinctEntries at hd
  rw [hl] at hd
  have hframe : u.line = (s.voidAtHead r.entry).line ∧ u.head = (s.voidAtHead r.entry).head ∧
      u.trim = (s.voidAtHead r.entry).trim ∧ u.train.queue = s.train.queue ∧ u.issue.feed = s.issue.feed ∧
      u.issue.list = s.issue.list.filter fun x => x.entry ≠ r.entry := by
    rw [hu]
    simp [reported, State.removeRecord]
  obtain ⟨hline, hhead, htrim, hqueue, hfeed, hlist⟩ := hframe
  have hpath : HeadPath s u := ((HeadPath.refl s).voidAtHead r.entry).stands (.of_eq hline hhead htrim)
  have hall : u.displaceAll l2 = (l2.foldl State.displace u).showTrain := rfl
  refine ⟨?_, bricksVoided_foldl l2 hpath hqueue hfeed ?_ ?_ ?_⟩
  · rw [hall]
    have hfold := foldl_displace_list l2 u
    rw [hlist, hl, filter_behind hd] at hfold
    simpa using hfold
  · rw [hall]
    simp
  · rw [hall]
    simp
  · rw [hall]
    exact .of_eq (by simp) (by simp) (by simp)

theorem strict_open (hw : BookWf s) (hd : DistinctEntries s) (hl : s.issue.list = l1 ++ r :: l2)
    (hstrict : s.activeStrict = true) (hm : s.seq.closeMark = false) (hn : r.attemptsUsed + 1 < r.maxAttempts)
    (reason : Reason) {t : State} (ht : t = finish s (s.failAttempt r.entry reason)) :
    t.issue.list = l1 ∧ Displaced l2 s t ∧
      BytesKeptOutside ((entryAddr r.entry 0, 4) :: (entryAddr r.entry 7, 4) :: l2.map fun x => (entryAddr x.entry 0, 4))
        s t ∧
      t.seq = s.seq ∧ KeptBut [.bytes, .list, .feed, .queue, .line, .trim, .head] s t ∧ CausesKeptBut [] s t := by
  have hv := sameStart_voidAtHead s r.entry
  have hvw : BookWf (s.voidAtHead r.entry) := by unfold BookWf; rw [hv.cells]; exact hw
  have hvm : (s.voidAtHead r.entry).seq.closeMark = false := by rw [hv.courses.seq, hm]
  have hclose : ¬UnderCloseRequest (s.voidAtHead r.entry) r.entry :=
    fun h => absurd (hvm.symm.trans h.1) (by decide)
  have hfail := strict_failAttempt hw hd hl hstrict hn reason
  obtain ⟨hlist, hbricks⟩ := strict_bricks hd hl reason rfl
  have htouch := touches_failAttempt s r.entry reason
  have hne : ∀ x ∈ l2, x.entry ≠ r.entry := by
    unfold DistinctEntries at hd
    rw [hl] at hd
    exact entry_ne_of_split hd
  rw [returnToPosted_of_not hvw hclose] at hfail hlist hbricks
  rw [hfail] at ht htouch
  have hcells : BytesKeptOutside [(entryAddr r.entry 0, 4), (entryAddr r.entry 7, 4)] s
      (returned (s.voidAtHead r.entry) r.entry (r.attemptsUsed + 1) reason) :=
    bytesKept_trans (bytesKept_of_cells hv.cells) (bytesKept_returned hvw _ _ _)
  have hseq : (returned (s.voidAtHead r.entry) r.entry (r.attemptsUsed + 1) reason).seq = s.seq :=
    (sameCourses_returned hvw _ _ _).seq.trans hv.courses.seq
  have hhost : (returned (s.voidAtHead r.entry) r.entry (r.attemptsUsed + 1) reason).host = s.host := by
    simp [returned]
  have hrun := foldl_displace_open l2 _ (returned_wf hvw r.entry (r.attemptsUsed + 1) reason) (by rw [hseq, hm])
  generalize returned (s.voidAtHead r.entry) r.entry (r.attemptsUsed + 1) reason = u at *
  have hend : (finish s (u.displaceAll l2)).book.cells = (l2.foldl State.displace u).book.cells ∧
      (finish s (u.displaceAll l2)).seq = (l2.foldl State.displace u).seq ∧
      (u.displaceAll l2).host = (l2.foldl State.displace u).host ∧
      (u.displaceAll l2).seq = (l2.foldl State.displace u).seq := by
    unfold State.displaceAll
    simp
  obtain ⟨hb, hs, hh, hs'⟩ := hend
  have htouch' : Touches failBlocks [] s (u.displaceAll l2) :=
    touches_of_frame htouch.frame (by rw [hh, hrun.host, hhost]) htouch.causes.starved
  rw [ht]
  refine ⟨hlist, ⟨fun x hx => ⟨?_, ?_⟩, hbricks⟩, ?_, hs.trans (hrun.seq.trans hseq),
    keptBut_finish (keptBut_drop (b := .seq) (keptBut_mono htouch'.frame (by decide))
      (hs'.trans (hrun.seq.trans hseq))), htouch'.closed.2⟩
  · exact (State.entryState_congr (State.word_congr hb _)).trans (hrun.posted x hx)
  · refine entryAttempts_congr ((State.word_congr hb _).trans ((word_of_stateWords hrun.bytes (by omega) (.inl (by omega))).trans ?_))
    have hapart := fun w hlt => entryAddr_disjoint (i := r.entry) (j := x.entry) (v := 7) (w := w) (by omega) hlt (.inl (hne x hx).symm)
    refine hcells.word fun p hp => ?_
    simp only [List.mem_cons, List.not_mem_nil, or_false] at hp
    rcases hp with rfl | rfl
    · exact hapart 0 (by omega)
    · exact hapart 7 (by omega)
  · refine bytesKept_congr (bytesKept_trans (bytesKept_mono hcells (by simp)) (bytesKept_mono hrun.bytes ?_)) hb
    exact fun p hp => List.mem_cons_of_mem _ (List.mem_cons_of_mem _ hp)

theorem strict_closing {k : Slot} (hw : BookWf s) (hd : DistinctEntries s) (hl : s.issue.list = l1 ++ r :: l2)
    (hc : StrictUnderCloseRequest k (r :: l2) s) (hn : r.attemptsUsed + 1 < r.maxAttempts) (reason : Reason) {t : State}
    (ht : t = finish s (s.failAttempt r.entry reason)) :
    t.issue.list = l1 ∧ CancelledBehind l2 s t ∧ CancelsCounted k (l2.length + 1) s t ∧
      BytesKeptOutside ((courseAddr k 0, 64) :: (r :: l2).flatMap fun x => terminalWords x.entry) s t ∧
      KeptBut [.bytes, .seq, .list, .feed, .queue, .line, .trim, .head] s t ∧ CausesKeptBut [.courseClosed] s t := by
  obtain ⟨hactive, hmark, hcourse, hin, hroom⟩ := hc
  have hstrict : s.activeStrict = true := by rw [State.activeStrict, hactive]; exact hcourse
  have hv := sameStart_voidAtHead s r.entry
  have hvw : BookWf (s.voidAtHead r.entry) := by unfold BookWf; rw [hv.cells]; exact hw
  have hfail := strict_failAttempt hw hd hl hstrict hn reason
  obtain ⟨hlist, hbricks⟩ := strict_bricks hd hl reason rfl
  have htouch := touches_failAttempt s r.entry reason
  unfold DistinctEntries at hd
  rw [hl, List.map_append, List.nodup_append] at hd
  obtain ⟨-, hnodup, -⟩ := hd
  -- the failed entry's report stands before the cancelling begins
  have hsame : SameCourses s (reported (s.voidAtHead r.entry) r.entry (r.attemptsUsed + 1) reason) :=
    hv.courses.trans (sameCourses_reported hvw _ _ _)
  have hbytes : BytesKeptOutside [(entryAddr r.entry 7, 4)] s
      (reported (s.voidAtHead r.entry) r.entry (r.attemptsUsed + 1) reason) :=
    bytesKept_trans (bytesKept_of_cells hv.cells) (bytesKept_reported hvw _ _ _)
  have hrw := reported_wf hvw r.entry (r.attemptsUsed + 1) reason
  have hfailed : hasCause (reported (s.voidAtHead r.entry) r.entry (r.attemptsUsed + 1) reason) .entryFailed =
      hasCause s .entryFailed := (hasCause_congr (by simp) _).trans hv.failed
  rw [returnToPosted_of_closing hvw ((hv.courses.underCloseRequest_iff _).2 ⟨hmark, k, hactive, hin r (by simp)⟩)] at hfail hlist hbricks
  unfold returned at hfail hlist hbricks
  rw [hfail] at ht htouch
  generalize reported (s.voidAtHead r.entry) r.entry (r.attemptsUsed + 1) reason = v at *
  have hva : InActive v k r.entry := (hsame.inActive_iff k _).2 ⟨hactive, hin r (by simp)⟩
  have hstep := cancelStep_returned hrw hva
  have hcause : hasCause ((v.setEntryState r.entry .posted).cancelEntry r.entry) .entryFailed = hasCause s .entryFailed :=
    (((touches_setEntryState v r.entry .posted).mono.trans (touches_cancelEntry _ r.entry).mono :
      Touches [.bytes, .seq] [.courseClosed] v _).causes.others _ (by decide)).trans hfailed
  have huw : BookWf ((v.setEntryState r.entry .posted).cancelEntry r.entry) :=
    State.cancelEntry_wf _ _ (State.setEntryState_wf v _ _ hrw)
  rw [List.length_cons, ← hsame.courseFigures k] at hroom
  generalize (v.setEntryState r.entry .posted).cancelEntry r.entry = u at *
  have hrun : CancelRun k (r.entry :: l2.map fun x => x.entry) v (l2.foldl State.displace u) := by
    rw [List.map_cons, List.nodup_cons] at hnodup
    cases l2 with
    | nil => exact .cons hstep hva (.nil k u) (by simp) fun _ => rfl
    | cons y l =>
      rw [List.length_cons] at hroom
      obtain ⟨k1, -, -, k4, k5, -⟩ := hstep.more (by omega)
      refine .cons hstep hva (foldl_displace_closing _ huw (by rw [k1]; exact hva.1) (by rw [k1, hsame.seq, hmark])
        (fun z hz => ?_) hnodup.2 ?_) hnodup.1 fun h => by simp at h
      · rw [k4, hsame.inCourse]
        exact hin z (List.mem_cons_of_mem _ hz)
      · rw [k5, List.length_cons]
        omega
  have hfold : hasCause (l2.foldl State.displace u) .entryFailed = hasCause u .entryFailed :=
    (Touches.foldl touches_displace l2 u).causes.others _ (by decide)
  have hend : (finish s (u.displaceAll l2)).book.cells = (l2.foldl State.displace u).book.cells ∧
      (finish s (u.displaceAll l2)).seq = (l2.foldl State.displace u).seq ∧
      (u.displaceAll l2).host = (l2.foldl State.displace u).host := by
    unfold State.displaceAll
    simp
  obtain ⟨hb, hs, hh⟩ := hend
  have hclosed : hasCause (finish s (u.displaceAll l2)) .courseClosed = hasCause (l2.foldl State.displace u) .courseClosed :=
    (hasCause_finish_of_ne s _ (by decide)).trans (hasCause_congr (by rw [hh]) _)
  have hbig : SameCourses (l2.foldl State.displace u) (finish s (u.displaceAll l2)) := by
    refine .of_book hb hs ?_ hclosed
    simp [State.displaceAll]
  have hstays := hrun.stays
  have hcloses := hrun.closes
  simp only [List.length_cons, List.length_map, hsame.courseFigures k] at hstays hcloses
  rw [ht]
  refine ⟨hlist, ⟨fun x hx => ?_, hbricks⟩, ⟨fun hlt hfit => ?_, fun heq => ?_⟩, ?_,
    keptBut_finish (keptBut_mono htouch.frame (by decide)), ?_⟩
  · obtain ⟨k1, ⟨k2, k3⟩, k4⟩ := hrun.ended x.entry (List.mem_cons_of_mem _ (List.mem_map_of_mem (f := fun x => x.entry) hx))
    have hx7 : v.word (entryAddr x.entry 7) = s.word (entryAddr x.entry 7) := by
      refine hbytes.word fun p hp => ?_
      rw [List.mem_singleton.1 hp]
      refine entryAddr_disjoint (by omega) (by omega) (.inl fun he => ?_)
      rw [List.map_cons, List.nodup_cons] at hnodup
      exact hnodup.1 (he ▸ List.mem_map_of_mem (f := fun x : IssueRecord => x.entry) hx)
    refine ⟨(State.entryState_congr (State.word_congr hb _)).trans k1, ?_, ?_⟩
    · exact resultOf_congr (t := l2.foldl State.displace u) ⟨k2, by rw [k3, hx7]⟩ (State.word_congr hb _)
    · rw [State.word_congr hb, k4, hsame.time]
  · obtain ⟨k1, k2, k3, k4⟩ := hstays hlt hfit
    exact ⟨hs.trans (k1.trans hsame.seq), (hbig.courseState k).trans (k2.trans (hsame.courseState k)),
      (hbig.courseFigures k).trans k3, hclosed.trans (k4.trans hsame.closed)⟩
  · obtain ⟨k1, k2, k3, k4⟩ := hcloses heq (by simp)
    exact ⟨by rw [hs, k1], by rw [hs, k2], (hbig.courseState k).trans k3, hclosed.trans k4⟩
  · refine bytesKept_congr (bytesKept_trans (bytesKept_mono hbytes ?_) (bytesKept_mono hrun.bytes ?_)) hb
    · simp [terminalWords]
    · simp [List.flatMap_cons, List.flatMap_map]
  · refine causesKeptBut_of_stands htouch.closed.2 ?_ (by decide)
    exact (hasCause_finish_of_ne s _ (by decide)).trans ((hasCause_congr (by rw [hh]) _).trans (hfold.trans hcause))

end

/-- Settles O27, by the timer and the close request. -/
theorem strictRetryDisplacesTheRecordsBehind : Obligations.StrictRetryDisplacesTheRecordsBehind := by
  have hmem : ∀ {l1 l2 : List IssueRecord} {r : IssueRecord} {s : State}, s.issue.list = l1 ++ r :: l2 → r ∈ s.issue.list :=
    fun hl => by rw [hl]; simp
  have hno : ∀ {s : State} {i : EntryIx}, s.seq.closeMark = false → ¬UnderCloseRequest s i := fun hm h => by
    simp [UnderCloseRequest, hm] at h
  have hyes : ∀ {k : Slot} {r : IssueRecord} {l : List IssueRecord} {s : State}, StrictUnderCloseRequest k (r :: l) s →
      UnderCloseRequest s r.entry := fun h => ⟨h.2.1, _, h.1, h.2.2.2.1 _ (by simp)⟩
  refine ⟨fun l1 r l2 c reason s hw hd hl hs hm hn h => ?_, fun l1 r l2 s hw hd hl hs hm hn h => ?_,
    fun k l1 r l2 c reason s hw hd hl hc hn h => ?_, fun k l1 r l2 s hw hd hl hc hn h => ?_⟩
  · obtain ⟨hup, hfail, -⟩ := failAttempt_held (.refl s) hw hd (hmem hl) h.1 h.2.1 s reason
    obtain ⟨h1, h2⟩ := strict_open hw hd hl hs hm hn reason rfl
    exact ⟨_, exec_heldTimer h, h1, hfail (hno hm), hup, h2⟩
  · obtain ⟨hup, hfail, -⟩ := bayTimer_fails hw hd (hmem hl) h
    obtain ⟨h1, h2⟩ := strict_open hw hd hl hs hm hn .openTime rfl
    exact ⟨_, exec_bayTimer h, h1, hfail (hno hm), hup, h2⟩
  · obtain ⟨hup, -, hclose, -⟩ := failAttempt_held (.refl s) hw hd (hmem hl) h.1 h.2.1 s reason
    obtain ⟨h1, h2⟩ := strict_closing hw hd hl hc hn reason rfl
    exact ⟨_, exec_heldTimer h, h1, (hclose (hyes hc)).1, hup, h2⟩
  · obtain ⟨hup, -, hclose⟩ := bayTimer_fails hw hd (hmem hl) h
    obtain ⟨h1, h2⟩ := strict_closing hw hd hl hc hn .openTime rfl
    exact ⟨_, exec_bayTimer h, h1, (hclose (hyes hc)).1, hup, h2⟩

end Sys2Proof
end

section
/-! SUPPORT. The start of an attempt (8.4, 8.6): its entry in PLACING, its record at the gripper, and its loss recovery. -/

namespace Sys2Proof

open Sys2Proof.Machine

/-! ### An attempt is started (R125, R151, R152) -/

/-- The record of an entry with its brick at the gripper. -/
def atGripper (r : IssueRecord) : IssueRecord := { r with location := .gripper }

/-- The entry goes to PLACING with its applied correction, and its attempt is handed over. -/
def started (s : State) (i : EntryIx) (e : EntryState) (zc : Int) : State :=
  (((s.setApplied i zc).moveEntry i e .placing).setLocation i .gripper).handOverAttempt i zc

theorem touches_setApplied (s : State) (i : EntryIx) (zc : Int) : Touches [.bytes] [] s (s.setApplied i zc) :=
  touches_setWord s _ _

theorem touches_moveEntry (s : State) (i : EntryIx) (a b : EntryState) : Touches [.bytes] [] s (s.moveEntry i a b) := by
  unfold State.moveEntry
  split
  · exact touches_setEntryState s i b
  · exact .refl _ _ s

theorem touches_handOverAttempt (s : State) (i : EntryIx) (zc : Int) : Touches [.trim] [] s (s.handOverAttempt i zc) := by
  unfold State.handOverAttempt
  split
  · exact .refl _ _ s
  · exact (touches_withTrim s _).mono.trans (touches_showReach _).mono

theorem touches_started (s : State) (i : EntryIx) (e : EntryState) (zc : Int) :
    Touches [.bytes, .list, .trim] [] s (started s i e zc) :=
  (((touches_setApplied s i zc).mono.trans (touches_moveEntry _ i e .placing).mono).trans
    (touches_setLocation _ i .gripper).mono).trans (touches_handOverAttempt _ i zc).mono

theorem bytesKept_setApplied {s : State} (hw : BookWf s) (i : EntryIx) (zc : Int) :
    BytesKeptOutside [(entryAddr i 10, 4)] s (s.setApplied i zc) := fun x hx =>
  State.read_setWord_ne s _ x _ hw (entryAddr_fits i 10 (by omega)) (hx _ (List.mem_singleton_self _))

theorem word_setApplied {s : State} (hw : BookWf s) (i : EntryIx) (zc : Int) :
    (s.setApplied i zc).word (entryAddr i 10) = putField (s.word (entryAddr i 10)) 0 16 (signed16 zc) :=
  State.word_setWord s _ _ hw (entryAddr_fits i 10 (by omega))

/-- The list as it stands after the entry's record has gone to the gripper. -/
def listAtGripper (s : State) (i : EntryIx) : List IssueRecord :=
  s.issue.list.map fun x => if x.entry = i then { x with location := .gripper } else x

theorem atGripper_mem {s : State} {r : IssueRecord} (hr : r ∈ s.issue.list) : atGripper r ∈ listAtGripper s r.entry :=
  List.mem_map.2 ⟨r, hr, if_pos rfl⟩

theorem listAtGripper_entries (s : State) (i : EntryIx) :
    (listAtGripper s i).map (fun x => x.entry) = s.issue.list.map fun x => x.entry := by
  rw [listAtGripper, List.map_map]
  refine List.map_congr_left fun x _ => ?_
  simp only [Function.comp]
  split <;> rfl

section
variable {s : State} {r : IssueRecord} {e : EntryState} {zc : Int}

theorem started_entry (hw : BookWf s) (he : s.entryState r.entry = some e) :
    BookWf (started s r.entry e zc) ∧ (started s r.entry e zc).entryState r.entry = some .placing ∧
      field ((started s r.entry e zc).word (entryAddr r.entry 10)) 0 16 = signed16 zc ∧
      field ((started s r.entry e zc).word (entryAddr r.entry 10)) 16 16 = field (s.word (entryAddr r.entry 10)) 16 16 ∧
      BytesKeptOutside [(entryAddr r.entry 0, 4), (entryAddr r.entry 10, 4)] s (started s r.entry e zc) := by
  have hbytes := bytesKept_setApplied hw r.entry zc
  have hw' : BookWf (s.setApplied r.entry zc) := State.setApplied_wf s r.entry zc hw
  have hten := word_setApplied hw r.entry zc
  have hstate : (s.setApplied r.entry zc).entryState r.entry = some e :=
    (State.entryState_congr (hbytes.word (by simp [entryAddr]))).trans he
  have hcells : (started s r.entry e zc).book.cells = ((s.setApplied r.entry zc).setEntryState r.entry .placing).book.cells := by
    rw [started, moveEntry_of_state _ hstate]
    simp
  generalize s.setApplied r.entry zc = u at *
  have hset := bytesKept_setEntryState hw' r.entry .placing
  have hword : (started s r.entry e zc).word (entryAddr r.entry 10) = putField (s.word (entryAddr r.entry 10)) 0 16 (signed16 zc) := by
    rw [State.word_congr hcells, ← hten]
    exact hset.word (by simp [entryAddr])
  refine ⟨?_, (State.entryState_congr (State.word_congr hcells _)).trans (State.entryState_setEntryState u _ _ hw'), ?_, ?_,
    bytesKept_congr (bytesKept_trans (bytesKept_mono hbytes (by simp)) (bytesKept_mono hset (by simp))) hcells⟩
  · unfold BookWf
    rw [hcells]
    exact State.setEntryState_wf u _ _ hw'
  · rw [hword, field_putField (by omega)]
    exact Nat.mod_eq_of_lt (BitVec.isLt _)
  · rw [hword, field_putField_ne (by omega) (by omega)]

theorem started_record (hd : DistinctEntries s) (hr : r ∈ s.issue.list) :
    (started s r.entry e zc).issue.list = listAtGripper s r.entry ∧
      (started s r.entry e zc).trim = s.trim.beginAttempt r zc ∧ (started s r.entry e zc).head = s.head ∧
      DistinctEntries (started s r.entry e zc) ∧ atGripper r ∈ (started s r.entry e zc).issue.list := by
  have hlist : (((s.setApplied r.entry zc).moveEntry r.entry e .placing).setLocation r.entry .gripper).issue.list =
      listAtGripper s r.entry := by
    rw [setLocation_list]
    simp [listAtGripper]
  have hframe : (((s.setApplied r.entry zc).moveEntry r.entry e .placing).setLocation r.entry .gripper).trim = s.trim ∧
      (((s.setApplied r.entry zc).moveEntry r.entry e .placing).setLocation r.entry .gripper).head = s.head := by simp
  unfold started
  generalize ((s.setApplied r.entry zc).moveEntry r.entry e .placing).setLocation r.entry .gripper = u at *
  have hdu : DistinctEntries u := by
    unfold DistinctEntries
    rw [hlist, listAtGripper_entries]
    exact hd
  have hmem : atGripper r ∈ u.issue.list := hlist ▸ atGripper_mem hr
  have hrecord : u.issueRecord r.entry = some (atGripper r) := issueRecord_of hdu hmem
  have heq : u.handOverAttempt r.entry zc = (u.withTrim (u.trim.beginAttempt (atGripper r) zc)).showReach := by
    rw [State.handOverAttempt, hrecord]
  rw [heq]
  refine ⟨by simpa using hlist, ?_, by simpa using hframe.2, by simpa [DistinctEntries] using hdu, by simpa using hmem⟩
  simp only [State.showReach_frame, State.withTrim_trim, hframe.1]
  rfl

end

/-! ### Loss recovery at the start of an attempt (R151, R152) -/

theorem lossFails_iff (s : State) : LossFails s ↔ s.tracker.state = .lost ∧ FailsAtOnce s.seq.profile := Iff.rfl

/-- The attempt goes on, with the restart delay running where tracking is LOST. -/
theorem recoverIfLost_stands {s : State} {i : EntryIx} (h : ¬LossFails s) (hs : s.head.gripper.state = .holding)
    (hi : s.head.gripper.content = .entry i) :
    s.recoverIfLost = s.withHead { s.head with restartTimer := restartAtStart s } := by
  unfold State.recoverIfLost restartAtStart
  by_cases hl : s.tracker.state = .lost
  · rw [if_pos hl]
    cases hm : s.seq.profile.recoveryMode with
    | holdOnly =>
      rw [recoverLoss_stands (.inl hm), if_neg (by simp)]
      rfl
    | fail => exact absurd ⟨hl, .inl hm⟩ h
    | holdThenFail =>
      have hd : 0 < s.seq.profile.restartDelay := Nat.pos_of_ne_zero fun h0 => h ⟨hl, .inr ⟨hm, h0⟩⟩
      rw [recoverLoss_delays hm hd hs hi, if_pos ⟨hl, rfl⟩]
  · rw [if_neg hl, if_neg fun hc => hl hc.1]
    rfl

theorem recoverIfLost_fails {s : State} {i : EntryIx} (h : LossFails s) (hs : s.head.gripper.state = .holding)
    (hi : s.head.gripper.content = .entry i) : s.recoverIfLost = s.failAttempt i .trackLost := by
  rw [State.recoverIfLost, if_pos h.1, recoverLoss_fails h.2 hs hi]

/-! ### PROBE_TAKE_UP (R152) -/

/-- The gripper has taken the probe up, and nothing has met its attempt yet. -/
def probeHeld (s : State) (i : EntryIx) : State :=
  s.putHead { s.head with gripper := { Gripper.cleared with state := .holding, content := .entry i } }

theorem takeUpProbe_of {s : State} {r : IssueRecord} (hr : NextRecord s r) (hk : r.kind = .probe)
    (hg : s.head.gripper.state = .empty) (he : s.entryState r.entry = some .issued) :
    s.takeUpProbe = (started (probeHeld s r.entry) r.entry .issued 0).recoverIfLost := by
  rw [State.takeUpProbe, nextRecord_of hr]
  exact if_pos ⟨hk, hg, he⟩

theorem probeHeld_frame (s : State) (i : EntryIx) :
    (probeHeld s i).book = s.book ∧ (probeHeld s i).issue = s.issue ∧ (probeHeld s i).trim = s.trim ∧
      (probeHeld s i).seq = s.seq ∧ (probeHeld s i).time = s.time ∧ (probeHeld s i).tracker = s.tracker ∧
      (probeHeld s i).head = { s.head with gripper := { Gripper.cleared with state := .holding, content := .entry i } } := by
  unfold probeHeld
  simp

/-- A step that raises no cause and leaves the courses alone. -/
theorem sameCourses_started {s : State} (hw : BookWf s) {i : EntryIx} {e : EntryState} (he : s.entryState i = some e)
    {r : IssueRecord} (hi : r.entry = i) (zc : Int) : SameCourses s (started s i e zc) := by
  subst hi
  obtain ⟨-, -, -, -, hbytes⟩ := started_entry (r := r) (zc := zc) hw he
  have htouch := touches_started s r.entry e zc
  refine ⟨htouch.frame .seq (by decide), htouch.frame .time (by decide), htouch.causes.others _ (by decide),
    fun k w hw => hbytes.word fun p hp => .inl ?_⟩
  simp only [List.mem_cons, List.not_mem_nil, or_false] at hp
  unfold courseAddr
  rcases hp with rfl | rfl
  all_goals simp only [entryAddr]
  all_goals omega

theorem failed_atGripper {r : IssueRecord} {reason : Reason} {s t : State} (h : AttemptFailed (atGripper r) reason s t) :
    AttemptFailed r reason s t := h

/-- The failure of an attempt that has just been started. -/
theorem started_fails {s w : State} {r : IssueRecord} (hw : BookWf w) (hd : DistinctEntries w)
    (hr : atGripper r ∈ w.issue.list) (hsame : SameCourses s w)
    (hc : hasCause w .entryFailed = hasCause s .entryFailed) (hs : w.head.gripper.state = .holding)
    (hi : w.head.gripper.content = .entry r.entry) :
    GripperGivenUp w (finish s (w.failAttempt r.entry .trackLost)) ∧
      (¬UnderCloseRequest s r.entry → AttemptFailed r .trackLost s (finish s (w.failAttempt r.entry .trackLost))) := by
  obtain ⟨hup, hfail, -⟩ := failAttempt_held (.refl w) hw hd hr hs hi s .trackLost
  refine ⟨hup, fun hno => failed_atGripper ((hfail fun h => hno ?_).from hsame.time hc)⟩
  exact (hsame.underCloseRequest_iff r.entry).1 h

theorem probe_taken_up {r : IssueRecord} {s : State} (hw : BookWf s) (hd : DistinctEntries s) (hr : NextRecord s r)
    (hk : r.kind = .probe) (hg : s.head.gripper.state = .empty) (he : s.entryState r.entry = some .issued) :
    ∃ t, exec .probeTakeUp s = .next t ∧
      (¬LossFails s →
        t.entryState r.entry = some .placing ∧ field (t.word (entryAddr r.entry 10)) 0 16 = 0 ∧
        field (t.word (entryAddr r.entry 10)) 16 16 = field (s.word (entryAddr r.entry 10)) 16 16 ∧
        t.head = { s.head with
          gripper := { Gripper.cleared with state := .holding, content := .entry r.entry }
          restartTimer := restartAtStart s } ∧
        t.issue.list = s.issue.list.map (fun x => if x.entry = r.entry then { x with location := .gripper } else x) ∧
        t.trim = { s.trim with
          attempt := some ⟨r.entry, .probe, r.hold, r.target, 0, false, false⟩, settleCount := 0, tally := 0
          settleSample := none, settleTimer := some 0, saturated := 0, reach := none } ∧
        BytesKeptOutside [(entryAddr r.entry 0, 4), (entryAddr r.entry 10, 4)] s t ∧
        KeptBut [.bytes, .list, .trim, .head] s t ∧ CausesKeptBut [] s t) ∧
      (LossFails s →
        t.head.gripper = .cleared ∧ t.trim.attempt = none ∧
          (¬UnderCloseRequest s r.entry → AttemptFailed r .trackLost s t)) := by
  have hmem : r ∈ s.issue.list := by
    obtain ⟨l1, l2, hl, -⟩ := hr
    rw [hl]
    simp
  have hexec : exec .probeTakeUp s = answer s (started (probeHeld s r.entry) r.entry .issued 0).recoverIfLost :=
    congrArg (answer s) (takeUpProbe_of hr hk hg he)
  obtain ⟨hbook, hissue, htrim, hseq, htime, htracker, hhead⟩ := probeHeld_frame s r.entry
  have htouch : Touches [.head] [] s (probeHeld s r.entry) := touches_putHead s _
  have hvw : BookWf (probeHeld s r.entry) := by unfold BookWf; rw [hbook]; exact hw
  have hvd : DistinctEntries (probeHeld s r.entry) := by unfold DistinctEntries; rw [hissue]; exact hd
  have hve : (probeHeld s r.entry).entryState r.entry = some .issued :=
    (State.entryState_congr (State.word_congr (by rw [hbook]) _)).trans he
  have hvm : r ∈ (probeHeld s r.entry).issue.list := by rw [hissue]; exact hmem
  have hvs : SameCourses s (probeHeld s r.entry) :=
    .of_book (by rw [hbook]) hseq htime (htouch.causes.others _ (by decide))
  generalize probeHeld s r.entry = v at *
  obtain ⟨hww, hplacing, hten, hten', hbytes⟩ := started_entry (r := r) (zc := 0) hvw hve
  obtain ⟨hlist, hbegun, hheld, hwd, hwm⟩ := started_record (e := .issued) (zc := 0) hvd hvm
  have hsame := hvs.trans (sameCourses_started hvw hve (r := r) rfl 0)
  have htouches := (htouch.mono (bs' := [.bytes, .list, .trim, .head]) (cs' := [])).trans (touches_started v r.entry .issued 0).mono
  have hwtracker : (started v r.entry .issued 0).tracker = s.tracker := htouches.frame .tracker (by decide)
  have hlost : LossFails (started v r.entry .issued 0) ↔ LossFails s := by
    unfold LossFails
    rw [hwtracker, hsame.seq]
  have hrestart : restartAtStart (started v r.entry .issued 0) = restartAtStart s := by
    unfold restartAtStart
    rw [hwtracker, hsame.seq, hheld, hhead]
  have hfailed : hasCause (started v r.entry .issued 0) .entryFailed = hasCause s .entryFailed :=
    htouches.causes.others _ (by decide)
  rw [State.word_congr (show v.book.cells = s.book.cells by rw [hbook])] at hten'
  generalize started v r.entry .issued 0 = w at *
  have hst : w.head.gripper.state = .holding := by rw [hheld, hhead]
  have hi : w.head.gripper.content = .entry r.entry := by rw [hheld, hhead]
  refine ⟨_, hexec, fun hno => ?_, fun hl => ?_⟩
  · rw [recoverIfLost_stands (mt hlost.1 hno) hst hi, hrestart, hheld, hhead]
    refine ⟨?_, ?_, ?_, (finish_frame s _).2.2.2.2.2.2.2.2.2.2.2.1, ?_, ?_, ?_,
      (htouches.trans (touches_withHead _ _).mono).closed⟩
    · rw [entryState_finish]
      exact hplacing
    · rw [word_finish]
      exact hten
    · rw [word_finish]
      exact hten'
    · rw [show ∀ u, (finish s u).issue.list = u.issue.list from fun u => by simp]
      exact hlist.trans (by rw [listAtGripper, hissue])
    · rw [(finish_frame s _).2.2.2.2.2.2.2.2.2.2.1]
      refine hbegun.trans ?_
      rw [htrim, Trim.beginAttempt, hk]
    · exact bytesKept_finish s (bytesKept_congr (bytesKept_trans (bytesKept_of_cells (by rw [hbook])) hbytes) rfl)
  · rw [recoverIfLost_fails (hlost.2 hl) hst hi]
    obtain ⟨⟨ha, -, -, hgr⟩, hfail⟩ := started_fails hww hwd hwm hsame hfailed hst hi
    refine ⟨?_, ha, hfail⟩
    rw [hgr, hheld, hhead]
    rfl

/-- Settles O45, by what the next record is. -/
theorem probeIsTakenUp : Obligations.ProbeIsTakenUp := by
  refine ⟨fun r s hw hd hr hk hg he => probe_taken_up hw hd hr hk hg he, fun r s hr hno => noEffect_of_exec ?_,
    fun s h => noEffect_of_exec ?_⟩
  · refine congrArg (answer s) ?_
    rw [State.takeUpProbe, nextRecord_of hr]
    refine if_neg fun hc => ?_
    rcases hno with h | h | h
    · exact h hc.1
    · exact h hc.2.1
    · exact h hc.2.2
  · refine congrArg (answer s) ?_
    have hnone : s.nextRecord = none := by
      rw [State.nextRecord, List.find?_eq_none]
      exact fun x hx => by simp [h x hx]
    rw [State.takeUpProbe, hnone]

end Sys2Proof
end

section
/-! SUPPORT. The end of a transaction on the station line (5.4, 5.7): stations replaced, the next poll due, and replies
taken. -/

namespace Sys2Proof

open Sys2Proof.Machine

/-! ### Stations replaced -/

theorem touches_changeStation (s : State) (p : Position) (x : Station) :
    Touches [.line, .feed, .list] [] s (s.changeStation p x) := by
  unfold State.changeStation State.withdrawIfNotReady
  split
  · exact (touches_setStation s p x).mono
  · split
    · exact (touches_setStation s p x).mono.trans (touches_endFeed _).mono
    · exact (touches_setStation s p x).mono

theorem touches_schedulePoll (s : State) (p : Position) (b : Bool) : Touches [.line] [] s (s.schedulePoll p b) :=
  touches_setStation s p _

theorem touches_freeLine (s : State) : Touches [.line] [] s s.freeLine := touches_withLine s _

theorem feederPosition_isFeeder (f : Feeder) : isFeederPosition (feederPosition f) = true := by cases f <;> rfl

theorem feederPosition_ne {p : Position} (h : isFeederPosition p = false) (f : Feeder) : feederPosition f ≠ p := fun he => by
  rw [← he, feederPosition_isFeeder] at h
  cases h

/-- Only a feeder that is not READY withdraws a feed. -/
theorem withdrawIfNotReady_stands {s : State} {p : Position}
    (h : ∀ f, s.issue.feed = some f → feederPosition f.feeder = p → f.phase = .requested → (s.line.at p).state = .ready) :
    s.withdrawIfNotReady p = s := by
  unfold State.withdrawIfNotReady
  split
  · rfl
  · rename_i f hf
    exact if_neg fun hc => hc.2.2 (h f hf hc.1 hc.2.1)

/-- A head station has no feed to withdraw. -/
theorem withdrawIfNotReady_head {s : State} {p : Position} (h : isFeederPosition p = false) : s.withdrawIfNotReady p = s :=
  withdrawIfNotReady_stands fun f _ hp => absurd hp (feederPosition_ne h f.feeder)

theorem changeStation_head {s : State} {p : Position} (x : Station) (h : isFeederPosition p = false) :
    s.changeStation p x = s.setStation p x := withdrawIfNotReady_head h

/-- A feed in phase REQUESTED at a feeder that is not READY is withdrawn. -/
theorem withdrawIfNotReady_ends {s : State} {p : Position} {f : FeedPending} (hf : s.issue.feed = some f)
    (hp : feederPosition f.feeder = p) (hr : f.phase = .requested) (hs : (s.line.at p).state ≠ .ready) :
    s.withdrawIfNotReady p = s.endFeed := by
  unfold State.withdrawIfNotReady
  rw [hf]
  exact if_pos ⟨hp, hr, hs⟩

/-- A station record with another deferred request and another next poll due. -/
def SameButDeferred (x y : Station) : Prop := ∃ d, y = { x with deferred := d }

theorem endFeed_station {s : State} {f : FeedPending} (hf : s.issue.feed = some f) :
    SameButDeferred (s.line.at (feederPosition f.feeder)) (s.endFeed.line.at (feederPosition f.feeder)) ∧
      ∀ c, (s.endFeed.line.at (feederPosition f.feeder)).deferred ≠ some (.feed c) := by
  obtain ⟨-, hno, d, hd⟩ := clearFeed_spec hf
  have hline : s.endFeed.line = s.clearFeed.line := by
    unfold State.endFeed
    rw [hf]
    dsimp only
    split
    · rfl
    · simp
  rw [hline]
  exact ⟨⟨d, hd⟩, hno⟩

/-- What withdrawing leaves at the station. -/
theorem withdrawIfNotReady_station (s : State) (p : Position) :
    SameButDeferred (s.line.at p) ((s.withdrawIfNotReady p).line.at p) ∧ OtherStationsKept p s (s.withdrawIfNotReady p) := by
  unfold State.withdrawIfNotReady
  split
  · exact ⟨⟨_, rfl⟩, otherStationsKept_of_line rfl⟩
  · rename_i f hf
    split
    · rename_i hc
      obtain ⟨rfl, -⟩ := hc
      exact ⟨(endFeed_station hf).1, (endFeed_spec hf).2.2.2⟩
    · exact ⟨⟨_, rfl⟩, otherStationsKept_of_line rfl⟩

theorem changeStation_station (s : State) (p : Position) (x : Station) :
    SameButDeferred x ((s.changeStation p x).line.at p) ∧ OtherStationsKept p s (s.changeStation p x) := by
  obtain ⟨h1, h2⟩ := withdrawIfNotReady_station (s.setStation p x) p
  rw [at_setStation, if_pos rfl] at h1
  exact ⟨h1, otherStationsKept_trans (otherStationsKept_setStation s p x) h2⟩

/-! ### The next poll due (R90, R96) -/

/-- The next poll due is all that is set of the station. -/
theorem pollAfter_fields (x : Station) (w : Nat) (now : Word) (b : Bool) :
    ∃ n, pollAfter x w now b = { x with nextPoll := n } := by
  unfold pollAfter
  split
  · exact ⟨x.nextPoll, rfl⟩
  · extract_lets base due
    split
    · split
      · exact ⟨x.nextPoll, rfl⟩
      · exact ⟨_, rfl⟩
    · exact ⟨_, rfl⟩

theorem schedulePoll_station (s : State) (p : Position) (b : Bool) :
    (s.schedulePoll p b).line.at p = pollAfter (s.line.at p) s.seq.profile.workingPoll s.time b ∧
      OtherStationsKept p s (s.schedulePoll p b) :=
  ⟨by simp [State.schedulePoll, at_setStation], otherStationsKept_setStation s p _⟩

/-- The next poll due at the end of any transaction. -/
theorem pollScheduled_of {p : Position} {s t : State} {x : Station}
    (ht : t.line.at p = pollAfter x s.seq.profile.workingPoll s.time false)
    (hpend : x.pollPending = (s.line.at p).pollPending) (hnext : x.nextPoll = (s.line.at p).nextPoll) :
    PollScheduled p s t := by
  unfold PollScheduled
  obtain ⟨n, hn⟩ := pollAfter_fields x s.seq.profile.workingPoll s.time false
  rw [ht]
  refine ⟨by rw [hn, hpend], fun h => ?_, fun h hs => ?_⟩
  · rw [pollAfter, if_pos (.inr (hpend.trans h)), hnext]
  · have hno : ¬(x.state = .absent ∨ x.pollPending = true) := by
      rw [hn] at hs
      rw [hpend, h]
      simpa using hs
    have hiff : (x.state = .busy ∨ (pollAfter x s.seq.profile.workingPoll s.time false).deferred ≠ none) ↔
        (false = true ∨ x.state = .busy ∨ x.deferred.isSome = true) := by
      rw [hn]
      simp [Option.isSome_iff_ne_none]
    have hstate : (pollAfter x s.seq.profile.workingPoll s.time false).state = x.state := by rw [hn]
    rw [hstate]
    simp only [hiff]
    rw [pollAfter, if_neg hno]
    cases x.nextPoll <;> rfl

/-- The next poll due after ACCEPTED or BUSY. -/
theorem pollAfterCommand_of {p : Position} {s t : State} {x : Station}
    (ht : t.line.at p = pollAfter x s.seq.profile.workingPoll s.time true)
    (hpend : x.pollPending = (s.line.at p).pollPending) (hnext : x.nextPoll = (s.line.at p).nextPoll) :
    PollAfterCommand p s t := by
  unfold PollAfterCommand
  obtain ⟨n, hn⟩ := pollAfter_fields x s.seq.profile.workingPoll s.time true
  have hstate : (pollAfter x s.seq.profile.workingPoll s.time true).state = x.state := by rw [hn]
  rw [ht, hstate]
  have hno : ∀ h : (s.line.at p).pollPending = false, x.state ≠ .absent → ¬(x.state = .absent ∨ x.pollPending = true) :=
    fun h hs => by rw [hpend, h]; simpa using hs
  refine ⟨by rw [hn, hpend], fun h => ?_, fun h hs hnone => ?_, fun d h hs hd => ⟨fun hlt => ?_, fun hle => ?_⟩⟩
  · rw [pollAfter, if_pos (.inr (hpend.trans h)), hnext]
  · rw [pollAfter, if_neg (hno h hs), hnext, hnone]
    simp
  · have hreach : dueReached (s.time + BitVec.ofNat 32 s.seq.profile.workingPoll) d = true := by
      simpa [dueReached] using hlt
    rw [pollAfter, if_neg (hno h hs), hnext, hd]
    simp [hreach, hnext, hd]
  · have hreach : dueReached (s.time + BitVec.ofNat 32 s.seq.profile.workingPoll) d = false := by
      simpa [dueReached] using hle
    rw [pollAfter, if_neg (hno h hs), hnext, hd]
    simp [hreach]

/-! ### Replies taken (R87, R98) -/

theorem exec_commandReply (bytes : List Byte) (s : State) :
    exec (.commandReply bytes) s = answer s (s.receiveReply bytes) := rfl

theorem exec_queryReply (bytes : List Byte) (s : State) : exec (.queryReply bytes) s = answer s (s.receiveReply bytes) := rfl

/-- A good reply within its deadline. -/
theorem receiveReply_good {s : State} {p : Position} {c : StationCommand} {at0 : Word} {bytes : List Byte} {r : Reply}
    (ha : AwaitsReply s ⟨p, c, at0⟩) (hj : judgeReply p (decide (c = .query)) bytes = .good r) :
    s.receiveReply bytes = s.goodReply ⟨p, c, at0⟩ r := by
  obtain ⟨ht, hle⟩ := ha
  rw [State.receiveReply, ht]
  dsimp only
  rw [if_neg (by unfold State.elapsed replyDeadlineMs; omega), hj]

theorem exec_reply_accepted {s : State} {p : Position} {c : StationCommand} {at0 : Word} {bytes : List Byte}
    (ha : AwaitsReply s ⟨p, c, at0⟩) (hc : c ≠ .query) (hj : judgeReply p false bytes = .good .accepted) :
    exec (.commandReply bytes) s = answer s (s.freeLine.commandAccepted p c) := by
  rw [exec_commandReply, receiveReply_good ha (by rw [decide_eq_false hc]; exact hj)]
  rfl

theorem exec_reply_busy {s : State} {p : Position} {c : StationCommand} {at0 : Word} {bytes : List Byte}
    (ha : AwaitsReply s ⟨p, c, at0⟩) (hc : c ≠ .query) (hj : judgeReply p false bytes = .good .busy) :
    exec (.commandReply bytes) s = answer s (s.freeLine.commandBusy p c) := by
  rw [exec_commandReply, receiveReply_good ha (by rw [decide_eq_false hc]; exact hj)]
  rfl

theorem exec_reply_error {s : State} {p : Position} {c : StationCommand} {at0 : Word} {bytes : List Byte} {code : Half}
    (ha : AwaitsReply s ⟨p, c, at0⟩) (hc : c ≠ .query) (hj : judgeReply p false bytes = .good (.error code)) :
    exec (.commandReply bytes) s = answer s (s.freeLine.commandError p c code) := by
  rw [exec_commandReply, receiveReply_good ha (by rw [decide_eq_false hc]; exact hj)]
  exact congrArg (answer s) (if_neg hc)

theorem exec_poll_status {s : State} {p : Position} {bytes : List Byte} {d : QueryData} (h : PollAnswered s p bytes d) :
    exec (.queryReply bytes) s = answer s (s.freeLine.queryStatus p d) := by
  obtain ⟨⟨at0, ha⟩, hj⟩ := h
  rw [exec_queryReply, receiveReply_good ha hj]
  rfl

theorem exec_poll_refused {s : State} {p : Position} {bytes : List Byte} {code : Half} (h : PollRefused s p bytes code) :
    exec (.queryReply bytes) s = answer s (s.freeLine.queryError p code) := by
  obtain ⟨⟨at0, ha⟩, hj⟩ := h
  rw [exec_queryReply, receiveReply_good ha hj]
  rfl

theorem freeLine_frame (s : State) :
    s.freeLine.line.transaction = none ∧ (∀ p, s.freeLine.line.at p = s.line.at p) ∧ s.freeLine.issue = s.issue ∧
      s.freeLine.head = s.head ∧ s.freeLine.seq = s.seq ∧ s.freeLine.time = s.time ∧ s.freeLine.control = s.control ∧
      s.freeLine.book = s.book ∧ s.freeLine.trim = s.trim ∧ s.freeLine.line.headRequests = s.line.headRequests ∧
      s.freeLine.tracker = s.tracker :=
  ⟨rfl, fun p => by cases p <;> rfl, rfl, rfl, rfl, rfl, rfl, rfl, rfl, rfl, rfl⟩

theorem otherStationsKept_freeLine (s : State) (p : Position) : OtherStationsKept p s s.freeLine :=
  ⟨fun q _ => (freeLine_frame s).2.1 q, rfl, rfl⟩

end Sys2Proof
end

section
/-! SUPPORT. Faults of the head stations (5.10): the place of a failed operation, the attempt it served, and the HALT request
that follows. -/

namespace Sys2Proof

open Sys2Proof.Machine

/-! ### The places at the head through an entry into HALT -/

theorem headAfter_voidGripper (i : EntryIx) {s : State} {j : EntryIx} (hj : s.head.gripper.content = .entry j)
    (hs : s.head.gripper.state ≠ .taking) : HeadAfter i s s.voidGripper := by
  have h := headAfter_voidAtHead i j s
  rwa [State.voidAtHead, if_pos ⟨hj, hs⟩] at h

theorem headAfter_voidBay (i : EntryIx) {s : State}
    (h : (∃ j, s.head.bay.content = .entry j) ∨ (∃ j, s.head.gripper.content = .entry j) ∧ s.head.gripper.state = .taking) :
    HeadAfter i s s.voidBay := by
  refine ⟨fun hp => (hp.voidBay h).1, fun hne => ?_, fun _ => ?_, fun ha => by rwa [voidBay_trim], ?_, fun _ hs => ?_,
    fun hno hs => ?_⟩
  · rw [State.voidBay_head]
    dsimp only
    by_cases ht : s.head.gripper.state = .taking
    · exact afterBayVoid_content_ne _ ht i
    · rwa [afterBayVoid_of_not_taking _ ht]
  · rw [State.voidBay_head]
    exact bay_afterVoid_content_ne _ _ i
  · unfold State.voidBay
    dsimp only
    repeat' split
    all_goals exact ⟨rfl, rfl⟩
  · rw [State.voidBay_head]
    exact afterBayVoid_of_not_taking _ hs
  · rcases h with ⟨j, hj⟩ | ⟨-, ht⟩
    · exact absurd hj (hno j)
    · exact absurd ht hs

theorem headAfter_voidPlaces (i : EntryIx) (s : State) : HeadAfter i s s.voidPlaces := by
  unfold State.voidPlaces
  extract_lets s1
  have h1 : HeadAfter i s s1 := by
    simp only [s1]
    split
    · rename_i hc
      simp only [Bool.and_eq_true, isEntry_iff, decide_eq_true_eq] at hc
      obtain ⟨⟨j, hj⟩, hs⟩ := hc
      exact headAfter_voidGripper i hj hs
    · exact .of_eq rfl rfl rfl
  split
  · rename_i hc
    simp only [Bool.or_eq_true, Bool.and_eq_true, isEntry_iff, decide_eq_true_eq] at hc
    exact h1.trans (headAfter_voidBay i hc)
  · exact h1

theorem headAfter_enterHalt (i : EntryIx) (s : State) : HeadAfter i s s.enterHalt := by
  have hbegun : HeadAfter i s (haltBegun s) := .of_eq (by simp) (by simp) (by simp)
  have hempty : HeadAfter i (haltBegun s) (haltBegun s).emptyList := headAfter_foldl i _ _
  rw [enterHalt_eq]
  exact (((hbegun.trans hempty).trans (headAfter_voidFeed i _)).trans (headAfter_voidPlaces i _)).trans
    (.of_eq (by simp) (by simp) (by simp))

theorem headAfter_requestHalt (i : EntryIx) (s : State) : HeadAfter i s s.requestHalt := by
  unfold State.requestHalt
  split
  · exact .of_eq rfl rfl rfl
  · exact .of_eq rfl rfl rfl
  all_goals exact headAfter_enterHalt i s

theorem headAfter_failContent (i : EntryIx) (c : Content) (s : State) : HeadAfter i s (s.failContent c) := by
  unfold State.failContent
  split
  · exact headAfter_attemptFailure i _ _ s
  · exact .of_eq rfl rfl rfl

/-! ### An entry through an entry into HALT -/

theorem entryStands_enterHalt {i : EntryIx} {s : State} (hw : BookWf s) (h : ∀ x ∈ s.issue.list, x.entry ≠ i) :
    EntryStands i s s.enterHalt := by
  have hbegun : EntryStands i s (haltBegun s) :=
    .of_book (by simp) ((touches_haltBegun s).causes.others _ (by decide)) (by simp)
  have hfold : EntryStands i (haltBegun s) (haltBegun s).emptyList :=
    entryStands_foldl_displace _ (s := haltBegun s) (by unfold BookWf at *; simpa using hw) (by simpa using h)
  rw [enterHalt_eq]
  exact (hbegun.trans hfold).trans (.of_book (by simp) (hasCause_congr (by simp) _) (by simp))

theorem entryStands_requestHalt {i : EntryIx} {s : State} (hw : BookWf s) (h : ∀ x ∈ s.issue.list, x.entry ≠ i) :
    EntryStands i s s.requestHalt := by
  unfold State.requestHalt
  split
  · exact .of_book rfl (hasCause_congr rfl _) rfl
  · exact .refl i s
  all_goals exact entryStands_enterHalt hw h

/-! ### A failed operation (R162) -/

/-- The place of a failed head operation is set, and its attempt has not been reported yet. -/
def placeFailed (s : State) (c : StationCommand) : State :=
  match c with
  | .spread =>
    s.putHead
      { s.head with
        bay := { s.head.bay with state := .spread, content := voided s.head.bay.content, openTimer := none } }
  | .take =>
    s.putHead
      { s.head with
        bay := { s.head.bay with state := .spread, content := voided s.head.bay.content, openTimer := none }
        gripper := .cleared }
  | .release =>
    s.endAttempt.putHead
      { s.endAttempt.head with
        gripper := { s.head.gripper with
          state := .holding, content := voided s.head.gripper.content, openTimer := none, confirm := false } }
  | .probe => s.clearGripper
  | .eject .bay => s.putHead { s.head with bay := { s.head.bay with state := s.head.bay.ejectFrom } }
  | .eject .gripper => s.putHead { s.head with gripper := { s.head.gripper with state := .holding } }
  | .query | .feed _ => s

theorem operationFailed_eq (s : State) (c : StationCommand) :
    s.operationFailed c = (placeFailed s c).failContent (servedContent s c) := by
  cases c with
  | eject p => cases p <;> rfl
  | _ => rfl

theorem placeFailed_frame (s : State) (c : StationCommand) :
    (placeFailed s c).book = s.book ∧ (placeFailed s c).issue = s.issue ∧ (placeFailed s c).seq = s.seq ∧
      (placeFailed s c).time = s.time ∧ (placeFailed s c).host = s.host ∧ (placeFailed s c).line = s.line := by
  cases c with
  | eject p => cases p <;> simp [placeFailed]
  | _ => simp [placeFailed]

theorem sameStart_placeFailed (s : State) (c : StationCommand) : SameStart s (placeFailed s c) := by
  obtain ⟨hb, hi, hs, ht, hh, -⟩ := placeFailed_frame s c
  exact .of_frame hb hs ht (by rw [hi]) fun _ _ => hasCause_congr (by rw [hh]) _

theorem voided_voided (c : Content) : voided (voided c) = voided c := by cases c <;> rfl

theorem afterVoid_spread (b : Bay) (g : Bool) :
    ({ b with state := .spread, content := voided b.content, openTimer := none } : Bay).afterVoid g =
      { b with state := .spread, content := voided b.content, openTimer := none } := by
  simp [Bay.afterVoid, voided_voided]

/-- The place of a failed operation stays as R162 sets it, whatever is voided afterwards. -/
theorem failedPlace_of {s t : State} {c : StationCommand} {i : EntryIx} (h : HeadAfter i (placeFailed s c) t)
    (hbin : t.head.binCount = s.head.binCount) : FailedPlace s c t := by
  have hbay : ∀ {u}, HeadAfter i u t →
      u.head.bay = { s.head.bay with state := .spread, content := voided s.head.bay.content, openTimer := none } →
      t.head.bay = { s.head.bay with state := .spread, content := voided s.head.bay.content, openTimer := none } := by
    intro u hu heq
    rcases (hu.path (.refl u)).bay with ⟨hb, -⟩ | ⟨hb, -⟩
    · rw [hb, heq]
    · rw [hb, heq, afterVoid_spread]
  cases c with
  | spread => exact hbay h (by simp [placeFailed])
  | take =>
    refine ⟨hbay h (by simp [placeFailed]), (h.gripperStill ?_ ?_).trans (by simp [placeFailed])⟩
    · simp [placeFailed, Gripper.cleared]
    · simp [placeFailed, Gripper.cleared]
  | release =>
    refine ⟨(h.attempt ⟨?_, ?_, ?_⟩).1, (h.gripperStill ?_ ?_).trans (by simp [placeFailed])⟩
    · simp [placeFailed, State.endAttempt]
    · simp [placeFailed, State.endAttempt]
    · simp [placeFailed, State.endAttempt]
    · intro j
      simp [placeFailed]
    · simp [placeFailed]
  | probe =>
    refine ⟨(h.attempt ⟨?_, ?_, ?_⟩).1, (h.gripperStill ?_ ?_).trans (by simp [placeFailed, State.clearGripper])⟩
    · simp [placeFailed, State.clearGripper, State.endAttempt]
    · simp [placeFailed, State.clearGripper, State.endAttempt]
    · simp [placeFailed, State.clearGripper, State.endAttempt]
    · simp [placeFailed, State.clearGripper, Gripper.cleared]
    · simp [placeFailed, State.clearGripper, Gripper.cleared]
  | eject p =>
    cases p with
    | bay =>
      refine ⟨hbin, fun hno hs => (h.bayStill ?_ ?_).trans (by simp [placeFailed])⟩
      · simpa [placeFailed] using hno
      · simpa [placeFailed] using hs
    | gripper =>
      refine ⟨hbin, fun hno => (h.gripperStill ?_ ?_).trans (by simp [placeFailed])⟩
      · simpa [placeFailed] using hno
      · simp [placeFailed]
  | query => trivial
  | feed n => trivial

/-- The attempt of a failed operation has failed with GRIP_FAULT, and stays failed while its entry stands. -/
theorem servedAttempt_of {s u t : State} {c : StationCommand} (hu : u = s.operationFailed c)
    (h : ∀ i, BookWf u → (∀ x ∈ u.issue.list, x.entry ≠ i) → EntryStands i u t) (r : IssueRecord) (hw : BookWf s)
    (hd : DistinctEntries s) (hr : r ∈ s.issue.list) (hc : ¬UnderCloseRequest s r.entry)
    (hs : servedContent s c = .entry r.entry) : AttemptFailed r .gripFault s t := by
  obtain ⟨h1, -, -⟩ := attemptFailure_from (sameStart_placeFailed s c) hw hd hr .gripFault
  have hfail := h1 hc
  have heq : u = (placeFailed s c).attemptFailure r.entry .gripFault := by
    rw [hu, operationFailed_eq, hs]
    rfl
  rw [← heq] at hfail
  exact hfail.stands (h r.entry (hu ▸ State.operationFailed_wf s c hw) hfail.2.2.1)

theorem failedPlace_congr {s w t : State} {c : StationCommand} (h : FailedPlace s c w) (hh : t.head = w.head)
    (ht : t.trim = w.trim) : FailedPlace s c t := by
  unfold FailedPlace at *
  rwa [hh, ht]

/-! ### The fault and its HALT request (R103) -/

theorem headAfter_failed (i : EntryIx) (s : State) (c : StationCommand) :
    HeadAfter i (placeFailed s c) (s.operationFailed c) := by
  rw [operationFailed_eq]
  exact headAfter_failContent i _ _

/-- What follows and leaves all but the station line and the status block alone. -/
structure LineTail (u w : State) : Prop where
  book : w.book = u.book
  issue : w.issue = u.issue
  head : w.head = u.head
  trim : w.trim = u.trim
  host : w.host = u.host
  control : w.control = u.control
  train : w.train = u.train

theorem LineTail.refl (u : State) : LineTail u u := ⟨rfl, rfl, rfl, rfl, rfl, rfl, rfl⟩

theorem lineTail_setStation (u : State) (p : Position) (z : Station) : LineTail u (u.setStation p z) :=
  ⟨rfl, rfl, rfl, rfl, rfl, rfl, rfl⟩

theorem LineTail.entryStands {u w : State} (h : LineTail u w) (i : EntryIx) (old : State) :
    EntryStands i u (finish old w) :=
  (EntryStands.of_book (s := u) (t := w) (by rw [h.book]) (hasCause_congr (by rw [h.host]) _) (by rw [h.issue])).trans
    (entryStands_finish i old w)

/-- A failed operation, as its command is closed. -/
theorem servedAttemptFails_failed (old s : State) (c : StationCommand) {w : State} (h : LineTail (s.operationFailed c) w) :
    ServedAttemptFails s c (finish old w) :=
  ⟨failedPlace_congr (w := s.operationFailed c) (failedPlace_of (headAfter_failed 0 s c) (by simp)) (by simp [h.head])
    (by simp [h.trim]), fun r hw hd hr hc hs => servedAttempt_of rfl (fun i _ _ => h.entryStands i old) r hw hd hr hc hs⟩

theorem headStationFault_some (s : State) (c : StationCommand) :
    s.headStationFault (some c) = ((s.operationFailed c).raise .headStation).requestHalt := rfl

theorem headStationFault_none (s : State) : s.headStationFault none = (s.raise .headStation).requestHalt := rfl

/-- A head station fault, as its command is closed: the attempt. -/
theorem servedAttemptFails_fault (old s : State) (c : StationCommand) {w : State}
    (h : LineTail (s.headStationFault (some c)) w) : ServedAttemptFails s c (finish old w) := by
  have hplace : FailedPlace s c (s.headStationFault (some c)) := by
    have hafter : HeadAfter 0 (s.operationFailed c) (s.headStationFault (some c)) := by
      rw [headStationFault_some]
      exact (HeadAfter.of_eq (s := s.operationFailed c) (t := (s.operationFailed c).raise .headStation) rfl rfl rfl).trans
        (headAfter_requestHalt 0 _)
    exact failedPlace_of ((headAfter_failed 0 s c).trans hafter) (by simp)
  refine ⟨failedPlace_congr hplace (by simp [h.head]) (by simp [h.trim]), fun r hw hd hr hc hs =>
    servedAttempt_of rfl (fun i hu hno => ?_) r hw hd hr hc hs⟩
  have hraised : EntryStands i (s.operationFailed c) ((s.operationFailed c).raise .headStation) :=
    .of_book rfl (by simp) rfl
  have hhalt : EntryStands i (s.operationFailed c) (s.headStationFault (some c)) := by
    rw [headStationFault_some]
    exact hraised.trans (entryStands_requestHalt hu hno)
  exact hhalt.trans (h.entryStands i old)

/-- A HALT request taken, as its command is closed. -/
theorem haltRequested_tail (old : State) {s u w : State} (h : u.control = s.control) (hw : LineTail u.requestHalt w) :
    HaltRequested s (finish old w) := by
  refine ⟨fun hm => ?_, fun hi => ?_, fun hh => ?_⟩
  · rw [requestHalt_of_mayHalt (s := u) ((mayHalt_congr (by rw [h])).2 hm)] at hw
    obtain ⟨hstate, hlist, hcarriers, hfeed, hplaces⟩ := State.enterHalt_noWork u
    have hcause := hasCause_enterHalt u
    have hqueue := enterHalt_queue u
    generalize u.enterHalt = v at *
    obtain ⟨-, hwi, hwh, -, hwhost, hwc, hwt⟩ := hw
    refine halted_finish old (by rw [hwc, hstate]) ⟨by rw [hwi, hlist], ?_, ?_, ?_⟩
      ((hasCause_congr (by rw [hwhost]) _).trans hcause) fun c hc => ?_
    · unfold CarriersVoid
      rw [hwt]
      exact hcarriers
    · unfold FeedVoid
      rw [hwi]
      exact hfeed
    · unfold PlacesVoid
      rw [hwh]
      exact hplaces
    · rw [hwt, hqueue] at hc
      obtain ⟨d, -, rfl⟩ := List.mem_map.1 hc
      rfl
  · rw [requestHalt_of_init (by rw [h]; exact hi)] at hw
    simp [hw.control, h]
  · rw [requestHalt_of_halt (by rw [h]; exact hh)] at hw
    simp [hw.control, h]

theorem hasCause_headStationFault (s : State) (f : Option StationCommand) :
    hasCause (s.headStationFault f) .headStation = true := by
  have hkeep : ∀ u : State, hasCause (u.raise .headStation).requestHalt .headStation = true := fun u =>
    (touches_requestHalt _).causes.stand _ (by simp)
  cases f with
  | none => exact hkeep s
  | some c => exact hkeep (s.operationFailed c)

theorem fault_closed (old s : State) (f : Option StationCommand) {w : State} (h : LineTail (s.headStationFault f) w) :
    hasCause (finish old w) .headStation = true ∧ HaltRequested s (finish old w) := by
  refine ⟨hasCause_finish_raised old ((hasCause_congr (by rw [h.host]) _).trans (hasCause_headStationFault s f)), ?_⟩
  cases f with
  | none => exact haltRequested_tail old (u := s.raise .headStation) rfl h
  | some c => exact haltRequested_tail old (u := (s.operationFailed c).raise .headStation) (by simp) h

/-- The stations of the head are none of its operations' business. -/
theorem headAfter_at {i : EntryIx} {s t : State} (h : HeadAfter i s t) {p : Position} (hp : isFeederPosition p = false) :
    t.line.at p = s.line.at p := by
  cases p with
  | feederA => cases hp
  | feederB => cases hp
  | spreader => exact h.stations.1
  | gripper => exact h.stations.2

theorem operationFailed_at (s : State) (c : StationCommand) {p : Position} (hp : isFeederPosition p = false) :
    (s.operationFailed c).line.at p = s.line.at p :=
  (headAfter_at (headAfter_failed 0 s c) hp).trans (by rw [(placeFailed_frame s c).2.2.2.2.2])

theorem headStationFault_at (s : State) (f : Option StationCommand) {p : Position} (hp : isFeederPosition p = false) :
    (s.headStationFault f).line.at p = s.line.at p := by
  have hhalt : ∀ u : State, (u.raise .headStation).requestHalt.line.at p = u.line.at p := fun u =>
    headAfter_at (i := 0) (headAfter_requestHalt 0 _) hp
  cases f with
  | none => exact hhalt s
  | some c => exact (hhalt _).trans (operationFailed_at s c hp)

end Sys2Proof
end

section
/-! SUPPORT. Replies to commands (5.4): ACCEPTED, BUSY and error words. -/

namespace Sys2Proof

open Sys2Proof.Machine

/-! ### A station as its transaction ends -/

/-- What the work of a reply has left when the next poll due is set. -/
structure Replied (p : Position) (s u : State) : Prop where
  seq : u.seq.profile = s.seq.profile
  time : u.time = s.time
  transaction : u.line.transaction = none
  pending : (u.line.at p).pollPending = (s.line.at p).pollPending
  next : (u.line.at p).nextPoll = (s.line.at p).nextPoll

theorem Replied.station {p : Position} {s u : State} (h : Replied p s u) (b : Bool) :
    (finish s (u.schedulePoll p b)).line.at p = pollAfter (u.line.at p) s.seq.profile.workingPoll s.time b := by
  have heq := (schedulePoll_station u p b).1
  rw [h.seq, h.time] at heq
  simpa using heq

/-- A command answered ACCEPTED or BUSY. -/
theorem Replied.answered {p : Position} {s u : State} (h : Replied p s u) :
    (finish s (u.schedulePoll p true)).line.transaction = none ∧
      (finish s (u.schedulePoll p true)).line.at p =
        { u.line.at p with nextPoll := ((finish s (u.schedulePoll p true)).line.at p).nextPoll } ∧
      PollAfterCommand p s (finish s (u.schedulePoll p true)) := by
  have hst := h.station true
  refine ⟨by simpa [State.schedulePoll] using h.transaction, ?_, pollAfterCommand_of hst h.pending h.next⟩
  obtain ⟨n, hn⟩ := pollAfter_fields (u.line.at p) s.seq.profile.workingPoll s.time true
  rw [hst, hn]

/-- Any other end of a transaction. -/
theorem Replied.ended {p : Position} {s u : State} (h : Replied p s u) :
    (finish s (u.schedulePoll p false)).line.transaction = none ∧
      (finish s (u.schedulePoll p false)).line.at p =
        { u.line.at p with nextPoll := ((finish s (u.schedulePoll p false)).line.at p).nextPoll } ∧
      PollScheduled p s (finish s (u.schedulePoll p false)) := by
  have hst := h.station false
  refine ⟨by simpa [State.schedulePoll] using h.transaction, ?_, pollScheduled_of hst h.pending h.next⟩
  obtain ⟨n, hn⟩ := pollAfter_fields (u.line.at p) s.seq.profile.workingPoll s.time false
  rw [hst, hn]

/-- The line is free, and the station's record replaced by one that polls alike. -/
theorem replied_setStation {p : Position} {s v : State} (hs : v.seq.profile = s.seq.profile) (ht : v.time = s.time)
    (hl : v.line.transaction = none) {x : Station} (hp : x.pollPending = (s.line.at p).pollPending)
    (hn : x.nextPoll = (s.line.at p).nextPoll) : Replied p s (v.setStation p x) :=
  ⟨hs, ht, by simpa using hl, by rw [at_setStation, if_pos rfl]; exact hp, by rw [at_setStation, if_pos rfl]; exact hn⟩

theorem otherStationsKept_schedulePoll {p : Position} {s u : State} (old : State) (b : Bool) (h : OtherStationsKept p s u) :
    OtherStationsKept p s (finish old (u.schedulePoll p b)) :=
  otherStationsKept_finish old (otherStationsKept_trans h (schedulePoll_station u p b).2)

/-! ### ACCEPTED (R90) -/

/-- A FEED accepted is a feed in phase ACCEPTED. -/
theorem acceptFeed_feed {s : State} {f : FeedPending} (hf : s.issue.feed = some f) (hp : f.phase = .sent) :
    s.acceptFeed (feederPosition f.feeder) =
      s.withIssue { s.issue with feed := some { f with phase := .accepted s.time } } := by
  rw [State.acceptFeed, hf]
  exact if_pos ⟨rfl, hp⟩

theorem acceptFeed_head {s : State} {p : Position} (hp : isFeederPosition p = false) : s.acceptFeed p = s := by
  unfold State.acceptFeed
  split
  · rfl
  · rename_i f _
    exact if_neg fun hc => feederPosition_ne hp f.feeder hc.1

/-- The station of a command that has been accepted. -/
def acceptedStation (x : Station) (c : StationCommand) : Station :=
  { x with operation := .command c, state := .busy, retry := false }

theorem head_accepted {p : Position} {c : StationCommand} {at0 : Word} {bytes : List Byte} {s : State}
    (ha : AwaitsReply s ⟨p, c, at0⟩) (hc : c ≠ .query) (hj : judgeReply p false bytes = .good .accepted)
    (hp : isFeederPosition p = false) :
    ∃ t, exec (.commandReply bytes) s = .next t ∧ t.line.transaction = none ∧
      t.line.at p = { s.line.at p with
        operation := .command c, state := .busy, retry := false, nextPoll := (t.line.at p).nextPoll } ∧
      PollAfterCommand p s t ∧ OtherStationsKept p s t ∧ KeptBut [.line] s t ∧ CausesKeptBut [] s t := by
  obtain ⟨hfree, hat, -⟩ := freeLine_frame s
  have hexec : exec (.commandReply bytes) s =
      answer s ((s.freeLine.setStation p (acceptedStation (s.line.at p) c)).schedulePoll p true) := by
    rw [exec_reply_accepted ha hc hj, State.commandAccepted, acceptFeed_head hp, changeStation_head _ hp, hat]
    rfl
  have hreplied : Replied p s (s.freeLine.setStation p (acceptedStation (s.line.at p) c)) :=
    replied_setStation (s := s) (v := s.freeLine) (x := acceptedStation (s.line.at p) c) rfl rfl hfree rfl rfl
  obtain ⟨h1, h2, h3⟩ := hreplied.answered
  rw [at_setStation, if_pos rfl] at h2
  refine ⟨_, hexec, h1, h2, h3, otherStationsKept_schedulePoll s true
    (otherStationsKept_trans (otherStationsKept_freeLine s p) (otherStationsKept_setStation _ p _)), ?_⟩
  exact (((touches_freeLine s).trans (touches_setStation _ p _)).trans (touches_schedulePoll _ p true)).closed

theorem feed_accepted {f : FeedPending} {n : Nat} {at0 : Word} {bytes : List Byte} {s : State}
    (ha : AwaitsReply s ⟨feederPosition f.feeder, .feed n, at0⟩) (hf : s.issue.feed = some f) (hp : f.phase = .sent)
    (hj : judgeReply (feederPosition f.feeder) false bytes = .good .accepted) :
    ∃ t, exec (.commandReply bytes) s = .next t ∧ t.line.transaction = none ∧
      t.issue.feed = some { f with phase := .accepted s.time } ∧
      t.line.at (feederPosition f.feeder) = { s.line.at (feederPosition f.feeder) with
        operation := .command (.feed n), state := .busy, retry := false
        nextPoll := (t.line.at (feederPosition f.feeder)).nextPoll } ∧
      PollAfterCommand (feederPosition f.feeder) s t ∧
      OtherStationsKept (feederPosition f.feeder) s t ∧ KeptBut [.line, .feed] s t ∧ CausesKeptBut [] s t := by
  obtain ⟨hfree, hat, -⟩ := freeLine_frame s
  -- the feed in phase ACCEPTED is not withdrawn from the feeder that is now BUSY
  have hexec : exec (.commandReply bytes) s =
      answer s (((s.freeLine.withIssue { s.issue with feed := some { f with phase := .accepted s.time } }).setStation
        (feederPosition f.feeder) (acceptedStation (s.line.at (feederPosition f.feeder)) (.feed n))).schedulePoll
        (feederPosition f.feeder) true) := by
    rw [exec_reply_accepted ha (by simp) hj, State.commandAccepted, acceptFeed_feed (s := s.freeLine) hf hp]
    rw [State.changeStation, withdrawIfNotReady_stands]
    · rw [← hat (feederPosition f.feeder)]
      rfl
    · intro g hg _ hr
      obtain rfl : { f with phase := .accepted s.time } = g := Option.some.inj hg
      cases hr
  have hreplied : Replied (feederPosition f.feeder) s
      ((s.freeLine.withIssue { s.issue with feed := some { f with phase := .accepted s.time } }).setStation
        (feederPosition f.feeder) (acceptedStation (s.line.at (feederPosition f.feeder)) (.feed n))) :=
    replied_setStation (s := s) (v := s.freeLine.withIssue { s.issue with feed := some { f with phase := .accepted s.time } })
      (x := acceptedStation (s.line.at (feederPosition f.feeder)) (.feed n)) rfl rfl hfree rfl rfl
  obtain ⟨h1, h2, h3⟩ := hreplied.answered
  rw [at_setStation, if_pos rfl] at h2
  have hothers : OtherStationsKept (feederPosition f.feeder) s
      (s.freeLine.withIssue { s.issue with feed := some { f with phase := .accepted s.time } }) :=
    otherStationsKept_trans (otherStationsKept_freeLine s _) (otherStationsKept_of_line rfl)
  refine ⟨_, hexec, h1, by simp [State.schedulePoll], h2, h3, otherStationsKept_schedulePoll s true
    (otherStationsKept_trans hothers (otherStationsKept_setStation _ _ _)), ?_⟩
  exact ((((touches_freeLine s).mono.trans (touches_withFeed s.freeLine _).mono).trans
    (touches_setStation _ _ _).mono).trans (touches_schedulePoll _ _ true).mono :
      Touches [.line, .feed] [] s _).closed

/-! ### BUSY (R90) -/

/-- The station that holds a command back. -/
def deferringStation (x : Station) (c : StationCommand) : Station := { x with deferred := some c, retry := false }

/-- The mark of the retry is gone. -/
def freshStation (x : Station) : Station := { x with retry := false }

theorem commandBusy_head {s : State} {p : Position} {c : StationCommand} (hf : ∀ n, c ≠ .feed n) (hp : isFeederPosition p = false) :
    s.commandBusy p c = ((s.setStation p (freshStation (s.line.at p))).setStation p
      (deferringStation (s.line.at p) c)).schedulePoll p true := by
  have heq : s.commandBusy p c = (((s.setStation p (freshStation (s.line.at p))).setStation p
      { (s.setStation p (freshStation (s.line.at p))).line.at p with deferred := some c }).withdrawIfNotReady p).schedulePoll
        p true := by
    cases c with
    | feed n => exact absurd rfl (hf n)
    | _ => rfl
  rw [heq, withdrawIfNotReady_head hp, at_setStation, if_pos rfl]
  rfl

theorem commandBusy_feed (s : State) (p : Position) (n : Nat) :
    s.commandBusy p (.feed n) =
      (((s.setStation p (freshStation (s.line.at p))).busyFeed p (.feed n)).withdrawIfNotReady p).schedulePoll p true := rfl

theorem head_busy {p : Position} {c : StationCommand} {at0 : Word} {bytes : List Byte} {s : State}
    (ha : AwaitsReply s ⟨p, c, at0⟩) (hc : c ≠ .query) (hf : ∀ n, c ≠ .feed n)
    (hj : judgeReply p false bytes = .good .busy) (hp : isFeederPosition p = false) :
    ∃ t, exec (.commandReply bytes) s = .next t ∧ t.line.transaction = none ∧
      t.line.at p = { s.line.at p with
        deferred := some c, retry := false, nextPoll := (t.line.at p).nextPoll } ∧
      PollAfterCommand p s t ∧ OtherStationsKept p s t ∧ KeptBut [.line] s t ∧ CausesKeptBut [] s t := by
  obtain ⟨hfree, hat, -⟩ := freeLine_frame s
  have hexec : exec (.commandReply bytes) s =
      answer s (((s.freeLine.setStation p (freshStation (s.line.at p))).setStation p
        (deferringStation (s.line.at p) c)).schedulePoll p true) := by
    rw [exec_reply_busy ha hc hj, commandBusy_head hf hp, hat]
  have hreplied : Replied p s ((s.freeLine.setStation p (freshStation (s.line.at p))).setStation p
      (deferringStation (s.line.at p) c)) :=
    replied_setStation (s := s) (v := s.freeLine.setStation p _) (x := deferringStation (s.line.at p) c) rfl rfl
      (by simpa using hfree) rfl rfl
  obtain ⟨h1, h2, h3⟩ := hreplied.answered
  rw [at_setStation, if_pos rfl] at h2
  refine ⟨_, hexec, h1, h2, h3, otherStationsKept_schedulePoll s true
    (otherStationsKept_trans (otherStationsKept_trans (otherStationsKept_freeLine s p) (otherStationsKept_setStation _ p _))
      (otherStationsKept_setStation _ p _)), ?_⟩
  exact ((((touches_freeLine s).trans (touches_setStation _ p _)).trans (touches_setStation _ p _)).trans
    (touches_schedulePoll _ p true)).closed

theorem feed_busy_entry {f : FeedPending} {i : EntryIx} {n : Nat} {at0 : Word} {bytes : List Byte} {s : State}
    (ha : AwaitsReply s ⟨feederPosition f.feeder, .feed n, at0⟩) (hf : s.issue.feed = some f) (hi : f.entry = some i)
    (hp : f.phase = .sent) (hr : FeederReady s f.feeder) (hj : judgeReply (feederPosition f.feeder) false bytes = .good .busy) :
    ∃ t, exec (.commandReply bytes) s = .next t ∧ t.line.transaction = none ∧
      t.issue.feed = some { f with phase := .requested } ∧
      (t.line.at (feederPosition f.feeder)).deferred = some (.feed n) ∧
      (t.line.at (feederPosition f.feeder)).state = .ready ∧ PollAfterCommand (feederPosition f.feeder) s t ∧
      KeptBut [.line, .feed] s t ∧ CausesKeptBut [] s t := by
  obtain ⟨hfree, hat, -⟩ := freeLine_frame s
  have hexec : exec (.commandReply bytes) s =
      answer s ((((s.freeLine.setStation (feederPosition f.feeder)
        (freshStation (s.line.at (feederPosition f.feeder)))).withIssue
          { s.issue with feed := some { f with phase := .requested } }).setStation
        (feederPosition f.feeder) (deferringStation (s.line.at (feederPosition f.feeder)) (.feed n))).schedulePoll
        (feederPosition f.feeder) true) := by
    rw [exec_reply_busy ha (by simp) hj, commandBusy_feed, hat]
    have hbusy : (s.freeLine.setStation (feederPosition f.feeder)
        (freshStation (s.line.at (feederPosition f.feeder)))).busyFeed (feederPosition f.feeder) (.feed n) =
          ((s.freeLine.setStation (feederPosition f.feeder)
            (freshStation (s.line.at (feederPosition f.feeder)))).withIssue
              { s.issue with feed := some { f with phase := .requested } }).setStation
            (feederPosition f.feeder) (deferringStation (s.line.at (feederPosition f.feeder)) (.feed n)) := by
      have hfeed : (s.freeLine.setStation (feederPosition f.feeder)
        (freshStation (s.line.at (feederPosition f.feeder)))).issue.feed = some f := hf
      simp only [State.busyFeed, hfeed, hp, hi]
      rw [if_pos ⟨trivial, trivial⟩, at_setStation, if_pos rfl]
      rfl
    rw [hbusy, withdrawIfNotReady_stands]
    intro g _ _ _
    rw [at_setStation, if_pos rfl]
    exact hr
  have hreplied : Replied (feederPosition f.feeder) s
      (((s.freeLine.setStation (feederPosition f.feeder)
        (freshStation (s.line.at (feederPosition f.feeder)))).withIssue
          { s.issue with feed := some { f with phase := .requested } }).setStation
        (feederPosition f.feeder) (deferringStation (s.line.at (feederPosition f.feeder)) (.feed n))) :=
    replied_setStation (s := s) (v := (s.freeLine.setStation (feederPosition f.feeder) _).withIssue _)
      (x := deferringStation (s.line.at (feederPosition f.feeder)) (.feed n)) rfl rfl (by simpa using hfree) rfl rfl
  obtain ⟨h1, h2, h3⟩ := hreplied.answered
  rw [at_setStation, if_pos rfl] at h2
  refine ⟨_, hexec, h1, by simp [State.schedulePoll], by rw [h2]; rfl, by rw [h2]; exact hr, h3, ?_⟩
  exact (((((touches_freeLine s).mono.trans (touches_setStation _ _ _).mono).trans
    (touches_withFeed (s.freeLine.setStation _ _) _).mono).trans (touches_setStation _ _ _).mono).trans
      (touches_schedulePoll _ _ true).mono : Touches [.line, .feed] [] s _).closed

theorem feed_busy_void {f : FeedPending} {n : Nat} {at0 : Word} {bytes : List Byte} {s : State}
    (ha : AwaitsReply s ⟨feederPosition f.feeder, .feed n, at0⟩) (hf : s.issue.feed = some f) (hi : f.entry = none)
    (hp : f.phase = .sent) (hj : judgeReply (feederPosition f.feeder) false bytes = .good .busy) :
    ∃ t, exec (.commandReply bytes) s = .next t ∧ t.line.transaction = none ∧ t.issue.feed = none ∧
      (t.line.at (feederPosition f.feeder)).deferred = (s.line.at (feederPosition f.feeder)).deferred ∧
      PollAfterCommand (feederPosition f.feeder) s t ∧ KeptBut [.line, .feed] s t ∧ CausesKeptBut [] s t := by
  obtain ⟨hfree, hat, -⟩ := freeLine_frame s
  have hexec : exec (.commandReply bytes) s =
      answer s (((s.freeLine.setStation (feederPosition f.feeder)
        (freshStation (s.line.at (feederPosition f.feeder)))).withIssue
          { s.issue with feed := none }).schedulePoll (feederPosition f.feeder) true) := by
    rw [exec_reply_busy ha (by simp) hj, commandBusy_feed, hat]
    have hbusy : (s.freeLine.setStation (feederPosition f.feeder)
        (freshStation (s.line.at (feederPosition f.feeder)))).busyFeed (feederPosition f.feeder) (.feed n) =
          (s.freeLine.setStation (feederPosition f.feeder)
            (freshStation (s.line.at (feederPosition f.feeder)))).withIssue { s.issue with feed := none } := by
      have hfeed : (s.freeLine.setStation (feederPosition f.feeder)
        (freshStation (s.line.at (feederPosition f.feeder)))).issue.feed = some f := hf
      simp only [State.busyFeed, hfeed, hp, hi]
      rw [if_pos ⟨trivial, trivial⟩]
      rfl
    rw [hbusy, withdrawIfNotReady_stands]
    intro g hg
    cases hg
  have hstation : ((s.freeLine.setStation (feederPosition f.feeder)
      (freshStation (s.line.at (feederPosition f.feeder)))).withIssue { s.issue with feed := none }).line.at
        (feederPosition f.feeder) = freshStation (s.line.at (feederPosition f.feeder)) := by
    simp [at_setStation]
  have hreplied : Replied (feederPosition f.feeder) s ((s.freeLine.setStation (feederPosition f.feeder)
      (freshStation (s.line.at (feederPosition f.feeder)))).withIssue { s.issue with feed := none }) :=
    ⟨rfl, rfl, by simpa using hfree, by rw [hstation]; rfl, by rw [hstation]; rfl⟩
  obtain ⟨h1, h2, h3⟩ := hreplied.answered
  rw [hstation] at h2
  refine ⟨_, hexec, h1, by simp [State.schedulePoll], by rw [h2]; rfl, h3, ?_⟩
  exact ((((touches_freeLine s).mono.trans (touches_setStation _ _ _).mono).trans
    (touches_withFeed (s.freeLine.setStation _ _) _).mono).trans (touches_schedulePoll _ _ true).mono :
      Touches [.line, .feed] [] s _).closed

/-! ### Error words (R90, R102, R103) -/

/-- The station that has become FAULTED with an error word. -/
def faultedStation (x : Station) (code : Half) : Station :=
  { x with state := .faulted, operation := .none, lastError := code, retry := false, hold := none }

theorem endSentFeed_feed {s : State} {f : FeedPending} (hf : s.issue.feed = some f) (hp : f.phase = .sent) :
    s.endSentFeed (feederPosition f.feeder) = s.endFeed := by
  rw [State.endSentFeed, hf]
  exact if_pos ⟨rfl, hp⟩

theorem endSentFeed_head {s : State} {p : Position} (hp : isFeederPosition p = false) : s.endSentFeed p = s := by
  unfold State.endSentFeed
  split
  · rfl
  · rename_i f _
    exact if_neg fun hc => feederPosition_ne hp f.feeder hc.1

theorem commandError_feeder {s : State} {p : Position} (c : StationCommand) (code : Half) (hp : isFeederPosition p = true) :
    s.commandError p c code =
      ((s.endSentFeed p).changeStation p (faultedStation ((s.endSentFeed p).line.at p) code)).schedulePoll p false :=
  if_pos hp

theorem commandError_head {s : State} {p : Position} (c : StationCommand) (code : Half) (hp : isFeederPosition p = false)
    (hs : (s.line.at p).state ≠ .faulted) :
    s.commandError p c code =
      ((s.setStation p (faultedStation (s.line.at p) code)).schedulePoll p false).headStationFault (some c) := by
  rw [State.commandError, endSentFeed_head hp, changeStation_head _ hp, if_neg (by simp [hp]), if_neg hs]
  rfl

theorem feed_error {f : FeedPending} {n : Nat} {at0 : Word} {code : Half} {bytes : List Byte} {s : State}
    (ha : AwaitsReply s ⟨feederPosition f.feeder, .feed n, at0⟩) (hf : s.issue.feed = some f) (hp : f.phase = .sent)
    (hj : judgeReply (feederPosition f.feeder) false bytes = .good (.error code)) :
    ∃ t, exec (.commandReply bytes) s = .next t ∧ t.line.transaction = none ∧ t.issue.feed = none ∧
      (f.entry = none → t.issue.list = s.issue.list) ∧
      (∀ i, f.entry = some i →
        t.issue.list = s.issue.list.map (fun r => if r.entry = i then { r with location := .none } else r)) ∧
      (t.line.at (feederPosition f.feeder)).state = .faulted ∧
      (t.line.at (feederPosition f.feeder)).lastError = code ∧
      (t.line.at (feederPosition f.feeder)).operation = .none ∧ PollScheduled (feederPosition f.feeder) s t ∧
      KeptBut [.line, .feed, .list] s t ∧ CausesKeptBut [] s t := by
  obtain ⟨hfree, hat, hissue, -⟩ := freeLine_frame s
  have hff : s.freeLine.issue.feed = some f := hf
  obtain ⟨hnone, hlist, hlist', -⟩ := endFeed_spec hff
  obtain ⟨⟨d, hd⟩, -⟩ := endFeed_station hff
  rw [hat] at hd
  have hexec : exec (.commandReply bytes) s =
      answer s ((s.freeLine.endFeed.setStation (feederPosition f.feeder)
        (faultedStation (s.freeLine.endFeed.line.at (feederPosition f.feeder)) code)).schedulePoll
        (feederPosition f.feeder) false) := by
    rw [exec_reply_error ha (by simp) hj, commandError_feeder _ _ (feederPosition_isFeeder _), endSentFeed_feed hff hp,
      State.changeStation, withdrawIfNotReady_stands]
    intro g hg
    rw [show (s.freeLine.endFeed.setStation _ _).issue = s.freeLine.endFeed.issue from rfl, hnone] at hg
    cases hg
  have hframe : s.freeLine.endFeed.seq = s.seq ∧ s.freeLine.endFeed.time = s.time ∧
      s.freeLine.endFeed.line.transaction = none := by
    refine ⟨?_, ?_, by simpa using hfree⟩
    · simp [State.freeLine]
    · simp [State.freeLine]
  have htouch : Touches [.line, .feed, .list] [] s s.freeLine.endFeed := (touches_freeLine s).mono.trans (touches_endFeed _).mono
  rw [hissue] at hlist hlist'
  generalize s.freeLine.endFeed = u at *
  obtain ⟨hseq, htime, htransaction⟩ := hframe
  have hreplied : Replied (feederPosition f.feeder) s (u.setStation (feederPosition f.feeder)
      (faultedStation (u.line.at (feederPosition f.feeder)) code)) :=
    replied_setStation (by rw [hseq]) htime htransaction (by rw [hd]; rfl) (by rw [hd]; rfl)
  obtain ⟨h1, h2, h3⟩ := hreplied.ended
  rw [at_setStation, if_pos rfl] at h2
  refine ⟨_, hexec, h1, ?_, fun h => ?_, fun i h => ?_, by rw [h2]; rfl, by rw [h2]; rfl, by rw [h2]; rfl, h3,
    ((htouch.trans (touches_setStation _ _ _).mono).trans (touches_schedulePoll _ _ false).mono).closed⟩
  · simpa [State.schedulePoll] using hnone
  · simpa [State.schedulePoll] using hlist h
  · simpa [State.schedulePoll] using hlist' i h

theorem servedAttemptFails_from {s v t : State} {c : StationCommand} (hh : v.head = s.head) (hv : SameStart s v)
    (h : ServedAttemptFails v c t) : ServedAttemptFails s c t := by
  obtain ⟨hplace, hfail⟩ := h
  refine ⟨?_, fun r hw hd hr hc hs => ?_⟩
  · unfold FailedPlace at *
    rwa [hh] at hplace
  · refine (hfail r ?_ ?_ (by rw [hv.list]; exact hr) (mt (hv.courses.underCloseRequest_iff _).1 hc) ?_).from
      hv.courses.time hv.failed
    · unfold BookWf
      rw [hv.cells]
      exact hw
    · unfold DistinctEntries
      rw [hv.list]
      exact hd
    · unfold servedContent at *
      rwa [hh]

theorem haltRequested_from {s v t : State} (h : v.control = s.control) (hv : HaltRequested v t) : HaltRequested s t := by
  unfold HaltRequested MayHalt at *
  rwa [h] at hv

/-- A station record replaced leaves the start of a report as it was. -/
theorem sameStart_setStation (s : State) (p : Position) (x : Station) : SameStart s (s.setStation p x) :=
  .of_frame rfl rfl rfl rfl fun _ _ => hasCause_congr rfl _

theorem sameStart_freeLine (s : State) : SameStart s s.freeLine :=
  .of_frame rfl rfl rfl rfl fun _ _ => hasCause_congr rfl _

theorem head_error {p : Position} {c : StationCommand} {at0 : Word} {code : Half} {bytes : List Byte} {s : State}
    (ha : AwaitsReply s ⟨p, c, at0⟩) (hc : c ≠ .query) (hp : isFeederPosition p = false)
    (hs : (s.line.at p).state ≠ .faulted) (hj : judgeReply p false bytes = .good (.error code)) :
    ∃ t, exec (.commandReply bytes) s = .next t ∧ t.line.transaction = none ∧ (t.line.at p).state = .faulted ∧
      (t.line.at p).lastError = code ∧ (t.line.at p).operation = .none ∧ PollScheduled p s t ∧
      ServedAttemptFails s c t ∧ hasCause t .headStation = true ∧ HaltRequested s t ∧ KeptBut haltBlocks s t ∧
      CausesKeptBut [.headStation, .halted, .entryFailed, .courseClosed] s t := by
  obtain ⟨hfree, hat, -⟩ := freeLine_frame s
  have hexec : exec (.commandReply bytes) s =
      answer s (((s.freeLine.setStation p (faultedStation (s.line.at p) code)).schedulePoll p false).headStationFault
        (some c)) := by
    rw [exec_reply_error ha hc hj, commandError_head c code hp (by rw [hat]; exact hs), hat]
  have hreplied : Replied p s (s.freeLine.setStation p (faultedStation (s.line.at p) code)) :=
    replied_setStation (s := s) (v := s.freeLine) (x := faultedStation (s.line.at p) code) rfl rfl hfree rfl rfl
  have hst := (schedulePoll_station (s.freeLine.setStation p (faultedStation (s.line.at p) code)) p false).1
  rw [at_setStation, if_pos rfl] at hst
  have hstart : SameStart s ((s.freeLine.setStation p (faultedStation (s.line.at p) code)).schedulePoll p false) :=
    ((sameStart_freeLine s).trans (sameStart_setStation _ p _)).trans (sameStart_setStation _ p _)
  have hframe : ((s.freeLine.setStation p (faultedStation (s.line.at p) code)).schedulePoll p false).head = s.head ∧
      ((s.freeLine.setStation p (faultedStation (s.line.at p) code)).schedulePoll p false).control = s.control ∧
      ((s.freeLine.setStation p (faultedStation (s.line.at p) code)).schedulePoll p false).line.transaction = none :=
    ⟨rfl, rfl, by simpa [State.schedulePoll] using hfree⟩
  have htouch : Touches [.line] [] s ((s.freeLine.setStation p (faultedStation (s.line.at p) code)).schedulePoll p false) :=
    ((touches_freeLine s).trans (touches_setStation _ p _)).trans (touches_schedulePoll _ p false)
  generalize (s.freeLine.setStation p (faultedStation (s.line.at p) code)).schedulePoll p false = u at *
  obtain ⟨hhead, hcontrol, htransaction⟩ := hframe
  have hfault := headStationFault_at u (some c) hp
  have hserved := servedAttemptFails_fault s u c (.refl _)
  obtain ⟨hcause, hhalt⟩ := fault_closed s u (some c) (.refl _)
  have hline : (finish s (u.headStationFault (some c))).line.at p =
      pollAfter (faultedStation (s.line.at p) code) s.seq.profile.workingPoll s.time false := by
    rw [show (finish s (u.headStationFault (some c))).line = (u.headStationFault (some c)).line by simp, hfault, hst]
    rfl
  obtain ⟨n, hn⟩ := pollAfter_fields (faultedStation (s.line.at p) code) s.seq.profile.workingPoll s.time false
  refine ⟨_, hexec, by simpa using htransaction, by rw [hline, hn]; rfl, by rw [hline, hn]; rfl, by rw [hline, hn]; rfl,
    pollScheduled_of hline rfl rfl, servedAttemptFails_from hhead hstart hserved, hcause,
    haltRequested_from hcontrol hhalt, (htouch.mono.trans (touches_headStationFault u (some c))).closed⟩

/-- Settles O32, by the reply and the station it comes from. -/
theorem commandRepliesSetTheStation : Obligations.CommandRepliesSetTheStation :=
  ⟨fun _ _ _ _ _ ha hc hj hp => head_accepted ha hc hj hp, fun _ _ _ _ _ ha hf hp hj => feed_accepted ha hf hp hj,
    fun _ _ _ _ _ ha hc hf hj hp => head_busy ha hc hf hj hp,
    fun _ _ _ _ _ _ ha hf hi hp hr hj => feed_busy_entry ha hf hi hp hr hj,
    fun _ _ _ _ _ ha hf hi hp hj => feed_busy_void ha hf hi hp hj,
    fun _ _ _ _ _ _ ha hf hp hj => feed_error ha hf hp hj, fun _ _ _ _ _ _ ha hc hp hs hj => head_error ha hc hp hs hj⟩

end Sys2Proof
end

section
/-! SUPPORT. Failed transactions (5.8): the resend, and the station that becomes UNRESPONSIVE. -/

namespace Sys2Proof

open Sys2Proof.Machine

/-! ### A feeder's station through voided feeds (R61) -/

/-- No feed stands requested at this position. -/
def FeedElsewhere (p : Position) (s : State) : Prop :=
  ∀ f, s.issue.feed = some f → feederPosition f.feeder = p → f.phase ≠ .requested

/-- What voiding bricks does to the feed, and to the station of a position it is not requested at. -/
structure FeedCalm (p : Position) (s t : State) : Prop where
  station : FeedElsewhere p s → t.line.at p = s.line.at p
  elsewhere : FeedElsewhere p s → FeedElsewhere p t
  none : s.issue.feed = none → t.issue.feed = none

theorem FeedCalm.trans {p : Position} {s t u : State} (h1 : FeedCalm p s t) (h2 : FeedCalm p t u) : FeedCalm p s u :=
  ⟨fun h => (h2.station (h1.elsewhere h)).trans (h1.station h), fun h => h2.elsewhere (h1.elsewhere h),
    fun h => h2.none (h1.none h)⟩

theorem FeedCalm.of_eq {p : Position} {s t : State} (hl : t.line.at p = s.line.at p) (hf : t.issue.feed = s.issue.feed) :
    FeedCalm p s t :=
  ⟨fun _ => hl, fun h => by unfold FeedElsewhere; rwa [hf], fun h => by rw [hf, h]⟩

theorem at_withLine (s : State) (l : StationLine) (p : Position) : (s.withLine l).line.at p = l.at p := rfl

/-- Commands placed or withdrawn are no part of a station. -/
theorem at_headRequests (l : StationLine) (q : List StationCommand) (p : Position) :
    ({ l with headRequests := q } : StationLine).at p = l.at p := by cases p <;> rfl

theorem feedCalm_voidFeed (p : Position) (s : State) : FeedCalm p s s.voidFeed := by
  cases hf : s.issue.feed with
  | none =>
    have hsame : s.voidFeed = s := by rw [State.voidFeed, hf]
    rw [hsame]
    exact .of_eq rfl rfl
  | some f =>
    by_cases hr : f.phase = .requested
    · have hclear : s.voidFeed = s.clearFeed := by
        rw [State.voidFeed, hf]
        dsimp only
        rw [hr]
      have hnone : s.clearFeed.issue.feed = none := State.clearFeed_feed s
      rw [hclear]
      refine ⟨fun h => ?_, fun _ g hg => (by rw [hnone] at hg; cases hg), fun _ => hnone⟩
      exact (clearFeed_spec hf).1.1 p fun he => h f hf he.symm hr
    · have hvoid : s.voidFeed = s.withIssue { s.issue with feed := some f.voided } := by
        rw [State.voidFeed, hf]
        cases hp : f.phase with
        | requested => exact absurd hp hr
        | _ => simp [hp]
      rw [hvoid]
      refine ⟨fun _ => rfl, fun h g hg hp => ?_, fun h => by rw [hf] at h; cases h⟩
      obtain rfl : f.voided = g := Option.some.inj hg
      have hkept : f.voided.phase = f.phase := by
        unfold FeedPending.voided
        split <;> rfl
      rw [hkept]
      exact hr

theorem voidAtHead_at (s : State) (i : EntryIx) (p : Position) : (s.voidAtHead i).line.at p = s.line.at p := by
  unfold State.voidAtHead State.voidGripper State.voidBay
  dsimp only
  repeat' split
  all_goals cases p <;> rfl

theorem feedCalm_voidBrick (p : Position) (r : IssueRecord) (s : State) : FeedCalm p s (s.voidBrick r) := by
  unfold State.voidBrick
  split
  · exact .of_eq rfl rfl
  · exact feedCalm_voidFeed p s
  · exact .of_eq rfl rfl
  all_goals exact .of_eq (voidAtHead_at s r.entry p) (by simp)

theorem feedCalm_displace (p : Position) (r : IssueRecord) (s : State) : FeedCalm p s (s.displace r) :=
  (FeedCalm.of_eq (by simp) (by simp [State.removeRecord])).trans (feedCalm_voidBrick p r _)

theorem feedCalm_foldl (p : Position) (l : List IssueRecord) (s : State) : FeedCalm p s (l.foldl State.displace s) := by
  induction l generalizing s with
  | nil => exact .of_eq rfl rfl
  | cons r l ih => exact (feedCalm_displace p r s).trans (ih _)

theorem feedCalm_attemptFailure (p : Position) (i : EntryIx) (reason : Reason) (s : State) :
    FeedCalm p s (s.attemptFailure i reason) := by
  unfold State.attemptFailure
  split
  · exact .of_eq rfl rfl
  · dsimp only
    split
    · unfold State.retry
      dsimp only
      have hback : ∀ n, FeedCalm p s (((s.setAttempt i n reason).removeRecord i).returnToPosted i) := fun n =>
        .of_eq (by simp) (by simp [State.removeRecord])
      have hshow : ∀ u : State, FeedCalm p u u.showTrain := fun u => .of_eq (by simp) (by simp)
      split
      · exact ((hback _).trans (feedCalm_foldl p (recordsBehind i s.issue.list) _)).trans (hshow _)
      · exact hback _
    · exact .of_eq (by simp [State.failFinally]) (by simp [State.failFinally, State.removeRecord])

theorem feedCalm_operationFailed (p : Position) (c : StationCommand) (s : State) :
    FeedCalm p s (s.operationFailed c) := by
  obtain ⟨-, hissue, -, -, -, hline⟩ := placeFailed_frame s c
  rw [operationFailed_eq]
  refine (FeedCalm.of_eq (by rw [hline]) (by rw [hissue])).trans ?_
  unfold State.failContent
  split
  · exact feedCalm_attemptFailure p _ _ _
  · exact .of_eq rfl rfl

/-- A feeder that is not READY has no feed requested at it left. -/
theorem feedElsewhere_withdraw {s : State} {p : Position} (h : (s.line.at p).state ≠ .ready) :
    FeedElsewhere p (s.withdrawIfNotReady p) := by
  unfold State.withdrawIfNotReady
  split
  · rename_i hf
    intro g hg
    rw [hf] at hg
    cases hg
  · rename_i f hf
    split
    · intro g hg
      rw [(endFeed_spec hf).1] at hg
      cases hg
    · rename_i hno
      intro g hg hp hr
      obtain rfl : f = g := Option.some.inj (hf.symm.trans hg)
      exact hno ⟨hp, hr, h⟩

/-! ### The resend (R99) -/

theorem exec_fails {x : Transaction} {c : Instr} {s : State} (h : FailsTransaction s x c) :
    exec c s = answer s (s.failTransaction x) := by
  obtain ⟨ht, ⟨rfl, hle⟩ | rfl | ⟨bytes, rfl, hle, hj⟩⟩ := h
  · change execReplyDeadline s = _
    rw [execReplyDeadline, ht]
    exact congrArg (answer s) (if_pos hle)
  · change execStationByteGap s = _
    rw [execStationByteGap, ht]
  · change answer s (s.receiveReply bytes) = _
    rw [State.receiveReply, ht]
    dsimp only
    rw [if_neg (by unfold State.elapsed replyDeadlineMs; omega), hj]

theorem failure_resent {x : Transaction} {c : Instr} {s : State} (h : FailsTransaction s x c)
    (hr : (s.line.at x.position).retry = false) :
    ∃ t, exec c s = .next t ∧ t.line.transaction = some { x with sentAt := s.time } ∧
      t.line.lastFrame = commandFrame x.position x.command ∧
      t.line.at x.position = { s.line.at x.position with retry := true } ∧ OtherStationsKept x.position s t ∧
      KeptBut [.line] s t ∧ CausesKeptBut [] s t := by
  have hexec : exec c s = answer s (s.resend x) := by
    rw [exec_fails h, State.failTransaction, if_neg (by simp [hr])]
  have hat : ∀ q, (s.resend x).line.at q = (s.setStation x.position { s.line.at x.position with retry := true }).line.at q :=
    fun q => by cases q <;> rfl
  refine ⟨_, hexec, by simp [State.resend, State.sendFrame], by simp [State.resend, State.sendFrame], ?_, ?_,
    ((touches_setStation s _ _).trans (touches_sendFrame _ _ _)).closed⟩
  · rw [show (finish s (s.resend x)).line = (s.resend x).line by simp, hat, at_setStation, if_pos rfl]
  · obtain ⟨k1, k2, k3⟩ := otherStationsKept_setStation s x.position { s.line.at x.position with retry := true }
    exact otherStationsKept_finish s ⟨fun q hq => (hat q).trans (k1 q hq), k2, k3⟩

/-! ### The second failure (R100) -/

/-- The station has become UNRESPONSIVE, and nothing has been told of it but its feed. -/
def unresponsive (s : State) (p : Position) : State :=
  (s.freeLine.endSentFeed p).changeStation p (unresponsiveStation ((s.freeLine.endSentFeed p).line.at p))

/-- The operation that a second failure fails. -/
def failedAt (s : State) (x : Transaction) : Option StationCommand :=
  if x.command = .query then headOperation (s.line.at x.position).operation else headOperation (.command x.command)

theorem secondFailure_eq (s : State) (x : Transaction) :
    s.secondFailure x =
      if (s.line.at x.position).state = .unresponsive then
        ((failedAt s x).map ((unresponsive s x.position).schedulePoll x.position false).operationFailed).getD
          ((unresponsive s x.position).schedulePoll x.position false)
      else if isFeederPosition x.position then
        ((unresponsive s x.position).schedulePoll x.position false).raise .stationFault
      else (((unresponsive s x.position).schedulePoll x.position false).raise .stationFault).headStationFault
        (failedAt s x) := by
  unfold State.secondFailure
  extract_lets x0 s0 s1 failed
  have h1 : s1 = (unresponsive s x.position).schedulePoll x.position false := rfl
  have hf : failed = failedAt s x := rfl
  rw [h1, hf]
  cases failedAt s x <;> rfl

theorem endSentFeed_station (s : State) (p : Position) :
    SameButDeferred (s.line.at p) ((s.endSentFeed p).line.at p) ∧ OtherStationsKept p s (s.endSentFeed p) := by
  unfold State.endSentFeed
  split
  · exact ⟨⟨_, rfl⟩, otherStationsKept_of_line rfl⟩
  · rename_i f hf
    split
    · rename_i hc
      obtain ⟨rfl, -⟩ := hc
      exact ⟨(endFeed_station hf).1, (endFeed_spec hf).2.2.2⟩
    · exact ⟨⟨_, rfl⟩, otherStationsKept_of_line rfl⟩

theorem touches_endSentFeed (s : State) (p : Position) : Touches [.line, .feed, .list] [] s (s.endSentFeed p) := by
  unfold State.endSentFeed
  split
  · exact .refl _ _ s
  · split
    · exact (touches_endFeed s).mono
    · exact .refl _ _ s

theorem touches_unresponsive (s : State) (p : Position) : Touches [.line, .feed, .list] [] s (unresponsive s p) :=
  ((touches_freeLine s).mono.trans (touches_endSentFeed _ p)).trans (touches_changeStation _ p _)

/-- The station record of one that has become UNRESPONSIVE. -/
theorem unresponsive_station (s : State) (p : Position) :
    ∃ d, (unresponsive s p).line.at p = { unresponsiveStation (s.line.at p) with deferred := d } := by
  obtain ⟨⟨d1, h1⟩, -⟩ := endSentFeed_station s.freeLine p
  obtain ⟨⟨d2, h2⟩, -⟩ := changeStation_station (s.freeLine.endSentFeed p) p
    (unresponsiveStation ((s.freeLine.endSentFeed p).line.at p))
  rw [(freeLine_frame s).2.1] at h1
  refine ⟨d2, h2.trans ?_⟩
  rw [h1]
  rfl

theorem transaction_unresponsive (s : State) (p : Position) : (unresponsive s p).line.transaction = none := by
  have hend : (s.freeLine.endSentFeed p).line.transaction = none := by
    unfold State.endSentFeed
    split
    · rfl
    · split
      · simp [State.freeLine]
      · rfl
  unfold unresponsive State.changeStation
  simpa using hend

theorem replied_unresponsive (s : State) (p : Position) : Replied p s (unresponsive s p) := by
  have htouch := touches_unresponsive s p
  obtain ⟨d, hd⟩ := unresponsive_station s p
  refine ⟨congrArg _ (htouch.frame .seq (by decide)), htouch.frame .time (by decide), transaction_unresponsive s p, ?_, ?_⟩
  · rw [hd]
    rfl
  · rw [hd]
    rfl

theorem feedElsewhere_unresponsive (s : State) (p : Position) : FeedElsewhere p (unresponsive s p) := by
  refine feedElsewhere_withdraw ?_
  rw [at_setStation, if_pos rfl]
  simp [unresponsiveStation]

/-- A FEED that is SENT ends with its transaction. -/
theorem unresponsive_feed {s : State} {p : Position} {f : FeedPending} (hf : s.issue.feed = some f) (hp : f.phase = .sent)
    (hpos : feederPosition f.feeder = p) : (unresponsive s p).issue.feed = none := by
  subst hpos
  have hend : s.freeLine.endSentFeed (feederPosition f.feeder) = s.freeLine.endFeed := endSentFeed_feed hf hp
  have hnone : s.freeLine.endFeed.issue.feed = none := (endFeed_spec (s := s.freeLine) hf).1
  rw [unresponsive, hend, State.changeStation, withdrawIfNotReady_stands]
  · exact hnone
  · intro g hg
    rw [show (s.freeLine.endFeed.setStation _ _).issue = s.freeLine.endFeed.issue from rfl, hnone] at hg
    cases hg

/-- A head station has no feed to end. -/
theorem unresponsive_head {s : State} {p : Position} (hp : isFeederPosition p = false) :
    unresponsive s p = s.freeLine.setStation p (unresponsiveStation (s.line.at p)) := by
  rw [unresponsive, endSentFeed_head hp, changeStation_head _ hp, (freeLine_frame s).2.1]

/-- What a second failure leaves at the station, from the state that is closed. -/
theorem secondFailure_station {s w : State} {p : Position}
    (hat : w.line.at p = ((unresponsive s p).schedulePoll p false).line.at p)
    (hl : w.line.transaction = ((unresponsive s p).schedulePoll p false).line.transaction) :
    (finish s w).line.transaction = none ∧ ((finish s w).line.at p).state = .unresponsive ∧
      ((finish s w).line.at p).operation = .none ∧ ((finish s w).line.at p).lastError = errorNoReply ∧
      ((finish s w).line.at p).retry = false ∧ ((finish s w).line.at p).hold = none ∧ PollScheduled p s (finish s w) := by
  obtain ⟨d, hd⟩ := unresponsive_station s p
  have hreplied := replied_unresponsive s p
  have hline : (finish s w).line.at p = pollAfter ((unresponsive s p).line.at p) s.seq.profile.workingPoll s.time false := by
    have heq := hreplied.station false
    have h1 : ∀ v, (finish s v).line.at p = v.line.at p := fun v => by simp
    rw [h1] at heq ⊢
    exact hat.trans heq
  obtain ⟨n, hn⟩ := pollAfter_fields ((unresponsive s p).line.at p) s.seq.profile.workingPoll s.time false
  refine ⟨?_, ?_, ?_, ?_, ?_, ?_, pollScheduled_of hline hreplied.pending hreplied.next⟩
  · have := hreplied.transaction
    simpa [State.schedulePoll, hl] using this
  all_goals rw [hline, hn, hd]
  all_goals rfl

section
variable {x : Transaction} {s : State}

/-- The state whose consequences a second failure draws. -/
def secondFailed (s : State) (p : Position) : State := (unresponsive s p).schedulePoll p false

theorem touches_secondFailed (s : State) (p : Position) : Touches [.line, .feed, .list] [] s (secondFailed s p) :=
  (touches_unresponsive s p).trans (touches_schedulePoll _ p false).mono

/-- What holds of the state from which the consequences of a second failure are closed, whatever the station is. -/
structure FailedOnward (s : State) (p : Position) (w : State) : Prop where
  station : w.line.at p = (secondFailed s p).line.at p
  transaction : w.line.transaction = (secondFailed s p).line.transaction
  feed : (secondFailed s p).issue.feed = none → w.issue.feed = none

/-- A station that was UNRESPONSIVE already: only the failed operation is handed on. -/
theorem secondFailure_again (hu : (s.line.at x.position).state = .unresponsive) :
    FailedOnward s x.position (s.secondFailure x) ∧
      Touches failBlocks [.entryFailed, .courseClosed] (secondFailed s x.position) (s.secondFailure x) := by
  rw [secondFailure_eq, if_pos hu]
  cases failedAt s x with
  | none => exact ⟨⟨rfl, rfl, id⟩, .refl _ _ _⟩
  | some c =>
    have hcalm : FeedCalm x.position (secondFailed s x.position) ((secondFailed s x.position).operationFailed c) :=
      feedCalm_operationFailed _ c _
    have helse : FeedElsewhere x.position (secondFailed s x.position) :=
      feedElsewhere_unresponsive s x.position
    exact ⟨⟨hcalm.station helse, by simp [secondFailed], hcalm.none⟩, touches_operationFailed _ c⟩

theorem secondFailure_feeder (hu : (s.line.at x.position).state ≠ .unresponsive) (hp : isFeederPosition x.position = true) :
    s.secondFailure x = (secondFailed s x.position).raise .stationFault := by
  rw [secondFailure_eq, if_neg hu, if_pos hp]
  rfl

theorem secondFailure_head (hu : (s.line.at x.position).state ≠ .unresponsive) (hp : isFeederPosition x.position = false) :
    s.secondFailure x = ((secondFailed s x.position).raise .stationFault).headStationFault (failedAt s x) := by
  rw [secondFailure_eq, if_neg hu, if_neg (by simp [hp])]
  rfl

theorem feedNone_requestHalt {u : State} (h : u.issue.feed = none) : u.requestHalt.issue.feed = none := by
  have henter : u.enterHalt.issue.feed = none := by
    rw [enterHalt_feed, h]
    rfl
  unfold State.requestHalt
  split
  · exact h
  · exact h
  all_goals exact henter

theorem feedNone_headStationFault {u : State} (f : Option StationCommand) (h : u.issue.feed = none) :
    (u.headStationFault f).issue.feed = none := by
  cases f with
  | none => exact feedNone_requestHalt h
  | some c => exact feedNone_requestHalt ((feedCalm_operationFailed .spreader c u).none h)

theorem failedOnward_of_head {p : Position} (s : State) (f : Option StationCommand) (hp : isFeederPosition p = false) :
    FailedOnward s p (((secondFailed s p).raise .stationFault).headStationFault f) := by
  have hraised : FailedOnward s p ((secondFailed s p).raise .stationFault) := ⟨rfl, rfl, id⟩
  generalize (secondFailed s p).raise .stationFault = u at *
  obtain ⟨hat, hl, hf⟩ := hraised
  exact ⟨(headStationFault_at u f hp).trans hat, by simpa using hl, fun h => feedNone_headStationFault f (hf h)⟩

/-- The record of the second failure, for every station. -/
theorem failedOnward_secondFailure (s : State) (x : Transaction) : FailedOnward s x.position (s.secondFailure x) := by
  by_cases hu : (s.line.at x.position).state = .unresponsive
  · exact (secondFailure_again hu).1
  · cases hp : isFeederPosition x.position with
    | true =>
      rw [secondFailure_feeder hu hp]
      exact ⟨rfl, rfl, id⟩
    | false =>
      rw [secondFailure_head hu hp]
      exact failedOnward_of_head _ (failedAt s x) hp

theorem touches_secondFailure (s : State) (x : Transaction) :
    Touches haltBlocks [.stationFault, .headStation, .halted, .entryFailed, .courseClosed] s (s.secondFailure x) := by
  have hbase := touches_secondFailed s x.position
  by_cases hu : (s.line.at x.position).state = .unresponsive
  · exact (hbase.mono (bs' := haltBlocks)).trans (secondFailure_again hu).2.mono
  · cases hp : isFeederPosition x.position with
    | true =>
      rw [secondFailure_feeder hu hp]
      exact (hbase.mono (bs' := [.line, .feed, .list]) (cs' := [.stationFault])).mono.trans (touches_raise _ _).mono
    | false =>
      rw [secondFailure_head hu hp]
      exact ((hbase.mono (bs' := haltBlocks)).trans (touches_raise _ _).mono).trans (touches_headStationFault _ _).mono

theorem stationFault_secondFailure (hu : (s.line.at x.position).state ≠ .unresponsive) :
    hasCause (s.secondFailure x) .stationFault = true := by
  have hraised : hasCause ((secondFailed s x.position).raise .stationFault) .stationFault = true := by simp
  cases hp : isFeederPosition x.position with
  | true => rwa [secondFailure_feeder hu hp]
  | false =>
    rw [secondFailure_head hu hp]
    exact (touches_headStationFault _ _).causes.stand _ hraised

/-- A head station that becomes UNRESPONSIVE starts its fault from a state in which the host's business stands. -/
theorem sameStart_secondFailed {p : Position} (s : State) (hp : isFeederPosition p = false) :
    SameStart s ((secondFailed s p).raise .stationFault) ∧ ((secondFailed s p).raise .stationFault).head = s.head ∧
      ((secondFailed s p).raise .stationFault).control = s.control := by
  rw [secondFailed, unresponsive_head hp]
  refine ⟨.of_frame rfl rfl rfl rfl fun c hc => ?_, rfl, rfl⟩
  have hother : c ≠ .stationFault := by
    obtain rfl | rfl := hc <;> decide
  rw [hasCause_raise, decide_eq_false hother, Bool.or_false]
  exact hasCause_congr rfl _

/-- Of a FEED and a QUERY a head station serves no attempt. -/
theorem servedAttemptFails_none {s t : State} {c : StationCommand} (h : headOperation (.command c) = none) :
    ServedAttemptFails s c t := by
  cases c with
  | feed n => exact ⟨trivial, fun r _ _ _ _ hs => by cases hs⟩
  | _ => cases h

/-- A head station that becomes UNRESPONSIVE, as the command is closed. -/
theorem headFault_secondFailure (hu : (s.line.at x.position).state ≠ .unresponsive) (hp : isFeederPosition x.position = false)
    {c : StationCommand} (hc : failedAt s x = headOperation (.command c)) :
    ServedAttemptFails s c (finish s (s.secondFailure x)) := by
  obtain ⟨hstart, hhead, -⟩ := sameStart_secondFailed s hp
  rw [secondFailure_head hu hp, hc]
  cases hh : headOperation (.command c) with
  | none => exact servedAttemptFails_none hh
  | some d =>
    obtain rfl : d = c := by cases c <;> cases hh <;> rfl
    exact servedAttemptFails_from hhead hstart (servedAttemptFails_fault s _ d (.refl _))

theorem failure_again_ends {c : Instr} (h : FailsTransaction s x c) (hr : (s.line.at x.position).retry = true) :
    exec c s = answer s (s.secondFailure x) := by
  rw [exec_fails h, State.failTransaction, if_pos hr]

end

/-- Settles O33: the resend, and the second failure by the station. -/
theorem failedTransactionIsResentOnce : Obligations.FailedTransactionIsResentOnce := by
  refine ⟨fun x c s h hr => failure_resent h hr, fun x c s h hr => ⟨_, failure_again_ends h hr, ?_⟩⟩
  have honward := failedOnward_secondFailure s x
  obtain ⟨h1, h2, h3, h4, h5, h6, h7⟩ := secondFailure_station honward.station honward.transaction
  obtain ⟨hkept, hcauses⟩ := (touches_secondFailure s x).closed
  refine ⟨h1, h2, h3, h4, h5, h6, h7, hkept, hcauses, fun f hf hs hpos => ?_, fun hu => ?_, fun hu hp => ?_,
    fun hu hp => ?_⟩
  · rw [(finish_frame s (s.secondFailure x)).2.2.2.2.2.1]
    exact honward.feed (unresponsive_feed hf hs hpos)
  · exact hasCause_finish_raised s (stationFault_secondFailure hu)
  · obtain ⟨-, -, hcontrol⟩ := sameStart_secondFailed s hp
    obtain ⟨hcause, hhalt⟩ := fault_closed s ((secondFailed s x.position).raise .stationFault) (failedAt s x) (.refl _)
    rw [← secondFailure_head hu hp] at hcause hhalt
    exact ⟨hcause, haltRequested_from hcontrol hhalt, fun hq => headFault_secondFailure hu hp (if_neg hq),
      fun o hq ho => headFault_secondFailure hu hp ((if_pos hq).trans (congrArg headOperation ho))⟩
  · rw [secondFailure_feeder hu hp]
    exact (((touches_secondFailed s x.position).mono (cs' := [.stationFault])).trans (touches_raise _ _).mono).closed

end Sys2Proof
end

section
/-! SUPPORT. A QUERY answered (5.5): how the operation outstanding is settled, and what its end does at the head. -/

namespace Sys2Proof

open Sys2Proof.Machine

/-! ### The settlement (R91, R92) -/

/-- How a poll settles the operation outstanding at a position. -/
def settlement (s : State) (p : Position) (d : QueryData) : Settlement :=
  settleOperation (s.line.at p).operation (s.line.at p).deferred d

/-- The station record that a poll leaves before its report is handed on. -/
def answeredStation (s : State) (p : Position) (d : QueryData) : Station :=
  settledStation p (s.line.at p) d (settlement s p d)

/-- The command that is outstanding, when it is one. -/
def outstandingCommand : Outstanding → Option StationCommand
  | .command c => some c
  | .foreign => none
  | .none => none

/-- No operation reported is taken for a command held back. -/
def NoAdoption (s : State) (p : Position) (d : QueryData) : Prop :=
  (s.line.at p).operation = .none → d.reported ≠ .idle → adoptedRequest (s.line.at p).deferred d.lastOperation = none

theorem noAdoption_of_deferred {s : State} {p : Position} {d : QueryData}
    (h : (s.line.at p).deferred = none ∨ ∃ n, (s.line.at p).deferred = some (.feed n)) : NoAdoption s p d := fun _ _ => by
  obtain h | ⟨n, h⟩ := h
  all_goals rw [h]
  all_goals rfl

theorem adoptedRequest_head {c : StationCommand} (hc : ∀ n, c ≠ .feed n) (b : Byte) :
    adoptedRequest (some c) b = if commandCode c = b then some c else none := by
  cases c with
  | feed n => exact absurd rfl (hc n)
  | _ => rfl

section
variable {s : State} {p : Position} {d : QueryData}

theorem settlement_working (hn : NoAdoption s p d) (hd : d.reported = .working) :
    settlement s p d = ⟨if (s.line.at p).operation = .none then .foreign else (s.line.at p).operation, false, none, none⟩ := by
  unfold settlement settleOperation
  cases ho : (s.line.at p).operation with
  | none => simp [hd, hn ho (by simp [hd])]
  | _ => simp [hd]

theorem settlement_error {e : Half} (hn : NoAdoption s p d) (h : FindsError s p d e) :
    settlement s p d = ⟨.none, false, none, some (outstandingCommand (s.line.at p).operation, e)⟩ ∨
      (settlement s p d = ⟨.none, false, none, none⟩ ∧ (s.line.at p).operation = .none ∧ d.reported = .idle ∧
        d.latched ≠ 0 ∧ e = d.latched) := by
  unfold settlement settleOperation
  rcases h with ⟨⟨ho, hd⟩ | ⟨c, hc, hd, hcode⟩, rfl⟩ | ⟨hd, rfl⟩ | ⟨ho, hd, hl, rfl⟩
  · cases h : (s.line.at p).operation with
    | none => exact absurd h ho
    | _ => exact .inl (by simp [hd, outstandingCommand])
  · exact .inl (by simp [hc, hd, Ne.symm hcode, outstandingCommand])
  · cases ho : (s.line.at p).operation with
    | none => exact .inl (by simp [hd, hn ho (by simp [hd]), outstandingCommand, errorWordOf])
    | _ => exact .inl (by simp [hd, outstandingCommand, errorWordOf])
  · exact .inr ⟨by simp [ho, hd], ho, hd, hl, rfl⟩

theorem settleDone_well {c : StationCommand} (b : Bool) (h : c = .probe → d.result.toNat ≤ 600) :
    settleDone c b d = ⟨.none, b, some c, none⟩ := by
  unfold settleDone
  exact if_neg fun hc => absurd hc.2 (Nat.not_lt.2 (h hc.1))

theorem settlement_well (hn : NoAdoption s p d) (h : EndsWell s p d) :
    settlement s p d = ⟨.none, false, outstandingCommand (s.line.at p).operation, none⟩ ∧
      ¬(d.reported = .idle ∧ d.latched ≠ 0) := by
  unfold settlement settleOperation
  rcases h with ⟨ho, hd | ⟨hd, hl⟩⟩ | ⟨ho, hd⟩ | ⟨c, hc, hd, hcode, hp⟩
  · simp [ho, hd, hn ho (by simp [hd]), outstandingCommand]
  · simp [ho, hd, hl, outstandingCommand]
  · simp [ho, hd, outstandingCommand]
  · simp [hc, hd, hcode, outstandingCommand, settleDone_well false hp]

/-- What completes is reported DONE, and then nothing has failed. -/
theorem settlement_completed {c : StationCommand} (h : (settlement s p d).completed = some c) :
    (settlement s p d).failed = none ∧ (settlement s p d).operation = .none ∧ d.reported = .done := by
  have hdone : ∀ e b, (settleDone e b d).completed = some c →
      (settleDone e b d).failed = none ∧ (settleDone e b d).operation = .none := fun e b he => by
    unfold settleDone at *
    split
    · rename_i hc
      rw [if_pos hc] at he
      cases he
    · exact ⟨rfl, rfl⟩
  unfold settlement settleOperation at *
  cases ho : (s.line.at p).operation with
  | none =>
    cases hd : d.reported <;> cases ha : adoptedRequest (s.line.at p).deferred d.lastOperation <;>
      simp only [ho, hd, ha, reduceCtorEq] at h ⊢
    exact ⟨(hdone _ _ h).1, (hdone _ _ h).2, trivial⟩
  | foreign => cases hd : d.reported <;> simp only [ho, hd, reduceCtorEq] at h
  | command e =>
    cases hd : d.reported <;> simp only [ho, hd, reduceCtorEq] at h ⊢
    split at h
    · rename_i hcode
      rw [if_pos hcode]
      exact ⟨(hdone _ _ h).1, (hdone _ _ h).2, trivial⟩
    · cases h

end

/-! ### The settled station (R91, R94) -/

theorem settledStation_polls (p : Position) (x : Station) (d : QueryData) (r : Settlement) :
    (settledStation p x d r).retry = false ∧ (settledStation p x d r).pollPending = x.pollPending ∧
      (settledStation p x d r).nextPoll = x.nextPoll := by
  unfold settledStation
  dsimp only
  repeat' split
  all_goals exact ⟨rfl, rfl, rfl⟩

theorem settledStation_failed {p : Position} {x : Station} {d : QueryData} {r : Settlement} {c : Option StationCommand}
    {e : Half} (h : r.failed = some (c, e)) :
    (settledStation p x d r).state = .faulted ∧ (settledStation p x d r).lastError = e ∧
      (settledStation p x d r).hold = none := by
  unfold settledStation
  rw [h]
  exact ⟨rfl, rfl, rfl⟩

theorem settledStation_busy {p : Position} {x : Station} {d : QueryData} {r : Settlement} (h : r.failed = none)
    (ho : r.operation ≠ .none) :
    (settledStation p x d r).state = .busy ∧ (settledStation p x d r).hold = none := by
  unfold settledStation
  rw [h]
  dsimp only
  rw [if_pos ho]
  exact ⟨rfl, rfl⟩

theorem settledStation_latched {p : Position} {x : Station} {d : QueryData} {r : Settlement} (h : r.failed = none)
    (ho : r.operation = .none) (hd : d.reported = .idle ∧ d.latched ≠ 0) :
    (settledStation p x d r).state = .faulted ∧ (settledStation p x d r).lastError = d.latched ∧
      (settledStation p x d r).hold = none := by
  unfold settledStation
  rw [h]
  dsimp only
  rw [if_neg (by simp [ho]), if_pos hd]
  exact ⟨rfl, rfl, rfl⟩

theorem settledStation_well {p : Position} {x : Station} {d : QueryData} {r : Settlement} (h : r.failed = none)
    (ho : r.operation = .none) (hd : ¬(d.reported = .idle ∧ d.latched ≠ 0)) :
    (settledStation p x d r).lastError = x.lastError ∧
      (0 < holdSeconds p d → (settledStation p x d r).state = .held ∧
        (settledStation p x d r).hold = some (holdSeconds p d * 1000)) ∧
      (holdSeconds p d = 0 → (settledStation p x d r).state = .ready ∧ (settledStation p x d r).hold = none) := by
  unfold settledStation
  rw [h]
  dsimp only
  rw [if_neg (by simp [ho]), if_neg hd]
  by_cases hh : 0 < holdSeconds p d
  · rw [if_pos hh]
    exact ⟨rfl, fun _ => ⟨rfl, rfl⟩, fun h0 => absurd h0 (Nat.ne_of_gt hh)⟩
  · rw [if_neg hh]
    exact ⟨rfl, fun h0 => absurd h0 hh, fun _ => ⟨rfl, rfl⟩⟩

theorem holdSeconds_head {p : Position} (hp : isFeederPosition p = false) (d : QueryData) : holdSeconds p d = 0 := by
  simp [holdSeconds, hp]

theorem holdSeconds_feeder {p : Position} (hp : isFeederPosition p = true) (d : QueryData) :
    holdSeconds p d = min 600 d.hold.toNat := by simp [holdSeconds, hp]

section
variable {s : State} {p : Position} {d : QueryData}

theorem answeredStation_commands :
    (answeredStation s p d).operation = (settlement s p d).operation ∧
      (answeredStation s p d).deferred = if (settlement s p d).dropDeferred then none else (s.line.at p).deferred :=
  settledStation_commands p _ d _

theorem answeredStation_working (hn : NoAdoption s p d) (hd : d.reported = .working) :
    (answeredStation s p d).state = .busy ∧ (answeredStation s p d).hold = none ∧
      (answeredStation s p d).deferred = (s.line.at p).deferred ∧
      ((s.line.at p).operation ≠ .none → (answeredStation s p d).operation = (s.line.at p).operation) ∧
      ((s.line.at p).operation = .none → (answeredStation s p d).operation = .foreign) := by
  have hset := settlement_working hn hd
  obtain ⟨hop, hdef⟩ := answeredStation_commands (s := s) (p := p) (d := d)
  rw [hset] at hop hdef
  have hne : (if (s.line.at p).operation = .none then Outstanding.foreign else (s.line.at p).operation) ≠ .none := by
    split
    · simp
    · assumption
  obtain ⟨h1, h2⟩ := settledStation_busy (p := p) (x := s.line.at p) (d := d) (r := settlement s p d) (by rw [hset])
    (by rw [hset]; exact hne)
  exact ⟨h1, h2, hdef, fun ho => hop.trans (if_neg ho), fun ho => hop.trans (if_pos ho)⟩

theorem answeredStation_error {e : Half} (hn : NoAdoption s p d) (h : FindsError s p d e) :
    (answeredStation s p d).state = .faulted ∧ (answeredStation s p d).lastError = e ∧
      (answeredStation s p d).hold = none ∧ (answeredStation s p d).operation = .none ∧
      (answeredStation s p d).deferred = (s.line.at p).deferred := by
  obtain ⟨hop, hdef⟩ := answeredStation_commands (s := s) (p := p) (d := d)
  rcases settlement_error hn h with hset | ⟨hset, -, hd, hl, rfl⟩
  all_goals rw [hset] at hop hdef
  · obtain ⟨h1, h2, h3⟩ := settledStation_failed (p := p) (x := s.line.at p) (d := d) (r := settlement s p d) (by rw [hset])
    exact ⟨h1, h2, h3, hop, hdef⟩
  · obtain ⟨h1, h2, h3⟩ := settledStation_latched (p := p) (x := s.line.at p) (d := d) (r := settlement s p d) (by rw [hset])
      (by rw [hset]) ⟨hd, hl⟩
    exact ⟨h1, h2, h3, hop, hdef⟩

theorem answeredStation_well (hn : NoAdoption s p d) (h : EndsWell s p d) :
    (answeredStation s p d).operation = .none ∧ (answeredStation s p d).lastError = (s.line.at p).lastError ∧
      (answeredStation s p d).deferred = (s.line.at p).deferred ∧
      (0 < holdSeconds p d → (answeredStation s p d).state = .held ∧
        (answeredStation s p d).hold = some (holdSeconds p d * 1000)) ∧
      (holdSeconds p d = 0 → (answeredStation s p d).state = .ready ∧ (answeredStation s p d).hold = none) := by
  obtain ⟨hset, hidle⟩ := settlement_well hn h
  obtain ⟨hop, hdef⟩ := answeredStation_commands (s := s) (p := p) (d := d)
  rw [hset] at hop hdef
  obtain ⟨h1, h2, h3⟩ := settledStation_well (p := p) (x := s.line.at p) (d := d) (r := settlement s p d) (by rw [hset])
    (by rw [hset]) hidle
  exact ⟨hop, h1, hdef, h2, h3⟩

end

/-! ### What a completed head operation touches -/

theorem touches_stampTransit (s : State) (root : Option Word) : Touches [.head] [] s (s.stampTransit root) := by
  unfold State.stampTransit
  split
  · exact .refl _ _ s
  · exact touches_withHead s _

theorem touches_recoverIfLost (s : State) : Touches failBlocks [.entryFailed, .courseClosed] s s.recoverIfLost := by
  unfold State.recoverIfLost
  split
  · exact touches_recoverLoss s
  · exact .refl _ _ s

theorem touches_showHead (s : State) : Touches [] [] s s.showHead :=
  touches_of_frame (by simp [keptBut_iff]) (by simp) (by simp)

/-- An entry's brick has passed to the gripper, and nothing has met its attempt yet (R151). -/
def takenOver (s : State) (i : EntryIx) : State :=
  ((started (s.moveToGripper (.entry i)) i .head s.activeZc).stampTransit s.head.bay.rootTime).showHead

theorem takeDone_entry {s : State} {i : EntryIx} (h : s.head.gripper.content = .entry i) :
    s.takeDone = (takenOver s i).recoverIfLost := by
  unfold State.takeDone
  rw [h]
  rfl

theorem takeDone_void {s : State} (h : ∀ i, s.head.gripper.content ≠ .entry i) :
    s.takeDone = ((s.moveToGripper s.head.gripper.content).stampTransit s.head.bay.rootTime).showHead := by
  unfold State.takeDone
  cases hc : s.head.gripper.content with
  | entry i => exact absurd hc (h i)
  | _ => rfl

theorem touches_takenOver (s : State) (i : EntryIx) :
    Touches [.bytes, .list, .trim, .head] [] s (takenOver s i) :=
  (((touches_withHead s _).mono.trans (touches_started _ i .head s.activeZc).mono).trans
    (touches_stampTransit _ _).mono).trans (touches_showHead _).mono

theorem touches_takeDone (s : State) : Touches failBlocks [.entryFailed, .courseClosed] s s.takeDone := by
  by_cases h : ∃ i, s.head.gripper.content = .entry i
  · obtain ⟨i, hi⟩ := h
    rw [takeDone_entry hi]
    exact (touches_takenOver s i).mono.trans (touches_recoverIfLost _)
  · rw [takeDone_void fun i hi => h ⟨i, hi⟩]
    exact ((touches_withHead s _).mono.trans (touches_stampTransit _ _).mono).trans (touches_showHead _).mono

theorem touches_spreadDone (s : State) : Touches [.head] [] s s.spreadDone := by
  unfold State.spreadDone
  dsimp only
  split <;> exact touches_putHead s _

theorem touches_countEject (s : State) : Touches [.head] [.binFull] s s.countEject := by
  unfold State.countEject
  dsimp only
  split
  · exact (touches_withHead s _).mono.trans (touches_raise _ .binFull).mono
  · exact (touches_withHead s _).mono

theorem touches_ejectDone (s : State) (place : HeadPlace) : Touches [.head] [.binFull] s (s.ejectDone place) := by
  unfold State.ejectDone
  dsimp only
  split <;> exact (touches_countEject s).trans (touches_putHead _ _).mono

theorem touches_laidFields (s : State) (i : EntryIx) (d : Pose) (n : Nat) :
    Touches [.bytes] [] s (((s.setDeviation i d).setSamples i n).clearProbeFields i) :=
  ((((touches_setWord s _ _).trans (touches_setWord _ _ _)).trans (touches_setWord _ _ _)).trans (touches_setWord _ _ _)).trans
    (touches_setWord _ _ _)

theorem touches_probedFields (s : State) (i : EntryIx) (top target : Int) (n : Nat) :
    Touches [.bytes] [] s ((((s.setProbe i top target).setSamples i n).clearDeviation i).setApplied i 0) :=
  (((((touches_setWord s _ _).trans (touches_setWord _ _ _)).trans (touches_setWord _ _ _)).trans
    (touches_setWord _ _ _)).trans (touches_setWord _ _ _)).trans (touches_setWord _ _ _)

/-- A terminal entry leaves the list and the gripper. -/
theorem touches_ended (s : State) (i : EntryIx) (e : EntryState) :
    Touches [.bytes, .seq, .list, .trim, .head] [.courseClosed] s
      ((((s.finishEntry i e .done).removeRecord i).countTerminal i e).clearGripper) :=
  (((touches_finishEntry s i e .done).mono.trans (touches_removeRecord _ i).mono).trans
    (touches_countTerminal _ i e).mono).trans (touches_clearGripper _).mono

theorem touches_releaseDone (s : State) :
    Touches [.bytes, .seq, .list, .trim, .head] [.courseClosed] s s.releaseDone := by
  unfold State.releaseDone
  dsimp only
  split
  · exact (touches_laidFields s _ _ _).mono.trans (touches_ended _ _ .laid)
  · exact (touches_putHead s _).mono
  · exact (touches_putHead s _).mono

theorem touches_probeDone (s : State) (n : Nat) :
    Touches [.bytes, .seq, .list, .trim, .head] [.courseClosed] s (s.probeDone n) := by
  unfold State.probeDone
  dsimp only
  split
  · exact (touches_probedFields s _ _ _ _).mono.trans (touches_ended _ _ .probed)
  · exact (touches_clearGripper s).mono

theorem touches_operationDone (s : State) (c : StationCommand) (n : Nat) :
    Touches failBlocks [.entryFailed, .courseClosed, .binFull] s (s.operationDone c n) := by
  cases c with
  | spread => exact (touches_spreadDone s).mono
  | take => exact (touches_takeDone s).mono
  | release => exact (touches_releaseDone s).mono
  | probe => exact (touches_probeDone s n).mono
  | eject place => exact (touches_ejectDone s place).mono
  | query => exact .refl _ _ s
  | feed n => exact .refl _ _ s

/-! ### The stations through a completed head operation -/

theorem line_takenOver (s : State) (i : EntryIx) : (takenOver s i).line = s.line :=
  (touches_takenOver s i).frame .line (by decide)

theorem recoverIfLost_at (s : State) {p : Position} (hp : isFeederPosition p = false) :
    s.recoverIfLost.line.at p = s.line.at p := by
  unfold State.recoverIfLost
  split
  · rcases recoverLoss_cases s with h | h | ⟨i, -, -, h⟩ <;> rw [h]
    · rfl
    · exact headAfter_at (i := i) (headAfter_failAttempt i i _ s) hp
  · rfl

theorem operationDone_at (s : State) (c : StationCommand) (n : Nat) {p : Position} (hp : isFeederPosition p = false) :
    (s.operationDone c n).line.at p = s.line.at p := by
  have hline : ∀ {bs cs} {t : State}, Touches bs cs s t → Block.line ∉ bs → t.line.at p = s.line.at p := fun h hb => by
    rw [h.frame .line hb]
  cases c with
  | spread => exact hline (touches_spreadDone s) (by decide)
  | take =>
    change s.takeDone.line.at p = s.line.at p
    by_cases h : ∃ i, s.head.gripper.content = .entry i
    · obtain ⟨i, hi⟩ := h
      rw [takeDone_entry hi, recoverIfLost_at _ hp, line_takenOver]
    · rw [takeDone_void fun i hi => h ⟨i, hi⟩]
      have htouch : Touches [.head] [] s
          ((s.moveToGripper s.head.gripper.content).stampTransit s.head.bay.rootTime).showHead :=
        ((touches_withHead s _).trans (touches_stampTransit _ _)).trans (touches_showHead _).mono
      exact hline htouch (by decide)
  | release => exact hline (touches_releaseDone s) (by decide)
  | probe => exact hline (touches_probeDone s n) (by decide)
  | eject place => exact hline (touches_ejectDone s place) (by decide)
  | query => rfl
  | feed n => rfl

end Sys2Proof
end

section
/-! SUPPORT. Polls answered (5.5, 5.7): feeders, head stations, deferred head commands, and polls refused. -/

namespace Sys2Proof

open Sys2Proof.Machine

/-! ### A feeder's poll -/

/-- Nothing but a FEED is held back at this position. -/
def DefersFeedOnly (x : Station) : Prop := x.deferred = none ∨ ∃ n, x.deferred = some (.feed n)

theorem dropDeferredFeed_deferred (s : State) (f : Feeder) :
    ((s.dropDeferredFeed f).line.at (feederPosition f)).deferred = none ∨
      ((s.dropDeferredFeed f).line.at (feederPosition f)).deferred = (s.line.at (feederPosition f)).deferred := by
  unfold State.dropDeferredFeed
  dsimp only
  split
  · exact .inl (by rw [at_setStation, if_pos rfl])
  · exact .inr rfl

theorem endFeed_line (s : State) : s.endFeed.line = s.clearFeed.line := by
  unfold State.endFeed
  split
  · rename_i hf
    rw [State.clearFeed, hf]
  · split
    · rfl
    · simp

theorem withdrawIfNotReady_deferred (s : State) (p : Position) :
    ((s.withdrawIfNotReady p).line.at p).deferred = none ∨
      ((s.withdrawIfNotReady p).line.at p).deferred = (s.line.at p).deferred := by
  unfold State.withdrawIfNotReady
  split
  · exact .inr rfl
  · rename_i f hf
    split
    · rename_i hc
      obtain ⟨rfl, -⟩ := hc
      rw [endFeed_line, State.clearFeed, hf]
      exact dropDeferredFeed_deferred (s.withIssue { s.issue with feed := none }) f.feeder
    · exact .inr rfl

theorem SameButDeferred.trans {x y z : Station} (h1 : SameButDeferred x y) (h2 : SameButDeferred y z) :
    SameButDeferred x z := by
  obtain ⟨o, rfl⟩ := h1
  obtain ⟨o', rfl⟩ := h2
  exact ⟨o', rfl⟩

/-- A FEED held back is not placed again, and is held back no more once its feeder is READY (R90). -/
theorem replaceDeferred_feed {s : State} {p : Position} (h : DefersFeedOnly (s.line.at p)) :
    SameButDeferred (s.line.at p) ((s.replaceDeferred p).line.at p) ∧
      ((s.line.at p).state = .ready → ((s.replaceDeferred p).line.at p).deferred = none) ∧
      ((s.line.at p).deferred = none → ((s.replaceDeferred p).line.at p).deferred = none) ∧
      OtherStationsKept p s (s.replaceDeferred p) ∧ Touches [.line] [] s (s.replaceDeferred p) := by
  obtain h | ⟨n, h⟩ := h
  · have hsame : s.replaceDeferred p = s := by
      rw [State.replaceDeferred]
      simp only [h]
    rw [hsame]
    exact ⟨⟨_, rfl⟩, fun _ => h, id, otherStationsKept_of_line rfl, .refl _ _ s⟩
  · by_cases hr : (s.line.at p).state = .ready
    · have hset : s.replaceDeferred p = s.setStation p { s.line.at p with deferred := none } := by
        rw [State.replaceDeferred]
        simp only [h, if_pos hr]
      rw [hset, at_setStation, if_pos rfl]
      exact ⟨⟨_, rfl⟩, fun _ => rfl, fun _ => rfl, otherStationsKept_setStation s p _, touches_setStation s p _⟩
    · have hsame : s.replaceDeferred p = s := by
        rw [State.replaceDeferred]
        simp only [h, if_neg hr]
      rw [hsame]
      exact ⟨⟨_, rfl⟩, fun hc => absurd hc hr, id, otherStationsKept_of_line rfl, .refl _ _ s⟩

theorem answeredStation_freeLine (s : State) (p : Position) (d : QueryData) :
    answeredStation s.freeLine p d = answeredStation s p d := by
  unfold answeredStation settlement
  rw [(freeLine_frame s).2.1]

/-- A feeder's poll handled, but for the next poll due. -/
def feederPolled (s : State) (p : Position) (d : QueryData) : State :=
  (s.freeLine.changeStation p (answeredStation s p d)).replaceDeferred p

section
variable {s : State} {p : Position} {d : QueryData} {bytes : List Byte}

theorem exec_poll_feeder (h : PollAnswered s p bytes d) (hp : isFeederPosition p = true) :
    exec (.queryReply bytes) s = answer s ((feederPolled s p d).schedulePoll p false) := by
  rw [exec_poll_status h]
  refine congrArg (fun u => answer s (State.schedulePoll u p false)) ?_
  rw [feederPolled, ← answeredStation_freeLine]
  refine congrArg (State.replaceDeferred · p) ?_
  unfold State.reportSettled
  exact if_pos hp

theorem defersFeedOnly_changed (hdef : DefersFeedOnly (s.line.at p)) :
    DefersFeedOnly ((s.freeLine.changeStation p (answeredStation s p d)).line.at p) := by
  have hy : DefersFeedOnly (answeredStation s p d) := by
    unfold DefersFeedOnly
    rw [(answeredStation_commands (s := s) (p := p) (d := d)).2]
    split
    · exact .inl rfl
    · exact hdef
  have hdrop := withdrawIfNotReady_deferred (s.freeLine.setStation p (answeredStation s p d)) p
  rw [at_setStation, if_pos rfl] at hdrop
  rcases hdrop with h | h
  · exact .inl h
  · unfold DefersFeedOnly
    rwa [State.changeStation, h]

/-- The record of a feeder polled: what the poll settled, but for the FEED held back. -/
theorem feederPolled_station (hdef : DefersFeedOnly (s.line.at p)) :
    SameButDeferred (answeredStation s p d) ((feederPolled s p d).line.at p) ∧
      ((answeredStation s p d).state = .ready → ((feederPolled s p d).line.at p).deferred = none) ∧
      OtherStationsKept p s (feederPolled s p d) ∧ Touches [.line, .feed, .list] [] s (feederPolled s p d) := by
  obtain ⟨hsame, hothers⟩ := changeStation_station s.freeLine p (answeredStation s p d)
  obtain ⟨hsame', hready, -, hothers', htouch⟩ := replaceDeferred_feed (defersFeedOnly_changed (d := d) hdef)
  refine ⟨hsame.trans hsame', fun hr => hready ?_,
    otherStationsKept_trans (otherStationsKept_trans (otherStationsKept_freeLine s p) hothers) hothers',
    ((touches_freeLine s).mono.trans (touches_changeStation _ p _)).trans htouch.mono⟩
  obtain ⟨o, ho⟩ := hsame
  rw [ho]
  exact hr

/-- A feeder left other than READY has its requested feed withdrawn. -/
theorem feederPolled_withdraws (hdef : DefersFeedOnly (s.line.at p)) (hr : (answeredStation s p d).state ≠ .ready)
    {g : FeedPending} (hg : s.issue.feed = some g) (hp : feederPosition g.feeder = p) (hq : g.phase = .requested) :
    (feederPolled s p d).issue.feed = none ∧ ((feederPolled s p d).line.at p).deferred = none := by
  have hends : s.freeLine.changeStation p (answeredStation s p d) = (s.freeLine.setStation p (answeredStation s p d)).endFeed :=
    withdrawIfNotReady_ends (s := s.freeLine.setStation p (answeredStation s p d)) hg hp hq
      (by rw [at_setStation, if_pos rfl]; exact hr)
  have honly := defersFeedOnly_changed (d := d) hdef
  have hstation := (endFeed_station (s := s.freeLine.setStation p (answeredStation s p d)) hg).2
  rw [hp] at hstation
  obtain ⟨-, -, hnone, -, htouch⟩ := replaceDeferred_feed honly
  refine ⟨(htouch.frame .feed (by decide)).trans ?_, hnone ?_⟩
  · rw [hends]
    exact (endFeed_spec (s := s.freeLine.setStation p (answeredStation s p d)) hg).1
  · rw [hends] at honly ⊢
    exact honly.resolve_right fun ⟨n, hn⟩ => hstation n hn

/-- A feeder left READY keeps its feed. -/
theorem feederPolled_keeps (hdef : DefersFeedOnly (s.line.at p)) (hr : (answeredStation s p d).state = .ready) :
    (feederPolled s p d).issue.feed = s.issue.feed := by
  have hstands : s.freeLine.changeStation p (answeredStation s p d) = s.freeLine.setStation p (answeredStation s p d) :=
    withdrawIfNotReady_stands fun _ _ _ _ => by rw [at_setStation, if_pos rfl]; exact hr
  obtain ⟨-, -, -, -, htouch⟩ := replaceDeferred_feed (defersFeedOnly_changed (d := d) hdef)
  refine (htouch.frame .feed (by decide)).trans ?_
  rw [hstands]
  rfl

theorem replied_of_station {u : State} (ht : Touches haltBlocks [.headStation, .halted, .entryFailed, .courseClosed, .binFull] s u)
    (hseq : u.seq.profile = s.seq.profile) (hl : u.line.transaction = none)
    (hst : SameButDeferred (answeredStation s p d) (u.line.at p)) : Replied p s u := by
  obtain ⟨-, hpend, hnext⟩ := settledStation_polls p (s.line.at p) d (settlement s p d)
  obtain ⟨o, ho⟩ := hst
  refine ⟨hseq, ht.frame .time (by decide), hl, ?_, ?_⟩
  · rw [ho]
    exact hpend
  · rw [ho]
    exact hnext

theorem feeder_polled (h : PollAnswered s p bytes d) (hp : isFeederPosition p = true) (hdef : DefersFeedOnly (s.line.at p)) :
    ∃ t, exec (.queryReply bytes) s = .next t ∧ t.line.transaction = none ∧ OtherStationsKept p s t ∧
      (t.line.at p).retry = false ∧ PollScheduled p s t ∧
      (d.reported = .working →
        (t.line.at p).state = .busy ∧ (t.line.at p).hold = none ∧
          ((s.line.at p).operation ≠ .none → (t.line.at p).operation = (s.line.at p).operation) ∧
          ((s.line.at p).operation = .none → (t.line.at p).operation = .foreign)) ∧
      (∀ e, FindsError s p d e →
        (t.line.at p).state = .faulted ∧ (t.line.at p).operation = .none ∧ (t.line.at p).lastError = e ∧
          (t.line.at p).hold = none) ∧
      (EndsWell s p d → (t.line.at p).operation = .none ∧ (t.line.at p).lastError = (s.line.at p).lastError ∧
        (d.hold ≠ 0 → (t.line.at p).state = .held ∧ (t.line.at p).hold = some (min 600 d.hold.toNat * 1000)) ∧
        (d.hold = 0 → (t.line.at p).state = .ready ∧ (t.line.at p).hold = none ∧ (t.line.at p).deferred = none ∧
          t.issue.feed = s.issue.feed)) ∧
      (∀ g, (t.line.at p).state ≠ .ready → s.issue.feed = some g → feederPosition g.feeder = p →
        g.phase = .requested → t.issue.feed = none ∧ (t.line.at p).deferred = none) ∧
      KeptBut [.line, .feed, .list] s t ∧ CausesKeptBut [] s t := by
  obtain ⟨hsame, hready, hothers, htouch⟩ := feederPolled_station (d := d) hdef
  have hnoad := noAdoption_of_deferred (d := d) hdef
  have hline : (feederPolled s p d).line.transaction = none := by
    simp [feederPolled, State.changeStation, State.freeLine]
  obtain ⟨h1, h2, h3⟩ :=
    (replied_of_station (d := d) htouch.mono (congrArg _ (htouch.frame .seq (by decide))) hline hsame).ended
  obtain ⟨o, ho⟩ := hsame
  obtain ⟨hretry, -, -⟩ := settledStation_polls p (s.line.at p) d (settlement s p d)
  have hfeed : (finish s ((feederPolled s p d).schedulePoll p false)).issue.feed = (feederPolled s p d).issue.feed := by
    simp [State.schedulePoll]
  rw [ho] at h2 hready
  refine ⟨_, exec_poll_feeder h hp, h1, otherStationsKept_schedulePoll s false hothers, ?_, h3, fun hd => ?_, fun e he => ?_,
    fun hw => ?_, fun g hr hg hpos hq => ?_, (htouch.trans (touches_schedulePoll _ p false).mono).closed⟩
  · rw [h2]
    exact hretry
  · obtain ⟨w1, w2, -, w3, w4⟩ := answeredStation_working hnoad hd
    rw [h2]
    exact ⟨w1, w2, w3, w4⟩
  · obtain ⟨w1, w2, w3, w4, -⟩ := answeredStation_error hnoad he
    rw [h2]
    exact ⟨w1, w4, w2, w3⟩
  · obtain ⟨w1, w2, -, w3, w4⟩ := answeredStation_well hnoad hw
    rw [holdSeconds_feeder hp] at w3 w4
    rw [hfeed, h2]
    refine ⟨w1, w2, fun hh => w3 ?_, fun hh => ?_⟩
    · have hpos : d.hold.toNat ≠ 0 := fun h0 => hh (BitVec.eq_of_toNat_eq h0)
      omega
    · obtain ⟨v1, v2⟩ := w4 (by rw [hh]; rfl)
      exact ⟨v1, v2, hready v1, feederPolled_keeps hdef v1⟩
  · have hr' : (answeredStation s p d).state ≠ .ready := by
      rw [h2] at hr
      exact hr
    have hw := feederPolled_withdraws hdef hr' hg hpos hq
    rw [ho] at hw
    rw [hfeed, h2]
    exact hw

end

end Sys2Proof
end

section
/-! SUPPORT. Polls answered at a head station (5.5, 5.10): the report of the settled operation, and a command held back. -/

namespace Sys2Proof

open Sys2Proof.Machine

/-! ### The report of a head station's poll -/

/-- The station record of the poll is set, and nothing has been told of it. -/
def pollBase (s : State) (p : Position) (d : QueryData) : State := s.freeLine.setStation p (answeredStation s p d)

/-- The settled operation has been reported, and the station's fault. -/
def pollReported (s : State) (p : Position) (d : QueryData) : State :=
  (pollBase s p d).reportSettled p (settlement s p d) d.result.toNat
    (decide ((answeredStation s p d).state = .faulted ∧ (s.line.at p).state ≠ .faulted))

/-- The command whose failure a settlement reports. -/
def failedCommand (r : Settlement) : Option StationCommand := r.failed.bind Prod.fst

theorem replaceDeferred_stands {s : State} {p : Position} (h : (s.line.at p).deferred = none ∨ (s.line.at p).state ≠ .ready) :
    s.replaceDeferred p = s := by
  unfold State.replaceDeferred
  dsimp only
  split
  · rfl
  · rename_i c hc
    exact if_neg (h.resolve_left (by rw [hc]; simp))

theorem reportSettled_head {s : State} {p : Position} {r : Settlement} {n : Nat} {b : Bool} (hp : isFeederPosition p = false)
    (hc : r.completed = none) :
    s.reportSettled p r n b =
      if b then s.headStationFault (failedCommand r)
      else ((failedCommand r).map s.operationFailed).getD s := by
  unfold State.reportSettled failedCommand
  rw [if_neg (by simp [hp]), hc]
  rcases r.failed with _ | ⟨_ | c, e⟩ <;> rfl

theorem reportSettled_done {s : State} {p : Position} {r : Settlement} {n : Nat} {c : StationCommand}
    (hp : isFeederPosition p = false) (hc : r.completed = some c) (hf : r.failed = none) :
    s.reportSettled p r n false = s.operationDone c n := by
  unfold State.reportSettled
  rw [if_neg (by simp [hp]), hc, hf]
  rfl

section
variable {s : State} {p : Position} {d : QueryData} {bytes : List Byte}

theorem exec_poll_head (h : PollAnswered s p bytes d) (hp : isFeederPosition p = false) :
    exec (.queryReply bytes) s = answer s (((pollReported s p d).replaceDeferred p).schedulePoll p false) := by
  rw [exec_poll_status h]
  refine congrArg (fun u => answer s ((State.replaceDeferred u p).schedulePoll p false)) ?_
  have hat := (freeLine_frame s).2.1 p
  rw [pollReported, pollBase, ← answeredStation_freeLine, ← changeStation_head _ hp, settlement, ← hat]
  rfl

theorem pollBase_frame (s : State) (p : Position) (d : QueryData) :
    (pollBase s p d).head = s.head ∧ (pollBase s p d).control = s.control ∧ (pollBase s p d).line.transaction = none ∧
      (pollBase s p d).line.at p = answeredStation s p d ∧ SameStart s (pollBase s p d) ∧
      Touches [.line] [] s (pollBase s p d) :=
  ⟨rfl, rfl, by simp [pollBase, State.freeLine], by rw [pollBase, at_setStation, if_pos rfl],
    (sameStart_freeLine s).trans (sameStart_setStation _ p _), (touches_freeLine s).trans (touches_setStation _ p _)⟩

/-- A station that is left FAULTED has completed nothing. -/
theorem completed_of_faulted (hp : isFeederPosition p = false) (h : (answeredStation s p d).state = .faulted) :
    (settlement s p d).completed = none := by
  cases hc : (settlement s p d).completed with
  | none => rfl
  | some c =>
    obtain ⟨hf, ho, hd⟩ := settlement_completed hc
    have hready := ((settledStation_well (p := p) (x := s.line.at p) (d := d) hf ho (by simp [hd])).2.2
      (holdSeconds_head hp d)).1
    rw [answeredStation] at h
    rw [h] at hready
    cases hready

theorem failed_of_stands (h : (answeredStation s p d).state ≠ .faulted) : (settlement s p d).failed = none := by
  cases hf : (settlement s p d).failed with
  | none => rfl
  | some x => exact absurd (settledStation_failed (p := p) (x := s.line.at p) (d := d) (c := x.1) (e := x.2) hf).1 h

/-- As the station becomes FAULTED. -/
theorem pollReported_fault (hp : isFeederPosition p = false) (hy : (answeredStation s p d).state = .faulted)
    (hx : (s.line.at p).state ≠ .faulted) :
    pollReported s p d = (pollBase s p d).headStationFault (failedCommand (settlement s p d)) := by
  rw [pollReported, reportSettled_head hp (completed_of_faulted hp hy)]
  exact if_pos (decide_eq_true ⟨hy, hx⟩)

/-- A station that was FAULTED already. -/
theorem pollReported_again (hp : isFeederPosition p = false) (hy : (answeredStation s p d).state = .faulted)
    (hx : (s.line.at p).state = .faulted) :
    pollReported s p d =
      ((failedCommand (settlement s p d)).map (pollBase s p d).operationFailed).getD (pollBase s p d) := by
  rw [pollReported, reportSettled_head hp (completed_of_faulted hp hy)]
  exact if_neg (by simp [hx])

theorem pollReported_done (hp : isFeederPosition p = false) (hy : (answeredStation s p d).state ≠ .faulted)
    {c : StationCommand} (hc : (settlement s p d).completed = some c) :
    pollReported s p d = (pollBase s p d).operationDone c d.result.toNat := by
  rw [pollReported, decide_eq_false fun h => hy h.1, reportSettled_done hp hc (failed_of_stands hy)]

theorem pollReported_stands (hp : isFeederPosition p = false) (hy : (answeredStation s p d).state ≠ .faulted)
    (hc : (settlement s p d).completed = none) : pollReported s p d = pollBase s p d := by
  rw [pollReported, decide_eq_false fun h => hy h.1, reportSettled_head hp hc, failedCommand,
    failed_of_stands hy]
  rfl

/-- The report leaves the station's own record, and the line, as they are. -/
theorem pollReported_at (hp : isFeederPosition p = false) : (pollReported s p d).line.at p = answeredStation s p d := by
  obtain ⟨-, -, -, hbase, -⟩ := pollBase_frame s p d
  by_cases hy : (answeredStation s p d).state = .faulted
  · by_cases hx : (s.line.at p).state = .faulted
    · rw [pollReported_again hp hy hx]
      cases (failedCommand (settlement s p d)) with
      | none => exact hbase
      | some c => exact (operationFailed_at _ c hp).trans hbase
    · rw [pollReported_fault hp hy hx]
      exact (headStationFault_at _ _ hp).trans hbase
  · cases hc : (settlement s p d).completed with
    | none =>
      rw [pollReported_stands hp hy hc]
      exact hbase
    | some c =>
      rw [pollReported_done hp hy hc]
      exact (operationDone_at _ c _ hp).trans hbase

theorem touches_pollReported (hp : isFeederPosition p = false) :
    Touches haltBlocks [.headStation, .halted, .entryFailed, .courseClosed, .binFull] s (pollReported s p d) := by
  obtain ⟨-, -, -, -, -, hbase⟩ := pollBase_frame s p d
  by_cases hy : (answeredStation s p d).state = .faulted
  · by_cases hx : (s.line.at p).state = .faulted
    · rw [pollReported_again hp hy hx]
      cases (failedCommand (settlement s p d)) with
      | none => exact hbase.mono
      | some c => exact hbase.mono.trans (touches_operationFailed _ c).mono
    · rw [pollReported_fault hp hy hx]
      exact hbase.mono.trans (touches_headStationFault _ _).mono
  · cases hc : (settlement s p d).completed with
    | none =>
      rw [pollReported_stands hp hy hc]
      exact hbase.mono
    | some c =>
      rw [pollReported_done hp hy hc]
      exact hbase.mono.trans (touches_operationDone _ c _).mono

theorem replied_pollReported (hp : isFeederPosition p = false) : Replied p s (pollReported s p d) := by
  have hline : (pollReported s p d).line.transaction = none := by simp [pollReported, pollBase, State.freeLine]
  have hseq : (pollReported s p d).seq.profile = s.seq.profile := by
    simp [pollReported, pollBase, State.freeLine]
  exact replied_of_station (touches_pollReported hp) hseq hline ⟨_, pollReported_at hp⟩

/-- A poll that places no command again, as its reply has been handled. -/
theorem poll_ended (h : PollAnswered s p bytes d) (hp : isFeederPosition p = false)
    (hd : (answeredStation s p d).deferred = none ∨ (answeredStation s p d).state ≠ .ready) :
    exec (.queryReply bytes) s = answer s ((pollReported s p d).schedulePoll p false) := by
  rw [exec_poll_head h hp, replaceDeferred_stands]
  rwa [pollReported_at hp]

/-- What the end of such a poll leaves at the station. -/
theorem poll_station (hp : isFeederPosition p = false) :
    (finish s ((pollReported s p d).schedulePoll p false)).line.transaction = none ∧
      (finish s ((pollReported s p d).schedulePoll p false)).line.at p =
        { answeredStation s p d with
          nextPoll := ((finish s ((pollReported s p d).schedulePoll p false)).line.at p).nextPoll } ∧
      PollScheduled p s (finish s ((pollReported s p d).schedulePoll p false)) := by
  obtain ⟨h1, h2, h3⟩ := (replied_pollReported (d := d) hp).ended
  rw [pollReported_at hp] at h2
  exact ⟨h1, h2, h3⟩

theorem poll_closed (hp : isFeederPosition p = false) :
    KeptBut haltBlocks s (finish s ((pollReported s p d).schedulePoll p false)) ∧
      CausesKeptBut [.headStation, .halted, .entryFailed, .courseClosed, .binFull] s
        (finish s ((pollReported s p d).schedulePoll p false)) :=
  ((touches_pollReported hp).trans (touches_schedulePoll _ p false).mono).closed

/-- A poll that reports no end. -/
theorem poll_quiet (hp : isFeederPosition p = false) (hy : (answeredStation s p d).state ≠ .faulted)
    (hc : (settlement s p d).completed = none) :
    KeptBut [.line] s (finish s ((pollReported s p d).schedulePoll p false)) ∧
      CausesKeptBut [] s (finish s ((pollReported s p d).schedulePoll p false)) := by
  obtain ⟨-, -, -, -, -, hbase⟩ := pollBase_frame s p d
  rw [pollReported_stands hp hy hc]
  exact (hbase.trans (touches_schedulePoll _ p false)).closed

/-- A head station that becomes FAULTED (R103). -/
theorem poll_faults (hp : isFeederPosition p = false) (hy : (answeredStation s p d).state = .faulted)
    (hx : (s.line.at p).state ≠ .faulted) :
    hasCause (finish s ((pollReported s p d).schedulePoll p false)) .headStation = true ∧
      HaltRequested s (finish s ((pollReported s p d).schedulePoll p false)) := by
  obtain ⟨-, hcontrol, -⟩ := pollBase_frame s p d
  obtain ⟨h1, h2⟩ := fault_closed s (pollBase s p d) (failedCommand (settlement s p d))
    (w := (pollReported s p d).schedulePoll p false) (by
      rw [pollReported_fault hp hy hx]
      exact lineTail_setStation _ p _)
  exact ⟨h1, haltRequested_from hcontrol h2⟩

/-- A head station that stays FAULTED. -/
theorem poll_stays_faulted (hp : isFeederPosition p = false) (hy : (answeredStation s p d).state = .faulted)
    (hx : (s.line.at p).state = .faulted) :
    (finish s ((pollReported s p d).schedulePoll p false)).control = s.control ∧
      hasCause (finish s ((pollReported s p d).schedulePoll p false)) .headStation = hasCause s .headStation := by
  obtain ⟨-, -, -, -, -, hbase⟩ := pollBase_frame s p d
  have htouch : Touches failBlocks [.entryFailed, .courseClosed] s (pollReported s p d) := by
    rw [pollReported_again hp hy hx]
    cases (failedCommand (settlement s p d)) with
    | none => exact hbase.mono
    | some c => exact hbase.mono.trans (touches_operationFailed _ c)
  obtain ⟨hk, hc⟩ := (htouch.trans (touches_schedulePoll _ p false).mono).closed
  exact ⟨hk .control (by decide), hc.1 _ (by decide) (by decide)⟩

/-- The operation that has failed fails the attempt that it served. -/
theorem poll_served (hp : isFeederPosition p = false) (hy : (answeredStation s p d).state = .faulted) {c : StationCommand}
    (hc : (failedCommand (settlement s p d)) = some c) :
    ServedAttemptFails s c (finish s ((pollReported s p d).schedulePoll p false)) := by
  obtain ⟨hhead, -, -, -, hstart, -⟩ := pollBase_frame s p d
  refine servedAttemptFails_from hhead hstart ?_
  by_cases hx : (s.line.at p).state = .faulted
  · refine servedAttemptFails_failed s (pollBase s p d) c ?_
    rw [pollReported_again hp hy hx, hc]
    exact lineTail_setStation _ p _
  · refine servedAttemptFails_fault s (pollBase s p d) c ?_
    rw [pollReported_fault hp hy hx, hc]
    exact lineTail_setStation _ p _

theorem failedCommand_of_error {e : Half} (hn : NoAdoption s p d) (h : FindsError s p d e) {c : StationCommand}
    (hc : (s.line.at p).operation = .command c) : (failedCommand (settlement s p d)) = some c := by
  rcases settlement_error hn h with hset | ⟨-, ho, -⟩
  · rw [hset, hc]
    rfl
  · rw [hc] at ho
    cases ho

end

/-! ### Nothing held back -/

theorem head_polled {p : Position} {bytes : List Byte} {d : QueryData} {s : State} (h : Answers s p bytes d)
    (hp : isFeederPosition p = false) :
    ∃ t, exec (.queryReply bytes) s = .next t ∧ t.line.transaction = none ∧ (t.line.at p).retry = false ∧
      PollScheduled p s t ∧
      (d.reported = .working →
        (t.line.at p).state = .busy ∧
          ((s.line.at p).operation ≠ .none → (t.line.at p).operation = (s.line.at p).operation) ∧
          ((s.line.at p).operation = .none → (t.line.at p).operation = .foreign) ∧ KeptBut [.line] s t ∧
          CausesKeptBut [] s t) ∧
      (∀ e, FindsError s p d e →
        (t.line.at p).state = .faulted ∧ (t.line.at p).operation = .none ∧ (t.line.at p).lastError = e ∧
          ((s.line.at p).state ≠ .faulted → hasCause t .headStation = true ∧ HaltRequested s t) ∧
          ((s.line.at p).state = .faulted → t.control = s.control ∧ hasCause t .headStation = hasCause s .headStation) ∧
          ∀ c, (s.line.at p).operation = .command c → ServedAttemptFails s c t) ∧
      (EndsWell s p d → (t.line.at p).state = .ready ∧ (t.line.at p).operation = .none ∧
        ((∀ c, (s.line.at p).operation ≠ .command c) → KeptBut [.line] s t ∧ CausesKeptBut [] s t)) ∧
      KeptBut haltBlocks s t ∧ CausesKeptBut [.headStation, .halted, .entryFailed, .courseClosed, .binFull] s t := by
  obtain ⟨hpoll, hnone⟩ := h
  have hnoad : NoAdoption s p d := noAdoption_of_deferred (.inl hnone)
  have hdef : (answeredStation s p d).deferred = none := by
    rw [answeredStation_commands.2, hnone]
    split <;> rfl
  obtain ⟨h1, h2, h3⟩ := poll_station (s := s) (d := d) hp
  have hretry := (settledStation_polls p (s.line.at p) d (settlement s p d)).1
  refine ⟨_, poll_ended hpoll hp (.inl hdef), h1, ?_, h3, fun hd => ?_, fun e he => ?_, fun hw => ?_, poll_closed hp⟩
  · rw [h2]
    exact hretry
  · obtain ⟨w1, -, -, w3, w4⟩ := answeredStation_working hnoad hd
    rw [h2]
    exact ⟨w1, w3, w4, poll_quiet hp (by rw [w1]; simp) (by rw [settlement_working hnoad hd])⟩
  · obtain ⟨w1, w2, -, w4, -⟩ := answeredStation_error hnoad he
    rw [h2]
    exact ⟨w1, w4, w2, poll_faults hp w1, poll_stays_faulted hp w1, fun c hc =>
      poll_served hp w1 (failedCommand_of_error hnoad he hc)⟩
  · obtain ⟨w1, -, -, -, w4⟩ := answeredStation_well hnoad hw
    have w5 := (w4 (holdSeconds_head hp d)).1
    rw [h2]
    refine ⟨w5, w1, fun hc => poll_quiet hp (by rw [w5]; simp) ?_⟩
    rw [(settlement_well hnoad hw).1]
    cases ho : (s.line.at p).operation with
    | command c => exact absurd ho (hc c)
    | _ => rfl

end Sys2Proof
end

section
/-! SUPPORT. Polls of a head station that holds a command back (5.4, R90, R92), and polls refused (R88, R102). -/

namespace Sys2Proof

open Sys2Proof.Machine

/-! ### The places at the head, as an adopted operation completes -/

theorem spreadDone_bay (s : State) : s.spreadDone.head.bay.state = .spread := by
  unfold State.spreadDone
  dsimp only
  split <;> rfl

theorem ejectDone_count (s : State) (place : HeadPlace) : (s.ejectDone place).head.binCount = s.head.binCount + 1 := by
  have hcount : s.countEject.head.binCount = s.head.binCount + 1 := by
    unfold State.countEject
    dsimp only
    split <;> rfl
  unfold State.ejectDone
  dsimp only
  split <;> exact hcount

theorem takenOver_head (s : State) (i : EntryIx) :
    (takenOver s i).head =
      { s.head with
        gripper := { Gripper.cleared with
          state := .holding, content := .entry i, brick := true, openTimer := s.head.bay.openTimer }
        bay := .cleared
        lastTransit := (s.head.bay.rootTime.map fun root => s.time - root).getD s.head.lastTransit } := by
  unfold takenOver State.stampTransit
  have hmoved : (started (s.moveToGripper (.entry i)) i .head s.activeZc).head = (s.moveToGripper (.entry i)).head :=
    (touches_started _ i .head s.activeZc).frame .head (by decide)
  have htime : (started (s.moveToGripper (.entry i)) i .head s.activeZc).time = s.time :=
    (touches_started _ i .head s.activeZc).frame .time (by decide)
  have hshown : ∀ v : State, v.showHead.head = v.head := fun v => by simp
  generalize started (s.moveToGripper (.entry i)) i .head s.activeZc = w at *
  cases s.head.bay.rootTime with
  | none => exact (hshown w).trans hmoved
  | some root =>
    refine (hshown _).trans ?_
    change { w.head with lastTransit := w.time - root } = _
    rw [hmoved, htime]
    rfl

/-- TAKE DONE clears the bay, whatever loss recovery does then. -/
theorem takeDone_bay (s : State) : s.takeDone.head.bay = .cleared := by
  by_cases h : ∃ i, s.head.gripper.content = .entry i
  · obtain ⟨i, hi⟩ := h
    have hhead := takenOver_head s i
    rw [takeDone_entry hi, State.recoverIfLost]
    split
    · rcases recoverLoss_cases (takenOver s i) with h | h | ⟨j, -, -, h⟩ <;> rw [h]
      · rw [hhead]
      · change (takenOver s i).head.bay = .cleared
        rw [hhead]
      · have hstill := (headAfter_failAttempt j j .trackLost (takenOver s i)).bayStill
        rw [hhead] at hstill
        exact hstill (fun j hj => by cases hj) (by simp)
    · rw [hhead]
  · rw [takeDone_void fun i hi => h ⟨i, hi⟩]
    unfold State.stampTransit
    split <;> simp [State.moveToGripper]

/-! ### A command held back -/

section
variable {s : State} {p : Position} {d : QueryData} {c : StationCommand} {bytes : List Byte}

theorem settlement_adopts_working (ha : Adopts s p c d) (hdef : (s.line.at p).deferred = some c) (hf : ∀ n, c ≠ .feed n)
    (hd : d.reported = .working) : settlement s p d = ⟨.command c, true, none, none⟩ := by
  obtain ⟨ho, hcode⟩ := ha
  unfold settlement settleOperation
  simp only [ho, hd, hdef, adoptedRequest_head hf, if_pos hcode.symm]

theorem settlement_adopts_done (ha : Adopts s p c d) (hdef : (s.line.at p).deferred = some c) (hf : ∀ n, c ≠ .feed n)
    (hd : d.reported = .done) : settlement s p d = settleDone c true d := by
  obtain ⟨ho, hcode⟩ := ha
  unfold settlement settleOperation
  simp only [ho, hd, hdef, adoptedRequest_head hf, if_pos hcode.symm]

theorem settlement_adopts_error (ha : Adopts s p c d) (hdef : (s.line.at p).deferred = some c) (hf : ∀ n, c ≠ .feed n)
    (hd : d.reported = .error) : settlement s p d = ⟨.none, true, none, some (some c, errorWordOf d)⟩ := by
  obtain ⟨ho, hcode⟩ := ha
  unfold settlement settleOperation
  simp only [ho, hd, hdef, adoptedRequest_head hf, if_pos hcode.symm]

theorem settleDone_drop (c : StationCommand) (b : Bool) (d : QueryData) : (settleDone c b d).dropDeferred = b := by
  unfold settleDone
  split <;> rfl

/-- An operation reported that is adopted takes the command held back with it. -/
theorem adopted_drops (ha : Adopts s p c d) (hdef : (s.line.at p).deferred = some c) (hf : ∀ n, c ≠ .feed n)
    (hd : d.reported ≠ .idle) : (answeredStation s p d).deferred = none := by
  have hdrop : (settlement s p d).dropDeferred = true := by
    cases hr : d.reported with
    | idle => exact absurd hr hd
    | working => rw [settlement_adopts_working ha hdef hf hr]
    | done => rw [settlement_adopts_done ha hdef hf hr, settleDone_drop]
    | error => rw [settlement_adopts_error ha hdef hf hr]
  rw [answeredStation_commands.2]
  exact if_pos hdrop

theorem noAdoption_of_not (ha : ¬Adopts s p c d) (hdef : (s.line.at p).deferred = some c) (hf : ∀ n, c ≠ .feed n) :
    NoAdoption s p d := fun ho _ => by
  rw [hdef, adoptedRequest_head hf]
  exact if_neg fun hc => ha ⟨ho, hc.symm⟩

theorem noAdoption_of_idle (hd : d.reported = .idle) : NoAdoption s p d := fun _ h => absurd hd h

/-- A poll that leaves the command to be placed with the arbiter again. -/
def Replaces (s : State) (p : Position) (c : StationCommand) (d : QueryData) : Prop :=
  (d.reported = .done ∧ ¬Adopts s p c d) ∨
    (d.reported = .idle ∧ d.latched = 0 ∧ (s.line.at p).operation = .none)

theorem replaces_well (h : Replaces s p c d) (hdef : (s.line.at p).deferred = some c) (hf : ∀ n, c ≠ .feed n)
    (hop : (s.line.at p).operation = .none ∨ (s.line.at p).operation = .foreign) :
    NoAdoption s p d ∧ EndsWell s p d := by
  rcases h with ⟨hd, ha⟩ | ⟨hd, hl, ho⟩
  · refine ⟨noAdoption_of_not ha hdef hf, ?_⟩
    rcases hop with ho | ho
    · exact .inl ⟨ho, .inl hd⟩
    · exact .inr (.inl ⟨ho, hd⟩)
  · exact ⟨noAdoption_of_idle hd, .inl ⟨ho, .inr ⟨hd, hl⟩⟩⟩

theorem replaceHead_places {v : State} (h : c = .release ∨ c = .probe → v.head.gripper.content.isVoid = false) :
    v.replaceHead c = v.placeHead c := by
  have hr : ¬(c = .release ∧ v.head.gripper.content.isVoid = true) := fun hc => by
    rw [h (.inl hc.1)] at hc
    exact absurd hc.2 (by decide)
  have hp : ¬(c = .probe ∧ v.head.gripper.content.isVoid = true) := fun hc => by
    rw [h (.inr hc.1)] at hc
    exact absurd hc.2 (by decide)
  rw [State.replaceHead, if_neg hr, if_neg hp]

theorem replaceDeferred_places {v : State} (hdef : (v.line.at p).deferred = some c) (hr : (v.line.at p).state = .ready)
    (hf : ∀ n, c ≠ .feed n) :
    v.replaceDeferred p = (v.setStation p { v.line.at p with deferred := none }).replaceHead c := by
  cases c with
  | feed n => exact absurd rfl (hf n)
  | _ =>
    rw [State.replaceDeferred]
    simp only [hdef, if_pos hr]

/-- Whatever becomes of the command, the station stands. -/
theorem replaceHead_keeps (v : State) (c : StationCommand) :
    (∀ p, (v.replaceHead c).line.at p = v.line.at p) ∧ (v.replaceHead c).line.transaction = v.line.transaction ∧
      Touches [.line, .head] [] v (v.replaceHead c) := by
  unfold State.replaceHead
  split
  · exact ⟨fun _ => by simp, by simp, (touches_putHead v _).mono⟩
  · split
    · exact ⟨fun _ => by simp, by simp, (touches_putHead v _).mono⟩
    · exact ⟨fun p => at_headRequests v.line _ p, rfl, (touches_placeHead v c).mono⟩

/-- The station record with nothing held back. -/
def clearedStation (s : State) (p : Position) (d : QueryData) : State :=
  (pollBase s p d).setStation p { answeredStation s p d with deferred := none }

theorem replied_clearedStation (s : State) (p : Position) (d : QueryData) : Replied p s (clearedStation s p d) := by
  obtain ⟨-, hpend, hnext⟩ := settledStation_polls p (s.line.at p) d (settlement s p d)
  exact replied_setStation (s := s) (v := pollBase s p d) (p := p) (x := { answeredStation s p d with deferred := none })
    rfl rfl (pollBase_frame s p d).2.2.1 hpend hnext

theorem clearedStation_at (s : State) (p : Position) (d : QueryData) :
    (clearedStation s p d).line.at p = { answeredStation s p d with deferred := none } := by
  rw [clearedStation, at_setStation, if_pos rfl]

theorem touches_clearedStation (s : State) (p : Position) (d : QueryData) : Touches [.line] [] s (clearedStation s p d) :=
  (pollBase_frame s p d).2.2.2.2.2.trans (touches_setStation _ p _)

/-- The command held back is placed again, unless its content has become void (R90, R163). -/
theorem poll_replaces (h : AnswersDeferred s p c bytes d) (hrep : Replaces s p c d) :
    ∃ t, exec (.queryReply bytes) s = .next t ∧ t.line.transaction = none ∧ PollScheduled p s t ∧
      (t.line.at p).state = .ready ∧ (t.line.at p).operation = .none ∧ (t.line.at p).deferred = none ∧
      KeptBut [.line, .head] s t ∧ CausesKeptBut [] s t ∧
      ((c = .release ∨ c = .probe → s.head.gripper.content.isVoid = false) →
        t.line.headRequests = s.line.headRequests ++ [c] ∧ KeptBut [.line] s t) := by
  obtain ⟨hpoll, hp, hdef, hop, -, hf⟩ := h
  obtain ⟨hnoad, hwell⟩ := replaces_well hrep hdef hf hop
  obtain ⟨w1, -, w2, -, w3⟩ := answeredStation_well hnoad hwell
  have hready := (w3 (holdSeconds_head hp d)).1
  have hcomp : (settlement s p d).completed = none := by
    rw [(settlement_well hnoad hwell).1]
    rcases hop with ho | ho <;> rw [ho] <;> rfl
  have hat := (pollBase_frame s p d).2.2.2.1
  have hplaced : (pollReported s p d).replaceDeferred p = (clearedStation s p d).replaceHead c := by
    rw [pollReported_stands hp (by rw [hready]; simp) hcomp,
      replaceDeferred_places (by rw [hat, w2]; exact hdef) (by rw [hat]; exact hready) hf, hat]
    rfl
  obtain ⟨hline, htrans, htouch⟩ := replaceHead_keeps (clearedStation s p d) c
  obtain ⟨r1, r2, r3, r4, r5⟩ := replied_clearedStation s p d
  have hreplied : Replied p s ((clearedStation s p d).replaceHead c) :=
    ⟨(congrArg _ (htouch.frame .seq (by decide))).trans r1, (htouch.frame .time (by decide)).trans r2, htrans.trans r3,
      by rw [hline]; exact r4, by rw [hline]; exact r5⟩
  obtain ⟨h1, h2, h3⟩ := hreplied.ended
  rw [hline, clearedStation_at] at h2
  refine ⟨_, exec_poll_head hpoll hp, ?_⟩
  rw [hplaced]
  obtain ⟨hk, hc⟩ := (((touches_clearedStation s p d).mono.trans htouch).trans (touches_schedulePoll _ p false).mono).closed
  refine ⟨h1, h3, by rw [h2]; exact hready, by rw [h2]; exact w1, by rw [h2], hk, hc, fun hvoid => ?_⟩
  rw [replaceHead_places (v := clearedStation s p d) hvoid]
  refine ⟨by simp [State.schedulePoll, State.placeHead, clearedStation, pollBase, State.freeLine], ?_⟩
  exact (((touches_clearedStation s p d).trans (touches_placeHead _ c)).trans (touches_schedulePoll _ p false)).closed.1

/-- What a poll leaves that places no command again. -/
theorem deferred_ended (h : AnswersDeferred s p c bytes d) (hno : ¬Replaces s p c d) :
    exec (.queryReply bytes) s = answer s ((pollReported s p d).schedulePoll p false) := by
  obtain ⟨hpoll, hp, hdef, hop, -, hf⟩ := h
  refine poll_ended hpoll hp ?_
  by_cases ha : Adopts s p c d ∧ d.reported ≠ .idle
  · exact .inl (adopted_drops ha.1 hdef hf ha.2)
  · refine .inr fun hr => ?_
    have hnoad : NoAdoption s p d := fun ho hd => noAdoption_of_not (fun h => ha ⟨h, hd⟩) hdef hf ho hd
    have hfault : ∀ e, ¬FindsError s p d e := fun e he => by
      rw [(answeredStation_error hnoad he).1] at hr
      cases hr
    cases hd : d.reported with
    | working =>
      rw [(answeredStation_working hnoad hd).1] at hr
      cases hr
    | done => exact hno (.inl ⟨hd, fun h => ha ⟨h, by simp [hd]⟩⟩)
    | error => exact hfault _ (.inr (.inl ⟨hd, rfl⟩))
    | idle =>
      rcases hop with ho | ho
      · by_cases hl : d.latched = 0
        · exact hno (.inr ⟨hd, hl, ho⟩)
        · exact hfault _ (.inr (.inr ⟨ho, hd, hl, rfl⟩))
      · exact hfault _ (.inl ⟨.inl ⟨by rw [ho]; simp, hd⟩, rfl⟩)

theorem answeredStation_adopted_working (ha : Adopts s p c d) (hdef : (s.line.at p).deferred = some c) (hf : ∀ n, c ≠ .feed n)
    (hd : d.reported = .working) :
    (answeredStation s p d).state = .busy ∧ (answeredStation s p d).operation = .command c ∧
      (settlement s p d).completed = none := by
  have hset := settlement_adopts_working ha hdef hf hd
  refine ⟨(settledStation_busy (p := p) (x := s.line.at p) (d := d) (r := settlement s p d) (by rw [hset])
    (by rw [hset]; simp)).1, ?_, by rw [hset]⟩
  rw [answeredStation_commands.1, hset]

theorem answeredStation_adopted_done (hp : isFeederPosition p = false) (ha : Adopts s p c d)
    (hdef : (s.line.at p).deferred = some c) (hf : ∀ n, c ≠ .feed n) (hd : d.reported = .done)
    (hr : c = .probe → d.result.toNat ≤ 600) :
    (answeredStation s p d).state = .ready ∧ (answeredStation s p d).operation = .none ∧
      (settlement s p d).completed = some c := by
  have hset : settlement s p d = ⟨.none, true, some c, none⟩ :=
    (settlement_adopts_done ha hdef hf hd).trans (settleDone_well true hr)
  refine ⟨((settledStation_well (p := p) (x := s.line.at p) (d := d) (r := settlement s p d) (by rw [hset]) (by rw [hset])
    (by simp [hd])).2.2 (holdSeconds_head hp d)).1, ?_, by rw [hset]⟩
  rw [answeredStation_commands.1, hset]

theorem answeredStation_adopted_error (ha : Adopts s p c d) (hdef : (s.line.at p).deferred = some c) (hf : ∀ n, c ≠ .feed n)
    (hd : d.reported = .error) :
    (answeredStation s p d).state = .faulted ∧ (answeredStation s p d).operation = .none ∧
      failedCommand (settlement s p d) = some c := by
  have hset := settlement_adopts_error ha hdef hf hd
  refine ⟨(settledStation_failed (p := p) (x := s.line.at p) (d := d) (r := settlement s p d) (c := some c)
    (e := errorWordOf d) (by rw [hset])).1, ?_, by rw [hset]; rfl⟩
  rw [answeredStation_commands.1, hset]

/-- The places at the head, as an adopted operation has completed. -/
theorem poll_adopted_head (hp : isFeederPosition p = false) (hy : (answeredStation s p d).state = .ready)
    (hc : (settlement s p d).completed = some c) :
    (∀ place, c = .eject place →
        (finish s ((pollReported s p d).schedulePoll p false)).head.binCount = s.head.binCount + 1) ∧
      (c = .spread → (finish s ((pollReported s p d).schedulePoll p false)).head.bay.state = .spread) ∧
      (c = .take → (finish s ((pollReported s p d).schedulePoll p false)).head.bay = .cleared) := by
  have hhead : (finish s ((pollReported s p d).schedulePoll p false)).head =
      ((pollBase s p d).operationDone c d.result.toNat).head := by
    rw [(finish_frame s _).2.2.2.2.2.2.2.2.2.2.2.1, pollReported_done hp (by rw [hy]; simp) hc]
    rfl
  rw [hhead]
  refine ⟨fun place h => ?_, fun h => ?_, fun h => ?_⟩
  · rw [h]
    exact ejectDone_count _ place
  · rw [h]
    exact spreadDone_bay _
  · rw [h]
    exact takeDone_bay _

end

/-- A step that raises no cause raises none of any others. -/
theorem causesKeptBut_of_nil {cs : List Cause} {s t : State} (h : CausesKeptBut [] s t) : CausesKeptBut cs s t :=
  ⟨fun c _ hne => h.1 c (by simp) hne, fun _ => h.2 (by simp)⟩

/-- The whole of a poll of a head station that holds a command back. -/
theorem deferred_polled {p : Position} {c : StationCommand} {bytes : List Byte} {d : QueryData} {s : State}
    (h : AnswersDeferred s p c bytes d) :
    ∃ t, exec (.queryReply bytes) s = .next t ∧ t.line.transaction = none ∧ PollScheduled p s t ∧
      (Adopts s p c d →
        (d.reported ≠ .idle → (t.line.at p).deferred = none) ∧
        (d.reported = .working → (t.line.at p).state = .busy ∧ (t.line.at p).operation = .command c ∧
          KeptBut [.line] s t ∧ CausesKeptBut [] s t) ∧
        (d.reported = .done → (c = .probe → d.result.toNat ≤ 600) →
          (t.line.at p).state = .ready ∧ (t.line.at p).operation = .none ∧
            (∀ place, c = .eject place → t.head.binCount = s.head.binCount + 1) ∧
            (c = .spread → t.head.bay.state = .spread) ∧ (c = .take → t.head.bay = .cleared)) ∧
        (d.reported = .error →
          (t.line.at p).state = .faulted ∧ (t.line.at p).operation = .none ∧ ServedAttemptFails s c t)) ∧
      (¬Adopts s p c d →
        (d.reported = .working →
          (t.line.at p).state = .busy ∧ (t.line.at p).operation = .foreign ∧ (t.line.at p).deferred = some c ∧
            KeptBut [.line] s t ∧ CausesKeptBut [] s t) ∧
        (d.reported = .error →
          (t.line.at p).state = .faulted ∧ (t.line.at p).operation = .none ∧ (t.line.at p).deferred = some c)) ∧
      ((d.reported = .done ∧ ¬Adopts s p c d) ∨
          (d.reported = .idle ∧ d.latched = 0 ∧ (s.line.at p).operation = .none) →
        (c = .release ∨ c = .probe → s.head.gripper.content.isVoid = false) →
        (t.line.at p).state = .ready ∧ (t.line.at p).operation = .none ∧ (t.line.at p).deferred = none ∧
          t.line.headRequests = s.line.headRequests ++ [c] ∧ KeptBut [.line] s t ∧ CausesKeptBut [] s t) ∧
      (d.reported = .idle → (s.line.at p).operation = .foreign →
        (t.line.at p).state = .faulted ∧ (t.line.at p).lastError = errorOperationLost ∧
          (t.line.at p).deferred = some c) ∧
      ((t.line.at p).state = .faulted → (s.line.at p).state ≠ .faulted →
        hasCause t .headStation = true ∧ HaltRequested s t) ∧
      KeptBut haltBlocks s t ∧ CausesKeptBut [.headStation, .halted, .entryFailed, .courseClosed, .binFull] s t := by
  obtain ⟨-, hp, hdef, hop, -, hf⟩ := id h
  by_cases hrep : Replaces s p c d
  · obtain ⟨t, hexec, h1, h2, h3, h4, h5, h6, h7, h8⟩ := poll_replaces h hrep
    have hwork : d.reported ≠ .working := by rcases hrep with ⟨hd, -⟩ | ⟨hd, -⟩ <;> simp [hd]
    have herr : d.reported ≠ .error := by rcases hrep with ⟨hd, -⟩ | ⟨hd, -⟩ <;> simp [hd]
    have hdone : Adopts s p c d → d.reported ≠ .done := fun ha => by
      rcases hrep with ⟨-, hno⟩ | ⟨hd, -⟩
      · exact absurd ha hno
      · simp [hd]
    have hforeign : d.reported = .idle → (s.line.at p).operation ≠ .foreign := fun hd => by
      rcases hrep with ⟨hd', -⟩ | ⟨-, -, ho⟩
      · simp [hd'] at hd
      · simp [ho]
    exact ⟨t, hexec, h1, h2, fun ha => ⟨fun _ => h5, fun h => absurd h hwork, fun h => absurd h (hdone ha),
      fun h => absurd h herr⟩, fun _ => ⟨fun h => absurd h hwork, fun h => absurd h herr⟩,
      fun _ hv => ⟨h3, h4, h5, (h8 hv).1, (h8 hv).2, h7⟩, fun h h' => absurd h' (hforeign h),
      fun h => absurd (h3.symm.trans h) (by simp), keptBut_mono h6 (by decide), causesKeptBut_of_nil h7⟩
  · obtain ⟨h1, h2, h3⟩ := poll_station (s := s) (d := d) hp
    have hclosed := poll_closed (s := s) (d := d) hp
    refine ⟨_, deferred_ended h hrep, h1, h3, fun ha => ⟨fun hd => ?_, fun hd => ?_, fun hd hr => ?_, fun hd => ?_⟩,
      fun ha => ⟨fun hd => ?_, fun hd => ?_⟩, fun h => absurd h hrep, fun hd ho => ?_, fun hy hx => ?_, hclosed⟩
    · rw [h2]
      exact adopted_drops ha hdef hf hd
    · obtain ⟨w1, w2, w3⟩ := answeredStation_adopted_working ha hdef hf hd
      rw [h2]
      exact ⟨w1, w2, poll_quiet hp (by rw [w1]; simp) w3⟩
    · obtain ⟨w1, w2, w3⟩ := answeredStation_adopted_done hp ha hdef hf hd hr
      rw [h2]
      exact ⟨w1, w2, poll_adopted_head hp w1 w3⟩
    · obtain ⟨w1, w2, w3⟩ := answeredStation_adopted_error ha hdef hf hd
      rw [h2]
      exact ⟨w1, w2, poll_served hp w1 w3⟩
    · have hnoad := noAdoption_of_not ha hdef hf
      obtain ⟨w1, -, w3, w4, w5⟩ := answeredStation_working hnoad hd
      have hforeign : (answeredStation s p d).operation = .foreign := by
        rcases hop with ho | ho
        · exact w5 ho
        · exact (w4 (by rw [ho]; simp)).trans ho
      rw [h2]
      exact ⟨w1, hforeign, w3.trans hdef, poll_quiet hp (by rw [w1]; simp) (by rw [settlement_working hnoad hd])⟩
    · obtain ⟨w1, -, -, w4, w5⟩ := answeredStation_error (noAdoption_of_not ha hdef hf) (.inr (.inl ⟨hd, rfl⟩))
      rw [h2]
      exact ⟨w1, w4, w5.trans hdef⟩
    · obtain ⟨w1, w2, -, -, w5⟩ := answeredStation_error (noAdoption_of_idle hd)
        (.inl ⟨.inl ⟨by rw [ho]; simp, hd⟩, rfl⟩)
      rw [h2]
      exact ⟨w1, w2, w5.trans hdef⟩
    · rw [h2] at hy
      exact poll_faults hp hy hx

/-! ### A poll refused (R88, R102) -/

/-- What a refused poll leaves at a head station. -/
def refusedStation (x : Station) (code : Half) : Station :=
  { x with state := .faulted, operation := .none, lastError := code, retry := false, hold := none }

section
variable {s : State} {p : Position} {code : Half} {bytes : List Byte}

theorem queryError_feeder (hp : isFeederPosition p = true) :
    s.queryError p code = (s.changeStation p (refusedStation (s.line.at p) code)).schedulePoll p false := by
  unfold State.queryError
  dsimp only
  rw [if_pos hp]
  rfl

/-- The refused station, before its fault is told of. -/
def refusedBase (s : State) (p : Position) (code : Half) : State :=
  s.freeLine.setStation p (refusedStation (s.line.at p) code)

/-- The refused station with its fault told of. -/
def refusedReported (s : State) (p : Position) (code : Half) : State :=
  if (s.line.at p).state = .faulted then
    ((headOperation (s.line.at p).operation).map (refusedBase s p code).operationFailed).getD (refusedBase s p code)
  else (refusedBase s p code).headStationFault (headOperation (s.line.at p).operation)

theorem queryError_head (hp : isFeederPosition p = false) :
    s.freeLine.queryError p code = (refusedReported s p code).schedulePoll p false := by
  have hbase : s.freeLine.changeStation p (refusedStation (s.line.at p) code) = refusedBase s p code :=
    changeStation_head _ hp
  rw [refusedReported, ← hbase]
  unfold State.queryError
  dsimp only
  rw [if_neg (by simp [hp]), (freeLine_frame s).2.1]
  cases headOperation (s.line.at p).operation <;> rfl

theorem refusedBase_frame (s : State) (p : Position) (code : Half) :
    (refusedBase s p code).head = s.head ∧ (refusedBase s p code).control = s.control ∧
      (refusedBase s p code).line.at p = refusedStation (s.line.at p) code ∧ SameStart s (refusedBase s p code) ∧
      Touches [.line] [] s (refusedBase s p code) ∧ Replied p s (refusedBase s p code) :=
  ⟨rfl, rfl, by rw [refusedBase, at_setStation, if_pos rfl], (sameStart_freeLine s).trans (sameStart_setStation _ p _),
    (touches_freeLine s).trans (touches_setStation _ p _),
    replied_setStation (s := s) (v := s.freeLine) (x := refusedStation (s.line.at p) code) rfl rfl rfl rfl rfl⟩

/-- Of an operation outstanding at a head station the attempt fails that it served. -/
theorem servedAttempt_outstanding {t : State} {c : StationCommand} {o : Outstanding} (ho : o = .command c)
    (h : ∀ d, headOperation o = some d → ServedAttemptFails s d t) : ServedAttemptFails s c t := by
  subst ho
  cases hc : headOperation (.command c) with
  | none => exact servedAttemptFails_none hc
  | some d =>
    obtain rfl : d = c := by cases c <;> cases hc <;> rfl
    exact h d hc

theorem feeder_refused (h : PollRefused s p bytes code) (hp : isFeederPosition p = true) :
    ∃ t, exec (.queryReply bytes) s = .next t ∧ t.line.transaction = none ∧ (t.line.at p).state = .faulted ∧
      (t.line.at p).operation = .none ∧ (t.line.at p).lastError = code ∧ (t.line.at p).retry = false ∧
      (t.line.at p).hold = none ∧ PollScheduled p s t ∧ OtherStationsKept p s t ∧
      (∀ g, s.issue.feed = some g → feederPosition g.feeder = p → g.phase = .requested → t.issue.feed = none) ∧
      (∀ g, s.issue.feed = some g → feederPosition g.feeder ≠ p ∨ g.phase ≠ .requested → t.issue.feed = some g) ∧
      KeptBut [.line, .feed, .list] s t ∧ CausesKeptBut [] s t := by
  obtain ⟨-, -, hat, -, -, r1, r2, r3, r4, r5⟩ := refusedBase_frame s p code
  obtain ⟨⟨o, ho⟩, hothers⟩ := changeStation_station s.freeLine p (refusedStation (s.line.at p) code)
  have htouch : Touches [.line, .feed, .list] [] s (s.freeLine.changeStation p (refusedStation (s.line.at p) code)) :=
    (touches_freeLine s).mono.trans (touches_changeStation _ p _)
  have hreplied : Replied p s (s.freeLine.changeStation p (refusedStation (s.line.at p) code)) :=
    ⟨congrArg _ (htouch.frame .seq (by decide)), htouch.frame .time (by decide),
      by simp [State.changeStation, State.freeLine], by rw [ho]; rfl, by rw [ho]; rfl⟩
  have hexec : exec (.queryReply bytes) s =
      answer s ((s.freeLine.changeStation p (refusedStation (s.line.at p) code)).schedulePoll p false) := by
    rw [exec_poll_refused h, queryError_feeder hp, (freeLine_frame s).2.1]
  obtain ⟨h1, h2, h3⟩ := hreplied.ended
  have hfeed : ∀ v : State, (finish s (v.schedulePoll p false)).issue.feed = v.issue.feed := fun v => by
    simp [State.schedulePoll]
  rw [ho] at h2
  refine ⟨_, hexec, h1, by rw [h2]; rfl, by rw [h2]; rfl, by rw [h2]; rfl, by rw [h2]; rfl, by rw [h2]; rfl, h3,
    otherStationsKept_schedulePoll s false (otherStationsKept_trans (otherStationsKept_freeLine s p) hothers),
    fun g hg hpos hq => ?_, fun g hg hno => ?_, (htouch.trans (touches_schedulePoll _ p false).mono).closed⟩
  · have hends : s.freeLine.changeStation p (refusedStation (s.line.at p) code) = (refusedBase s p code).endFeed :=
      withdrawIfNotReady_ends (s := refusedBase s p code) hg hpos hq (by rw [hat]; simp [refusedStation])
    rw [hfeed, hends]
    exact (endFeed_spec (s := refusedBase s p code) hg).1
  · have hstands : s.freeLine.changeStation p (refusedStation (s.line.at p) code) = refusedBase s p code := by
      refine withdrawIfNotReady_stands (s := refusedBase s p code) fun f hf hpos hq => ?_
      obtain rfl : g = f := Option.some.inj (hg.symm.trans hf)
      rcases hno with hno | hno
      · exact absurd hpos hno
      · exact absurd hq hno
    rw [hfeed, hstands]
    exact hg

theorem refusedReported_faulted (hx : (s.line.at p).state = .faulted) :
    refusedReported s p code =
      ((headOperation (s.line.at p).operation).map (refusedBase s p code).operationFailed).getD (refusedBase s p code) :=
  if_pos hx

theorem refusedReported_fault (hx : (s.line.at p).state ≠ .faulted) :
    refusedReported s p code = (refusedBase s p code).headStationFault (headOperation (s.line.at p).operation) :=
  if_neg hx

theorem touches_refused_faulted (hx : (s.line.at p).state = .faulted) :
    Touches failBlocks [.entryFailed, .courseClosed] s (refusedReported s p code) := by
  obtain ⟨-, -, -, -, hbase, -⟩ := refusedBase_frame s p code
  rw [refusedReported_faulted hx]
  cases headOperation (s.line.at p).operation with
  | none => exact hbase.mono
  | some c => exact hbase.mono.trans (touches_operationFailed _ c)

theorem touches_refusedReported (s : State) (p : Position) (code : Half) :
    Touches haltBlocks [.headStation, .halted, .entryFailed, .courseClosed] s (refusedReported s p code) := by
  obtain ⟨-, -, -, -, hbase, -⟩ := refusedBase_frame s p code
  by_cases hx : (s.line.at p).state = .faulted
  · exact (touches_refused_faulted hx).mono
  · rw [refusedReported_fault hx]
    exact hbase.mono.trans (touches_headStationFault _ _)

/-- The report leaves the station, the line and the profile as they are. -/
theorem refusedReported_line (hp : isFeederPosition p = false) :
    (refusedReported s p code).line.at p = refusedStation (s.line.at p) code ∧
      (refusedReported s p code).line.transaction = none ∧ (refusedReported s p code).seq.profile = s.seq.profile := by
  obtain ⟨-, -, hat, -, -, r1, -, r3, -⟩ := refusedBase_frame s p code
  by_cases hx : (s.line.at p).state = .faulted
  · rw [refusedReported_faulted hx]
    cases headOperation (s.line.at p).operation with
    | none => exact ⟨hat, r3, r1⟩
    | some c => exact ⟨(operationFailed_at _ c hp).trans hat, by simpa using r3, by simpa using r1⟩
  · rw [refusedReported_fault hx]
    exact ⟨(headStationFault_at _ _ hp).trans hat, by simpa using r3, by simpa using r1⟩

theorem refused_served {d : StationCommand} (hd : headOperation (s.line.at p).operation = some d) :
    ServedAttemptFails s d (finish s ((refusedReported s p code).schedulePoll p false)) := by
  obtain ⟨hhead, -, -, hstart, -⟩ := refusedBase_frame s p code
  refine servedAttemptFails_from hhead hstart ?_
  by_cases hx : (s.line.at p).state = .faulted
  · refine servedAttemptFails_failed s (refusedBase s p code) d ?_
    rw [refusedReported_faulted hx, hd]
    exact lineTail_setStation _ p _
  · refine servedAttemptFails_fault s (refusedBase s p code) d ?_
    rw [refusedReported_fault hx, hd]
    exact lineTail_setStation _ p _

/-- A head station that becomes FAULTED, or stays so, by a refused poll. -/
theorem head_refused (h : PollRefused s p bytes code) (hp : isFeederPosition p = false) :
    ∃ t, exec (.queryReply bytes) s = .next t ∧ t.line.transaction = none ∧ (t.line.at p).state = .faulted ∧
      (t.line.at p).operation = .none ∧ (t.line.at p).lastError = code ∧ (t.line.at p).retry = false ∧
      (t.line.at p).hold = none ∧ PollScheduled p s t ∧ (t.line.at p).deferred = (s.line.at p).deferred ∧
      ((s.line.at p).state ≠ .faulted → hasCause t .headStation = true ∧ HaltRequested s t) ∧
      ((s.line.at p).state = .faulted → t.control = s.control ∧ hasCause t .headStation = hasCause s .headStation) ∧
      (∀ c, (s.line.at p).operation = .command c → ServedAttemptFails s c t) ∧
      KeptBut haltBlocks s t ∧ CausesKeptBut [.headStation, .halted, .entryFailed, .courseClosed] s t := by
  have hcontrol := (refusedBase_frame s p code).2.1
  have htouch := touches_refusedReported s p code
  obtain ⟨hat, hline, hseq⟩ := refusedReported_line (s := s) (code := code) hp
  obtain ⟨h1, h2, h3⟩ := Replied.ended (p := p) (s := s) (u := refusedReported s p code)
    ⟨hseq, htouch.frame .time (by decide), hline, by rw [hat]; rfl, by rw [hat]; rfl⟩
  rw [hat] at h2
  have hexec := exec_poll_refused h
  rw [queryError_head hp] at hexec
  refine ⟨_, hexec, h1, by rw [h2]; rfl, by rw [h2]; rfl, by rw [h2]; rfl, by rw [h2]; rfl, by rw [h2]; rfl, h3,
    by rw [h2]; rfl, fun hx => ?_, fun hx => ?_, fun c hc => servedAttempt_outstanding hc fun d hd => refused_served hd,
    (htouch.trans (touches_schedulePoll _ p false).mono).closed⟩
  · obtain ⟨hcause, hhalt⟩ := fault_closed s (refusedBase s p code) (headOperation (s.line.at p).operation)
      (w := (refusedReported s p code).schedulePoll p false) (by
        rw [refusedReported_fault hx]
        exact lineTail_setStation _ p _)
    exact ⟨hcause, haltRequested_from hcontrol hhalt⟩
  · obtain ⟨hk, hc⟩ := ((touches_refused_faulted (code := code) hx).trans (touches_schedulePoll _ p false).mono).closed
    exact ⟨hk .control (by decide), hc.1 _ (by decide) (by decide)⟩

end

/-- Settles O34: a feeder's poll, a head station's without and with a command held back, and a poll refused. -/
theorem pollReplySetsTheStation : Obligations.PollReplySetsTheStation := by
  refine ⟨fun f p bytes d s hp h hdef => feeder_polled h (hp ▸ feederPosition_isFeeder f) hdef,
    fun p bytes d s h hp => head_polled h hp, fun p c bytes d s h => deferred_polled h, fun p bytes code s h => ?_⟩
  cases hp : isFeederPosition p with
  | true =>
    obtain ⟨t, h0, h1, h2, h3, h4, h5, h6, h7, hrest⟩ := feeder_refused h hp
    exact ⟨t, h0, h1, h2, h3, h4, h5, h6, h7, fun _ => hrest, fun hc => absurd hc (by simp)⟩
  | false =>
    obtain ⟨t, h0, h1, h2, h3, h4, h5, h6, h7, hrest⟩ := head_refused h hp
    exact ⟨t, h0, h1, h2, h3, h4, h5, h6, h7, fun hc => absurd hc (by simp), fun _ => hrest⟩

end Sys2Proof
end

section
/-! SUPPORT. Head operations reported DONE (8.3, 8.4, 8.10): SPREAD, TAKE and EJECT. -/

namespace Sys2Proof

open Sys2Proof.Machine

/-! ### A head operation reported DONE -/

/-- The status of a station that reports an operation DONE with a result. -/
def doneStatus (c : StationCommand) (n : Half) : QueryData := ⟨.done, commandCode c, n, 0, 0⟩

/-- The poll that reports the operation has been handled, but for the operation itself. -/
def doneBase (s : State) (p : Position) (c : StationCommand) (n : Half) : State := pollBase s p (doneStatus c n)

theorem doneBase_frame (s : State) (p : Position) (c : StationCommand) (n : Half) :
    (doneBase s p c n).head = s.head ∧ (doneBase s p c n).trim = s.trim ∧ (doneBase s p c n).issue = s.issue ∧
      (doneBase s p c n).seq = s.seq ∧ (doneBase s p c n).time = s.time ∧ (doneBase s p c n).tracker = s.tracker ∧
      (doneBase s p c n).book.cells = s.book.cells ∧ SameStart s (doneBase s p c n) ∧
      Touches [.line] [] s (doneBase s p c n) := by
  obtain ⟨hhead, -, -, -, hstart, htouch⟩ := pollBase_frame s p (doneStatus c n)
  exact ⟨hhead, rfl, rfl, rfl, rfl, rfl, rfl, hstart, htouch⟩

section
variable {s : State} {p : Position} {c : StationCommand} {n : Half} {bytes : List Byte}

theorem doneStatus_well (h : ReportsDone s p c bytes n) (hn : c = .probe → n.toNat ≤ 600) :
    EndsWell s p (doneStatus c n) := .inr (.inr ⟨c, h.2.1, rfl, rfl, hn⟩)

/-- An operation reported DONE is completed, and its station READY. -/
theorem exec_done (h : ReportsDone s p c bytes n) (hn : c = .probe → n.toNat ≤ 600) :
    exec (.queryReply bytes) s =
        answer s (((doneBase s p c n).operationDone c n.toNat).schedulePoll p false) ∧
      ((finish s (((doneBase s p c n).operationDone c n.toNat).schedulePoll p false)).line.at p).state = .ready ∧
      ((finish s (((doneBase s p c n).operationDone c n.toNat).schedulePoll p false)).line.at p).operation = .none := by
  obtain ⟨⟨hpoll, hnone⟩, hop, hp⟩ := id h
  have hnoad : NoAdoption s p (doneStatus c n) := noAdoption_of_deferred (.inl hnone)
  have hwell := doneStatus_well h hn
  obtain ⟨w1, -, w2, -, w3⟩ := answeredStation_well hnoad hwell
  have hready := (w3 (holdSeconds_head hp _)).1
  have hcomp : (settlement s p (doneStatus c n)).completed = some c := by
    rw [(settlement_well hnoad hwell).1, hop]
    rfl
  have hreport : pollReported s p (doneStatus c n) = (doneBase s p c n).operationDone c n.toNat :=
    pollReported_done hp (by rw [hready]; simp) hcomp
  obtain ⟨-, hst, -⟩ := poll_station (s := s) (d := doneStatus c n) hp
  rw [hreport] at hst
  refine ⟨?_, by rw [hst]; exact hready, by rw [hst]; exact w1⟩
  rw [← hreport]
  exact poll_ended hpoll hp (.inl (w2.trans hnone))

/-- What a completed operation touches, as its command is closed. -/
theorem done_closed {bs : List Block} {cs : List Cause} {w : State} (h : Touches bs cs (doneBase s p c n) w)
    (hb : Block.line ∈ bs := by decide) :
    KeptBut bs s (finish s (w.schedulePoll p false)) ∧ CausesKeptBut cs s (finish s (w.schedulePoll p false)) := by
  have hline : ∀ x, x ∈ [Block.line] → x ∈ bs := fun x hx => by rwa [List.mem_singleton.1 hx]
  have hbase := (doneBase_frame s p c n).2.2.2.2.2.2.2.2
  exact (((hbase.mono hline (List.nil_subset _)).trans h).trans
    ((touches_schedulePoll w p false).mono hline (List.nil_subset _))).closed

theorem head_closed (s w : State) (p : Position) : (finish s (w.schedulePoll p false)).head = w.head := by
  rw [(finish_frame s _).2.2.2.2.2.2.2.2.2.2.2.1]
  rfl

end

/-! ### SPREAD (R149) -/

theorem spreadDone_entry {s : State} {i : EntryIx} (h : s.head.bay.content = .entry i) :
    s.spreadDone = s.putHead { s.head with bay := { s.head.bay with state := .spread, openTimer := some 0 } } := by
  unfold State.spreadDone
  dsimp only
  rw [h]

theorem spreadDone_void {s : State} {f : Option EntryIx} (h : s.head.bay.content = .void f) :
    s.spreadDone = s.putHead { s.head with bay := { s.head.bay with state := .spread, openTimer := none } } := by
  unfold State.spreadDone
  dsimp only
  rw [h]

theorem spread_entry_done {i : EntryIx} {bytes : List Byte} {n : Half} {s : State} (h : ReportsDone s .spreader .spread bytes n)
    (hi : s.head.bay.content = .entry i) :
    ∃ t, exec (.queryReply bytes) s = .next t ∧ (t.line.at .spreader).state = .ready ∧
      (t.line.at .spreader).operation = .none ∧
      t.head = { s.head with bay := { s.head.bay with state := .spread, openTimer := some 0 } } ∧
      KeptBut [.line, .head] s t ∧ CausesKeptBut [] s t := by
  obtain ⟨hexec, h1, h2⟩ := exec_done h (by simp)
  refine ⟨_, hexec, h1, h2, ?_, done_closed (touches_spreadDone _).mono⟩
  rw [head_closed]
  exact congrArg State.head (spreadDone_entry (s := doneBase s .spreader .spread n) hi)

theorem spread_void_done {f : Option EntryIx} {bytes : List Byte} {n : Half} {s : State}
    (h : ReportsDone s .spreader .spread bytes n) (hf : s.head.bay.content = .void f) :
    ∃ t, exec (.queryReply bytes) s = .next t ∧
      t.head = { s.head with bay := { s.head.bay with state := .spread, openTimer := none } } ∧
      KeptBut [.line, .head] s t ∧ CausesKeptBut [] s t := by
  obtain ⟨hexec, -, -⟩ := exec_done h (by simp)
  refine ⟨_, hexec, ?_, done_closed (touches_spreadDone _).mono⟩
  rw [head_closed]
  exact congrArg State.head (spreadDone_void (s := doneBase s .spreader .spread n) hf)

/-! ### EJECT (R165, R166) -/

theorem ejectDone_head (s : State) (place : HeadPlace) :
    (place = .bay → (s.ejectDone place).head.bay = .cleared ∧ (s.ejectDone place).head.gripper = s.head.gripper) ∧
      (place = .gripper → (s.ejectDone place).head.gripper = .cleared ∧ (s.ejectDone place).head.bay = s.head.bay) := by
  have hcount : s.countEject.head.gripper = s.head.gripper ∧ s.countEject.head.bay = s.head.bay := by
    unfold State.countEject
    dsimp only
    split <;> exact ⟨rfl, rfl⟩
  cases place with
  | bay => exact ⟨fun _ => ⟨rfl, hcount.1⟩, fun h => absurd h (by decide)⟩
  | gripper => exact ⟨fun h => absurd h (by decide), fun _ => ⟨rfl, hcount.2⟩⟩

theorem ejectDone_full {s : State} (place : HeadPlace) (h : s.head.binCount = 11) :
    hasCause (s.ejectDone place) .binFull = true := by
  have hcount : hasCause s.countEject .binFull = true := by
    unfold State.countEject
    dsimp only
    rw [h, if_pos (by rfl)]
    simp
  have hput : ∀ x, hasCause (s.countEject.putHead x) .binFull = true := fun x => (hasCause_congr rfl _).trans hcount
  cases place
  all_goals exact hput _

theorem eject_done {place : HeadPlace} {bytes : List Byte} {n : Half} {s : State}
    (h : ReportsDone s .gripper (.eject place) bytes n) :
    ∃ t, exec (.queryReply bytes) s = .next t ∧ t.head.binCount = s.head.binCount + 1 ∧
      (place = .bay → t.head.bay = .cleared ∧ t.head.gripper = s.head.gripper) ∧
      (place = .gripper → t.head.gripper = .cleared ∧ t.head.bay = s.head.bay) ∧
      (s.head.binCount = 11 → hasCause t .binFull = true) ∧ KeptBut [.line, .head] s t ∧
      CausesKeptBut [.binFull] s t := by
  obtain ⟨hexec, -, -⟩ := exec_done h (by simp)
  obtain ⟨hbay, hgripper⟩ := ejectDone_head (doneBase s .gripper (.eject place) n) place
  refine ⟨_, hexec, ?_, ?_, ?_, fun hfull => ?_, done_closed (touches_ejectDone _ place).mono⟩
  · rw [head_closed]
    exact ejectDone_count _ place
  · rw [head_closed]
    exact hbay
  · rw [head_closed]
    exact hgripper
  · exact hasCause_finish_raised s ((hasCause_congr rfl _).trans
      (ejectDone_full (s := doneBase s .gripper (.eject place) n) place hfull))

/-! ### TAKE (R151) -/

theorem take_void_done {f : Option EntryIx} {bytes : List Byte} {n : Half} {s : State}
    (h : ReportsDone s .gripper .take bytes n) (hf : s.head.gripper.content = .void f) :
    ∃ t, exec (.queryReply bytes) s = .next t ∧
      t.head = { s.head with
        bay := .cleared
        gripper := { Gripper.cleared with
          state := .holding, content := .void f, brick := true, openTimer := s.head.bay.openTimer }
        lastTransit := (s.head.bay.rootTime.map fun root => s.time - root).getD s.head.lastTransit } ∧
      KeptBut [.line, .head] s t ∧ CausesKeptBut [] s t := by
  obtain ⟨hexec, -, -⟩ := exec_done h (by simp)
  have htake : (doneBase s .gripper .take n).takeDone =
      (((doneBase s .gripper .take n).moveToGripper (.void f)).stampTransit s.head.bay.rootTime).showHead := by
    rw [takeDone_void (s := doneBase s .gripper .take n) fun i hi => by cases hf.symm.trans hi]
    change (((doneBase s .gripper .take n).moveToGripper s.head.gripper.content).stampTransit
      s.head.bay.rootTime).showHead = _
    rw [hf]
  rw [show (doneBase s .gripper .take n).operationDone .take n.toNat = (doneBase s .gripper .take n).takeDone from rfl,
    htake] at hexec
  refine ⟨_, hexec, ?_, done_closed
    (((touches_withHead _ _).mono.trans (touches_stampTransit _ _).mono).trans (touches_showHead _).mono)⟩
  rw [head_closed]
  unfold State.stampTransit
  cases s.head.bay.rootTime <;> rfl

section
variable {r : IssueRecord} {root : Word} {s : State}

/-- An entry's brick taken over: what its attempt starts from. -/
theorem takenOver_starts (hw : BookWf s) (hd : DistinctEntries s) (hr : r ∈ s.issue.list)
    (he : s.entryState r.entry = some .head) :
    BookWf (takenOver s r.entry) ∧ DistinctEntries (takenOver s r.entry) ∧
      atGripper r ∈ (takenOver s r.entry).issue.list ∧ SameCourses s (takenOver s r.entry) ∧
      (takenOver s r.entry).entryState r.entry = some .placing ∧
      field ((takenOver s r.entry).word (entryAddr r.entry 10)) 0 16 = signed16 s.activeZc ∧
      (takenOver s r.entry).issue.list = listAtGripper s r.entry ∧
      (takenOver s r.entry).trim = s.trim.beginAttempt r s.activeZc ∧
      BytesKeptOutside [(entryAddr r.entry 0, 4), (entryAddr r.entry 10, 4)] s (takenOver s r.entry) := by
  have hmoved : SameCourses s (s.moveToGripper (.entry r.entry)) := .of_book rfl rfl rfl (hasCause_congr rfl _)
  obtain ⟨hww, hplacing, hten, -, hbytes⟩ := started_entry (s := s.moveToGripper (.entry r.entry)) (r := r) (e := .head)
    (zc := s.activeZc) hw he
  obtain ⟨hlist, htrim, -, hwd, hwm⟩ := started_record (s := s.moveToGripper (.entry r.entry)) (r := r) (e := .head)
    (zc := s.activeZc) hd hr
  have hsame := hmoved.trans (sameCourses_started (s := s.moveToGripper (.entry r.entry)) hw he (r := r) rfl s.activeZc)
  have hcells : (takenOver s r.entry).book.cells =
      (started (s.moveToGripper (.entry r.entry)) r.entry .head s.activeZc).book.cells := by
    unfold takenOver State.stampTransit
    split <;> rfl
  have hframe : (takenOver s r.entry).issue = (started (s.moveToGripper (.entry r.entry)) r.entry .head s.activeZc).issue ∧
      (takenOver s r.entry).trim = (started (s.moveToGripper (.entry r.entry)) r.entry .head s.activeZc).trim := by
    unfold takenOver State.stampTransit
    split <;> exact ⟨rfl, rfl⟩
  have htail : SameCourses (started (s.moveToGripper (.entry r.entry)) r.entry .head s.activeZc) (takenOver s r.entry) := by
    have htouch : Touches [.head] [] (started (s.moveToGripper (.entry r.entry)) r.entry .head s.activeZc)
        (takenOver s r.entry) := (touches_stampTransit _ _).trans (touches_showHead _).mono
    exact .of_book hcells (htouch.frame .seq (by decide)) (htouch.frame .time (by decide))
      (htouch.causes.others _ (by decide))
  refine ⟨?_, ?_, ?_, hsame.trans htail, ?_, ?_, ?_, hframe.2.trans htrim, bytesKept_congr hbytes hcells⟩
  · unfold BookWf
    rw [hcells]
    exact hww
  · unfold DistinctEntries
    rw [hframe.1]
    exact hwd
  · rw [hframe.1]
    exact hwm
  · exact (State.entryState_congr (State.word_congr hcells _)).trans hplacing
  · rw [State.word_congr hcells]
    exact hten
  · rw [hframe.1]
    exact hlist

theorem lossFails_congr {t : State} (ht : t.tracker = s.tracker) (hs : t.seq = s.seq) : LossFails t ↔ LossFails s := by
  unfold LossFails
  rw [ht, hs]

/-- Setting the next poll due is none of an entry's business. -/
theorem entryStands_scheduled (i : EntryIx) (s w : State) (p : Position) :
    EntryStands i (finish s w) (finish s (w.schedulePoll p false)) := by
  refine .of_book (by simp [State.schedulePoll]) ?_ (by simp [State.schedulePoll])
  rw [hasCause_finish_of_ne s _ (by decide), hasCause_finish_of_ne s _ (by decide)]
  exact hasCause_congr rfl _

/-- What loss recovery makes of an attempt whose brick the gripper has just taken. -/
theorem recoverIfLost_lastTransit (s : State) : s.recoverIfLost.head.lastTransit = s.head.lastTransit := by simp

theorem take_entry_done {bytes : List Byte} {n : Half} (hw : BookWf s) (hd : DistinctEntries s)
    (h : ReportsDone s .gripper .take bytes n) (hr : r ∈ s.issue.list) (hc : s.head.gripper.content = .entry r.entry)
    (he : s.entryState r.entry = some .head) (hroot : s.head.bay.rootTime = some root) :
    ∃ t, exec (.queryReply bytes) s = .next t ∧ t.head.bay = .cleared ∧ t.head.lastTransit = s.time - root ∧
      (¬LossFails s →
        t.entryState r.entry = some .placing ∧
        field (t.word (entryAddr r.entry 10)) 0 16 = signed16 s.activeZc ∧
        t.head = { s.head with
          bay := .cleared, lastTransit := s.time - root, restartTimer := restartAtStart s
          gripper := { Gripper.cleared with
            state := .holding, content := .entry r.entry, brick := true, openTimer := s.head.bay.openTimer } } ∧
        t.issue.list = s.issue.list.map (fun x => if x.entry = r.entry then { x with location := .gripper } else x) ∧
        t.trim = { s.trim with
          attempt := some ⟨r.entry, r.kind, r.hold, r.target, s.activeZc, false, false⟩, settleCount := 0, tally := 0
          settleSample := none, settleTimer := some 0, saturated := 0, reach := none } ∧
        BytesKeptOutside [(entryAddr r.entry 0, 4), (entryAddr r.entry 10, 4)] s t ∧
        KeptBut [.bytes, .list, .line, .trim, .head] s t ∧ CausesKeptBut [] s t) ∧
      (LossFails s →
        t.trim.attempt = none ∧ t.head.gripper.state = .holding ∧ t.head.gripper.content = .void (some r.entry) ∧
          t.head.gripper.brick = true ∧ (¬UnderCloseRequest s r.entry → AttemptFailed r .trackLost s t)) := by
  obtain ⟨hexec, -, -⟩ := exec_done h (by simp)
  obtain ⟨hhead, htrim, hissue, hseq, htime, htracker, hcells, hstart, hbase⟩ := doneBase_frame s .gripper .take n
  rw [show (doneBase s .gripper .take n).operationDone .take n.toNat = (doneBase s .gripper .take n).takeDone from rfl,
    takeDone_entry (s := doneBase s .gripper .take n) (i := r.entry) hc] at hexec
  have hbay := takeDone_bay (doneBase s .gripper .take n)
  rw [takeDone_entry (s := doneBase s .gripper .take n) (i := r.entry) hc] at hbay
  obtain ⟨hww, hwd, hwm, hsame, hplacing, hten, hlist, hbegun, hbytes⟩ :=
    takenOver_starts (s := doneBase s .gripper .take n) (r := r) hw hd hr he
  have htaken := takenOver_head (doneBase s .gripper .take n) r.entry
  have htouch : Touches [.bytes, .list, .line, .trim, .head] [] s (takenOver (doneBase s .gripper .take n) r.entry) :=
    hbase.mono.trans (touches_takenOver _ _).mono
  rw [show (doneBase s .gripper .take n).activeZc = s.activeZc from rfl] at hten hbegun
  rw [show listAtGripper (doneBase s .gripper .take n) r.entry = listAtGripper s r.entry from rfl] at hlist
  have hsame' : SameCourses s (takenOver (doneBase s .gripper .take n) r.entry) := hstart.courses.trans hsame
  have hbytes' := bytesKept_trans (bytesKept_of_cells hcells) hbytes
  rw [hhead, hroot, htime] at htaken
  generalize takenOver (doneBase s .gripper .take n) r.entry = w at *
  have hst : w.head.gripper.state = .holding := by rw [htaken]
  have hi : w.head.gripper.content = .entry r.entry := by rw [htaken]
  have hwtracker : w.tracker = s.tracker := htouch.frame .tracker (by decide)
  have hlost := lossFails_congr hwtracker hsame'.seq
  have hrestart : restartAtStart w = restartAtStart s := by
    unfold restartAtStart
    rw [hwtracker, hsame'.seq, htaken]
  have hfailed : hasCause w .entryFailed = hasCause s .entryFailed := htouch.causes.others _ (by decide)
  refine ⟨_, hexec, ?_, ?_, fun hno => ?_, fun hl => ?_⟩
  · rw [head_closed]
    exact hbay
  · rw [head_closed, recoverIfLost_lastTransit, htaken]
    rfl
  · rw [recoverIfLost_stands (mt hlost.1 hno) hst hi, hrestart]
    refine ⟨?_, ?_, ?_, ?_, ?_, ?_,
      ((htouch.trans (touches_withHead _ _).mono).trans (touches_schedulePoll _ .gripper false).mono).closed⟩
    · rw [entryState_finish]
      exact hplacing
    · rw [word_finish]
      exact hten
    · rw [head_closed, htaken]
      rfl
    · rw [show ∀ u, (finish s u).issue.list = u.issue.list from fun u => by simp]
      exact hlist
    · rw [(finish_frame s _).2.2.2.2.2.2.2.2.2.2.1]
      exact hbegun
    · exact bytesKept_finish s (bytesKept_congr hbytes' rfl)
  · rw [recoverIfLost_fails (hlost.2 hl) hst hi]
    obtain ⟨⟨ha, -, -, hgr⟩, hfail⟩ := started_fails hww hwd hwm hsame' hfailed hst hi
    rw [(finish_frame s _).2.2.2.2.2.2.2.2.2.2.2.1, htaken] at hgr
    have htrimmed := (finish_frame s (w.failAttempt r.entry .trackLost)).2.2.2.2.2.2.2.2.2.2.1
    rw [head_closed, hgr, (finish_frame s _).2.2.2.2.2.2.2.2.2.2.1]
    exact ⟨(congrArg Trim.attempt htrimmed.symm).trans ha, rfl, rfl, rfl,
      fun hn => (hfail hn).stands (entryStands_scheduled _ s _ .gripper)⟩

end

/-- Settles O46, by the operation and the content. -/
theorem headOperationsMoveTheBrick : Obligations.HeadOperationsMoveTheBrick :=
  ⟨fun _ _ _ _ h hi => spread_entry_done h hi, fun _ _ _ _ h hf => spread_void_done h hf,
    fun _ _ _ _ _ hw hd h hr hc he hroot => take_entry_done hw hd h hr hc he hroot,
    fun _ _ _ _ h hf => take_void_done h hf, fun _ _ _ _ h => eject_done h⟩

end Sys2Proof
end

section
/-! SUPPORT. Bricks laid (8.5): the fields written for the entry, its count and the gripper. -/

namespace Sys2Proof

open Sys2Proof.Machine

/-! ### Signed fields -/

theorem fieldSigned_eq (v : Word) (lo : Nat) : fieldSigned v lo = (BitVec.ofNat 16 (field v lo 16)).toInt := by
  unfold fieldSigned field
  rw [BitVec.ofNat_toNat, BitVec.setWidth_eq]

theorem signed16_lt (x : Int) : signed16 x < 65536 := BitVec.isLt _

theorem toInt_signed16 {x : Int} (h1 : -32768 ≤ x) (h2 : x ≤ 32767) : (BitVec.ofNat 16 (signed16 x)).toInt = x := by
  unfold signed16
  rw [BitVec.ofNat_toNat, BitVec.setWidth_eq, BitVec.toInt_ofInt]
  exact Int.bmod_eq_of_le (by omega) (by omega)

theorem fieldSigned_packHalves {x y : Int} (hx : -32768 ≤ x ∧ x ≤ 32767) (hy : -32768 ≤ y ∧ y ≤ 32767) :
    fieldSigned (packHalves (signed16 x) (signed16 y)) 0 = x ∧ fieldSigned (packHalves (signed16 x) (signed16 y)) 16 = y := by
  rw [fieldSigned_eq, fieldSigned_eq, field_packHalves_low _ _ (signed16_lt x), field_packHalves_high _ _ (signed16_lt y)]
  exact ⟨toInt_signed16 hx.1 hx.2, toInt_signed16 hy.1 hy.2⟩

theorem fieldSigned_ofNat {x : Int} (hx : -32768 ≤ x ∧ x ≤ 32767) : fieldSigned (BitVec.ofNat 32 (signed16 x)) 0 = x := by
  have hlow : field (BitVec.ofNat 32 (signed16 x)) 0 16 = signed16 x := by
    rw [field_eq, BitVec.toNat_ofNat]
    have := signed16_lt x
    omega
  rw [fieldSigned_eq, hlow]
  exact toInt_signed16 hx.1 hx.2

theorem toInt_ofInt_word {x : Int} (h1 : -2000000 ≤ x) (h2 : x ≤ 2000000) : (BitVec.ofInt 32 x).toInt = x := by
  rw [BitVec.toInt_ofInt]
  exact Int.bmod_eq_of_le (by omega) (by omega)

/-! ### Words of an entry -/

theorem setWord_entryWord {s : State} (hw : BookWf s) (i : EntryIx) (v : Word) {j k : Nat} (hj : j < 16) :
    (s.setWord (entryAddr i j) v).word (entryAddr i k) = if k = j then v else s.word (entryAddr i k) := by
  split
  · rename_i h
    rw [h]
    exact State.word_setWord s _ _ hw (entryAddr_fits i j hj)
  · rename_i h
    refine State.word_of_read fun x h1 h2 => State.read_setWord_ne s _ x _ hw (entryAddr_fits i j hj) ?_
    unfold entryAddr at *
    omega

theorem bytesKept_setEntryWord {s : State} (hw : BookWf s) (i : EntryIx) (v : Word) {j : Nat} (h8 : 8 ≤ j) (h12 : j ≤ 12) :
    BytesKeptOutside [(entryAddr i 8, 20)] s (s.setWord (entryAddr i j) v) := fun x hx => by
  refine State.read_setWord_ne s _ x _ hw (entryAddr_fits i j (by omega)) ?_
  have := hx _ (List.mem_singleton_self _)
  unfold entryAddr at *
  omega

/-- The result fields of an entry have been written, words 8 to 12, and nothing else. -/
structure Written (i : EntryIx) (s w : State) : Prop where
  wf : BookWf w
  bytes : BytesKeptOutside [(entryAddr i 8, 20)] s w
  seq : w.seq = s.seq
  time : w.time = s.time
  host : w.host = s.host

theorem Written.refl {s : State} (hw : BookWf s) (i : EntryIx) : Written i s s := ⟨hw, bytesKept_refl _ _, rfl, rfl, rfl⟩

theorem Written.setWord {i : EntryIx} {s w : State} (h : Written i s w) (v : Word) {j : Nat} (h8 : 8 ≤ j) (h12 : j ≤ 12) :
    Written i s (w.setWord (entryAddr i j) v) :=
  ⟨State.setWord_wf w _ v (entryAddr_fits i j (by omega)) h.wf, bytesKept_trans h.bytes (bytesKept_setEntryWord h.wf i v h8 h12),
    h.seq, h.time, h.host⟩

theorem Written.same {i : EntryIx} {s w : State} (h : Written i s w) : SameCourses s w :=
  .of_bytes h.bytes (by simp only [List.mem_singleton, forall_eq, entryAddr]; omega) h.seq h.time (by rw [h.host])

theorem Written.word {i : EntryIx} {s w : State} (h : Written i s w) {j : Nat} (hj : j < 8) :
    w.word (entryAddr i j) = s.word (entryAddr i j) :=
  h.bytes.word (by simp only [List.mem_singleton, forall_eq, entryAddr]; omega)

/-! ### An entry that ends at the gripper (R154, R156) -/

/-- The entry has ended, its record has left the list, and the gripper is EMPTY. -/
def endedAtGripper (w : State) (i : EntryIx) (e : EntryState) : State :=
  (((w.finishEntry i e .done).removeRecord i).countTerminal i e).clearGripper

theorem endedAtGripper_eq (w : State) (i : EntryIx) (e : EntryState) :
    endedAtGripper w i e = (((w.removeRecord i).finishEntry i e .done).countTerminal i e).clearGripper := rfl

/-- What is left where the command is closed. -/
def placedEnd (s w : State) (i : EntryIx) (e : EntryState) : State :=
  finish s ((endedAtGripper w i e).schedulePoll .gripper false)

section
variable {s w : State} {i : EntryIx} {e : EntryState}

theorem endedAtGripper_book (w : State) (i : EntryIx) (e : EntryState) :
    (endedAtGripper w i e).book.cells = (((w.removeRecord i).finishEntry i e .done).countTerminal i e).book.cells ∧
      (endedAtGripper w i e).seq = (((w.removeRecord i).finishEntry i e .done).countTerminal i e).seq ∧
      (endedAtGripper w i e).time = (((w.removeRecord i).finishEntry i e .done).countTerminal i e).time := by
  rw [endedAtGripper_eq]
  exact ⟨by simp, by simp, by simp⟩

theorem removeRecord_finishEntry (w : State) (i : EntryIx) (e : EntryState) (r : ResultCode) :
    (w.removeRecord i).finishEntry i e r = (w.finishEntry i e r).removeRecord i := rfl

/-- Counting reads nothing of the list. -/
theorem countedFigures_removeRecord (u : State) (k : Slot) (i : EntryIx) (e : EntryState) :
    (u.removeRecord i).countedFigures k i e = u.countedFigures k i e := rfl

/-- The entry that ends, as the command is closed. -/
theorem ended_placed (hw : BookWf w) (old : State) (i : EntryIx) (e : EntryState) :
    Ended i e .done w (placedEnd old w i e) := by
  have hrem : SameCourses w (w.removeRecord i) := .of_book rfl rfl rfl (hasCause_congr rfl _)
  have hend := ended_finishEntry (s := w.removeRecord i) hw i e .done
  obtain ⟨hb, hs, ht⟩ := endedAtGripper_book w i e
  have hc : hasCause (endedAtGripper w i e) .courseClosed =
      hasCause (((w.removeRecord i).finishEntry i e .done).countTerminal i e) .courseClosed := by
    rw [endedAtGripper_eq]
    exact (touches_clearGripper _).causes.others _ (by decide)
  have hgrip := hend.after hb hs ht hc
  have hpoll : Ended i e .done (w.removeRecord i) ((endedAtGripper w i e).schedulePoll .gripper false) :=
    hgrip.after rfl rfl rfl (hasCause_congr rfl _)
  refine Ended.of_same hrem rfl (bytesKept_of_cells rfl) (fun k => ?_) (hpoll.closed old)
  rw [endedFigures, removeRecord_finishEntry, countedFigures_removeRecord, endedFigures]

theorem endedAtGripper_word (hw : BookWf w) (i : EntryIx) (e : EntryState) {j : Nat} (h8 : 8 ≤ j) (h12 : j ≤ 12)
    (old : State) : (placedEnd old w i e).word (entryAddr i j) = w.word (entryAddr i j) := by
  have hfin : BookWf ((w.removeRecord i).finishEntry i e .done) := State.finishEntry_wf (w.removeRecord i) i e .done hw
  have h1 : ((w.removeRecord i).finishEntry i e .done).word (entryAddr i j) = w.word (entryAddr i j) :=
    (bytesKept_finishEntry (s := w.removeRecord i) hw i e .done).word (by
      simp only [terminalWords, List.mem_cons, List.not_mem_nil, or_false, forall_eq_or_imp, forall_eq, entryAddr]
      omega)
  have h2 : (endedAtGripper w i e).word (entryAddr i j) = w.word (entryAddr i j) :=
    (State.word_congr (endedAtGripper_book w i e).1 _).trans ((State.countTerminal_entryWord _ i i e j hfin).trans h1)
  have h3 : ∀ v : State, (v.schedulePoll .gripper false).word (entryAddr i j) = v.word (entryAddr i j) := fun _ =>
    State.word_congr rfl _
  rw [placedEnd, word_finish, h3, h2]

/-- The list, the attempt and the head, as the command is closed. -/
theorem placedEnd_frame (s w : State) (i : EntryIx) (e : EntryState) :
    (placedEnd s w i e).issue.list = w.issue.list.filter (fun r => r.entry ≠ i) ∧
      (placedEnd s w i e).trim.attempt = none ∧
      (placedEnd s w i e).head = { w.head with gripper := .cleared, restartTimer := none } := by
  have hclear : ∀ v : State, v.clearGripper.trim.attempt = none ∧
      v.clearGripper.head = { v.head with gripper := .cleared, restartTimer := none } := fun v => by
    simp [State.clearGripper, State.endAttempt]
  refine ⟨by simp [placedEnd, endedAtGripper, State.schedulePoll, State.removeRecord], ?_, ?_⟩
  · rw [placedEnd, (finish_frame s _).2.2.2.2.2.2.2.2.2.2.1]
    exact (hclear _).1
  · rw [placedEnd, head_closed]
    refine (hclear _).2.trans ?_
    simp

end

/-- Areas that cover others. -/
theorem bytesKept_covered {l m : List (Nat × Nat)} {s t : State} (h : BytesKeptOutside l s t)
    (hc : ∀ r ∈ l, ∃ q ∈ m, q.1 ≤ r.1 ∧ r.1 + r.2 ≤ q.1 + q.2) : BytesKeptOutside m s t := fun x hx =>
  h x fun r hr => by
    obtain ⟨q, hq, h1, h2⟩ := hc r hr
    have := hx q hq
    omega

/-- What an entry's counting, and the words written before it, leave outside. -/
theorem countedBytes_placed {s v w t : State} {i : EntryIx} {e : EntryState} (hcells : v.book.cells = s.book.cells)
    (hsame : SameCourses s w) (hwr : Written i v w) (h : Ended i e .done w t) :
    CountedBytes i [(entryAddr i 0, 4), (entryAddr i 7, 28)] s t := by
  have hbefore : BytesKeptOutside [(entryAddr i 0, 4), (entryAddr i 7, 28)] s w :=
    bytesKept_trans (bytesKept_of_cells hcells) (bytesKept_covered hwr.bytes (by
      simp only [List.mem_singleton, forall_eq]
      exact ⟨(entryAddr i 7, 28), by simp, by simp only [entryAddr]; omega, by simp only [entryAddr]; omega⟩))
  have hcover : ∀ r ∈ terminalWords i, ∃ q ∈ [(entryAddr i 0, 4), (entryAddr i 7, 28)],
      q.1 ≤ r.1 ∧ r.1 + r.2 ≤ q.1 + q.2 := by
    simp only [terminalWords, List.mem_cons, List.not_mem_nil, or_false, forall_eq_or_imp, forall_eq]
    refine ⟨⟨_, .inl rfl, le_refl _, le_refl _⟩, ⟨_, .inr rfl, le_refl _, ?_⟩, ⟨_, .inr rfl, ?_, ?_⟩⟩
    all_goals simp only [entryAddr]
    all_goals omega
  refine ⟨fun hu => bytesKept_trans hbefore (bytesKept_covered (h.bytes.1 ((hsame.uncounted_iff i).2 hu)) hcover),
    fun k hk => bytesKept_trans (bytesKept_mono hbefore (List.subset_cons_self ..))
      (bytesKept_covered (h.bytes.2 k ((hsame.inActive_iff k i).2 hk)) fun r hr => ?_)⟩
  rcases List.mem_cons.1 hr with rfl | hr
  · exact ⟨_, List.mem_cons_self .., le_refl _, le_refl _⟩
  · obtain ⟨q, hq, hr⟩ := hcover r hr
    exact ⟨q, List.mem_cons_of_mem _ hq, hr⟩

/-- The figures that counting gives, from the state before the words were written. -/
theorem countsAs_placed {s w t : State} {i : EntryIx} {e : EntryState} {f : Slot → CourseFigures} (hsame : SameCourses s w)
    (h : Ended i e .done w t) (hf : ∀ k, FiguresFit (f k) → endedFigures w k i e .done = f k) : CountsAs i f s t := by
  refine ⟨fun hu => ?_, fun k hk hfit => ?_⟩
  · have hall := hsame.trans (h.uncounted ((hsame.uncounted_iff i).2 hu))
    exact ⟨hall.seq, fun k => hall.courseFigures k⟩
  · have hfig := hf k hfit
    rw [← hfig] at hfit ⊢
    exact takesFigures_of_same hsame (.refl t) (h.takes k ((hsame.inActive_iff k i).2 hk) hfit)

/-! ### RELEASE (R154, R164) -/

/-- The fields of a LAID entry have been written. -/
def laidWritten (s : State) (i : EntryIx) (d : Pose) (n : Nat) : State :=
  ((s.setDeviation i d).setSamples i n).clearProbeFields i

theorem laidWritten_frame (s : State) (i : EntryIx) (d : Pose) (n : Nat) :
    (laidWritten s i d n).issue = s.issue ∧ (laidWritten s i d n).head = s.head := by simp [laidWritten]

theorem written_laid {s : State} (hw : BookWf s) (i : EntryIx) (d : Pose) (n : Nat) :
    Written i s (laidWritten s i d n) ∧
      (laidWritten s i d n).word (entryAddr i 8) = packHalves (signed16 d.x) (signed16 d.y) ∧
      (laidWritten s i d n).word (entryAddr i 9) = packHalves (signed16 d.z) (signed16 d.yaw) ∧
      (laidWritten s i d n).word (entryAddr i 10) = putField (s.word (entryAddr i 10)) 16 16 n ∧
      (laidWritten s i d n).word (entryAddr i 11) = 0 ∧ (laidWritten s i d n).word (entryAddr i 12) = 0 := by
  unfold laidWritten State.clearProbeFields State.setSamples State.setDeviation
  have h1 := (Written.refl hw i).setWord (packHalves (signed16 d.x) (signed16 d.y)) (j := 8) (by omega) (by omega)
  have e1 := fun k => setWord_entryWord hw i (packHalves (signed16 d.x) (signed16 d.y)) (j := 8) (k := k) (by omega)
  generalize s.setWord (entryAddr i 8) _ = w1 at *
  have h2 := h1.setWord (packHalves (signed16 d.z) (signed16 d.yaw)) (j := 9) (by omega) (by omega)
  have e2 := fun k => setWord_entryWord h1.wf i (packHalves (signed16 d.z) (signed16 d.yaw)) (j := 9) (k := k) (by omega)
  generalize w1.setWord (entryAddr i 9) _ = w2 at *
  have h3 := h2.setWord (putField (w2.word (entryAddr i 10)) 16 16 n) (j := 10) (by omega) (by omega)
  have e3 := fun k => setWord_entryWord h2.wf i (putField (w2.word (entryAddr i 10)) 16 16 n) (j := 10) (k := k) (by omega)
  generalize w2.setWord (entryAddr i 10) _ = w3 at *
  have h4 := h3.setWord 0 (j := 11) (by omega) (by omega)
  have e4 := fun k => setWord_entryWord h3.wf i 0 (j := 11) (k := k) (by omega)
  generalize w3.setWord (entryAddr i 11) _ = w4 at *
  have e5 := fun k => setWord_entryWord h4.wf i 0 (j := 12) (k := k) (by omega)
  have h5 := h4.setWord 0 (j := 12) (by omega) (by omega)
  generalize w4.setWord (entryAddr i 12) _ = w5 at *
  refine ⟨h5, ?_, ?_, ?_, ?_, ?_⟩
  all_goals simp [e5, e4, e3, e2, e1]

/-- The words that counting reads of an entry stand as it ends. -/
theorem finishEntry_word {w : State} (hw : BookWf w) (i : EntryIx) (e : EntryState) (r : ResultCode) {j : Nat}
    (hj : j = 1 ∨ 8 ≤ j ∧ j ≤ 12) : (w.finishEntry i e r).word (entryAddr i j) = w.word (entryAddr i j) :=
  (bytesKept_finishEntry hw i e r).word (by
    simp only [terminalWords, List.mem_cons, List.not_mem_nil, or_false, forall_eq_or_imp, forall_eq, entryAddr]
    omega)

theorem endedFigures_laid {w : State} (hw : BookWf w) (k : Slot) (i : EntryIx) {d : Pose} (hd : DeviationFits d)
    (h8 : w.word (entryAddr i 8) = packHalves (signed16 d.x) (signed16 d.y))
    (h9 : w.word (entryAddr i 9) = packHalves (signed16 d.z) (signed16 d.yaw)) :
    endedFigures w k i .laid .done = { w.courseFigures k with
      remaining := (w.courseFigures k).remaining - 1, laid := (w.courseFigures k).laid + 1
      devSum := (w.courseFigures k).devSum + d.z
      maxX := max (w.courseFigures k).maxX (min 32767 d.x.natAbs)
      maxY := max (w.courseFigures k).maxY (min 32767 d.y.natAbs)
      maxZ := max (w.courseFigures k).maxZ (min 32767 d.z.natAbs)
      maxYaw := max (w.courseFigures k).maxYaw (min 32767 d.yaw.natAbs) } := by
  obtain ⟨hx, hy, hz, hyaw⟩ := hd
  obtain ⟨ex, ey⟩ := fieldSigned_packHalves hx hy
  obtain ⟨ez, eyaw⟩ := fieldSigned_packHalves hz hyaw
  simp only [endedFigures, State.countedFigures, State.recomputeZc, State.countIn, reduceCtorEq, false_and, if_false,
    (sameCourses_finishEntry hw i .laid .done).courseFigures k, finishEntry_word hw i .laid .done (j := 8) (by omega),
    finishEntry_word hw i .laid .done (j := 9) (by omega), h8, h9, ex, ey, ez, eyaw, deviationMagnitude]

theorem releaseDone_entry {s : State} {i : EntryIx} (h : s.head.gripper.content = .entry i) :
    s.releaseDone = endedAtGripper (laidWritten s i s.head.gripper.deviation s.head.gripper.tally) i .laid := by
  unfold State.releaseDone
  dsimp only
  rw [h]
  rfl

theorem releaseDone_void {s : State} {f : Option EntryIx} (h : s.head.gripper.content = .void f) :
    s.releaseDone = s.putHead { s.head with gripper := .cleared, lastVoidRelease := f } := by
  unfold State.releaseDone
  dsimp only
  rw [h]

theorem release_void_done {f : Option EntryIx} {bytes : List Byte} {n : Half} {s : State}
    (h : ReportsDone s .gripper .release bytes n) (hf : s.head.gripper.content = .void f) :
    ∃ t, exec (.queryReply bytes) s = .next t ∧ t.head = { s.head with gripper := .cleared, lastVoidRelease := f } ∧
      KeptBut [.line, .head] s t ∧ CausesKeptBut [] s t := by
  obtain ⟨hexec, -, -⟩ := exec_done h (by simp)
  rw [show (doneBase s .gripper .release n).operationDone .release n.toNat = (doneBase s .gripper .release n).releaseDone
    from rfl, releaseDone_void (s := doneBase s .gripper .release n) hf] at hexec
  refine ⟨_, hexec, ?_, done_closed (touches_putHead _ _).mono⟩
  rw [head_closed]
  rfl

theorem release_entry_done {i : EntryIx} {bytes : List Byte} {n : Half} {s : State} (hw : BookWf s)
    (h : ReportsDone s .gripper .release bytes n) (hi : s.head.gripper.content = .entry i)
    (hd : DeviationFits s.head.gripper.deviation) (ht : s.head.gripper.tally ≤ 65535) :
    ∃ t, exec (.queryReply bytes) s = .next t ∧ t.entryState i = some .laid ∧ ResultOf i .done s t ∧
      fieldSigned (t.word (entryAddr i 8)) 0 = s.head.gripper.deviation.x ∧
      fieldSigned (t.word (entryAddr i 8)) 16 = s.head.gripper.deviation.y ∧
      fieldSigned (t.word (entryAddr i 9)) 0 = s.head.gripper.deviation.z ∧
      fieldSigned (t.word (entryAddr i 9)) 16 = s.head.gripper.deviation.yaw ∧
      field (t.word (entryAddr i 10)) 16 16 = s.head.gripper.tally ∧
      field (t.word (entryAddr i 10)) 0 16 = field (s.word (entryAddr i 10)) 0 16 ∧
      t.word (entryAddr i 11) = 0 ∧ t.word (entryAddr i 12) = 0 ∧
      t.word (entryAddr i 13) = s.time ∧ t.issue.list = s.issue.list.filter (fun r => r.entry ≠ i) ∧
      t.trim.attempt = none ∧ t.head = { s.head with gripper := .cleared, restartTimer := none } ∧
      CountsAs i (fun k => { s.courseFigures k with
        remaining := (s.courseFigures k).remaining - 1, laid := (s.courseFigures k).laid + 1
        devSum := (s.courseFigures k).devSum + s.head.gripper.deviation.z
        maxX := max (s.courseFigures k).maxX (min 32767 s.head.gripper.deviation.x.natAbs)
        maxY := max (s.courseFigures k).maxY (min 32767 s.head.gripper.deviation.y.natAbs)
        maxZ := max (s.courseFigures k).maxZ (min 32767 s.head.gripper.deviation.z.natAbs)
        maxYaw := max (s.courseFigures k).maxYaw (min 32767 s.head.gripper.deviation.yaw.natAbs) }) s t ∧
      CountedBytes i [(entryAddr i 0, 4), (entryAddr i 7, 28)] s t ∧
      KeptBut [.bytes, .seq, .list, .line, .trim, .head] s t ∧ CausesKeptBut [.courseClosed] s t := by
  obtain ⟨hexec, -, -⟩ := exec_done h (by simp)
  obtain ⟨hhead, -, hissue, -, htime, -, hcells, hstart, -⟩ := doneBase_frame s .gripper .release n
  have htouch := done_closed (bs := [.bytes, .seq, .list, .line, .trim, .head]) (cs := [.courseClosed])
    (touches_releaseDone (doneBase s .gripper .release n)).mono
  have hvw : BookWf (doneBase s .gripper .release n) := by
    unfold BookWf
    rw [hcells]
    exact hw
  rw [show (doneBase s .gripper .release n).operationDone .release n.toNat = (doneBase s .gripper .release n).releaseDone
    from rfl] at hexec
  rw [releaseDone_entry (s := doneBase s .gripper .release n) hi, hhead] at hexec htouch
  obtain ⟨hwr, w8, w9, w10, w11, w12⟩ := written_laid hvw i s.head.gripper.deviation s.head.gripper.tally
  have hframe := laidWritten_frame (doneBase s .gripper .release n) i s.head.gripper.deviation s.head.gripper.tally
  rw [hissue, hhead] at hframe
  rw [State.word_congr hcells] at w10
  generalize laidWritten (doneBase s .gripper .release n) i s.head.gripper.deviation s.head.gripper.tally = w at *
  have hsame : SameCourses s w := hstart.courses.trans hwr.same
  have hend := ended_placed hwr.wf s i .laid
  have hword : ∀ j, 8 ≤ j → j ≤ 12 → (placedEnd s w i .laid).word (entryAddr i j) = w.word (entryAddr i j) :=
    fun j h8 h12 => endedAtGripper_word hwr.wf i .laid h8 h12 s
  obtain ⟨hlist, hattempt, hgrip⟩ := placedEnd_frame s w i .laid
  obtain ⟨hx, hy, hz, hyaw⟩ := id hd
  obtain ⟨ex, ey⟩ := fieldSigned_packHalves hx hy
  obtain ⟨ez, eyaw⟩ := fieldSigned_packHalves hz hyaw
  have hseven : w.word (entryAddr i 7) = s.word (entryAddr i 7) :=
    (hwr.word (by omega)).trans (State.word_congr hcells _)
  change _ = Host.Outcome.next (placedEnd s w i .laid) at hexec
  change KeptBut _ s (placedEnd s w i .laid) ∧ CausesKeptBut _ s (placedEnd s w i .laid) at htouch
  refine ⟨_, hexec, hend.state, ?_, ?_, ?_, ?_, ?_, ?_, ?_, ?_, ?_, hend.stamp.trans hsame.time, ?_, hattempt, ?_,
    countsAs_placed hsame hend fun k _ => ?_, countedBytes_placed hcells hsame hwr hend, htouch⟩
  · obtain ⟨hr1, hr2⟩ := hend.result
    exact ⟨hr1, hr2.trans (by rw [hseven])⟩
  · rw [hword 8 (by omega) (by omega), w8, ex]
  · rw [hword 8 (by omega) (by omega), w8, ey]
  · rw [hword 9 (by omega) (by omega), w9, ez]
  · rw [hword 9 (by omega) (by omega), w9, eyaw]
  · rw [hword 10 (by omega) (by omega), w10, field_putField (by omega)]
    omega
  · rw [hword 10 (by omega) (by omega), w10, field_putField_ne (by omega) (by omega)]
  · rw [hword 11 (by omega) (by omega), w11]
  · rw [hword 12 (by omega) (by omega), w12]
  · rw [hlist, hframe.1]
  · rw [hgrip, hframe.2]
  · rw [endedFigures_laid hwr.wf k i hd w8 w9, hsame.courseFigures k]

/-- Settles O47, by the content of the gripper. -/
theorem releaseDoneLaysTheEntry : Obligations.ReleaseDoneLaysTheEntry :=
  ⟨fun _ _ _ _ hw h hi hd ht => release_entry_done hw h hi hd ht, fun _ _ _ _ h hf => release_void_done h hf⟩

end Sys2Proof
end

section
/-! SUPPORT. Probes reported DONE (7.5, 8.6): the measured top, its count, and a stroke out of range. -/

namespace Sys2Proof

open Sys2Proof.Machine

/-- The fields of a PROBED entry have been written. -/
def probedWritten (s : State) (i : EntryIx) (top target : Int) (n : Nat) : State :=
  (((s.setProbe i top target).setSamples i n).clearDeviation i).setApplied i 0

theorem probedWritten_frame (s : State) (i : EntryIx) (top target : Int) (n : Nat) :
    (probedWritten s i top target n).issue = s.issue ∧ (probedWritten s i top target n).head = s.head := by
  simp [probedWritten]

theorem written_probed {s : State} (hw : BookWf s) (i : EntryIx) (top target : Int) (n : Nat) :
    Written i s (probedWritten s i top target n) ∧
      (probedWritten s i top target n).word (entryAddr i 8) = 0 ∧
      (probedWritten s i top target n).word (entryAddr i 9) = 0 ∧
      (probedWritten s i top target n).word (entryAddr i 10) =
        putField (putField (s.word (entryAddr i 10)) 16 16 n) 0 16 (signed16 0) ∧
      (probedWritten s i top target n).word (entryAddr i 11) = BitVec.ofInt 32 (clampInt (-2000000) 2000000 top) ∧
      (probedWritten s i top target n).word (entryAddr i 12) =
        BitVec.ofNat 32 (signed16 (clampInt (-32767) 32767 (top - target))) := by
  unfold probedWritten State.setApplied State.clearDeviation State.setSamples State.setProbe
  have h1 := (Written.refl hw i).setWord (BitVec.ofInt 32 (clampInt (-2000000) 2000000 top)) (j := 11) (by omega) (by omega)
  have e1 := fun k => setWord_entryWord hw i (BitVec.ofInt 32 (clampInt (-2000000) 2000000 top)) (j := 11) (k := k) (by omega)
  generalize s.setWord (entryAddr i 11) _ = w1 at *
  have h2 := h1.setWord (BitVec.ofNat 32 (signed16 (clampInt (-32767) 32767 (top - target)))) (j := 12) (by omega) (by omega)
  have e2 := fun k => setWord_entryWord h1.wf i (BitVec.ofNat 32 (signed16 (clampInt (-32767) 32767 (top - target))))
    (j := 12) (k := k) (by omega)
  generalize w1.setWord (entryAddr i 12) _ = w2 at *
  have h3 := h2.setWord (putField (w2.word (entryAddr i 10)) 16 16 n) (j := 10) (by omega) (by omega)
  have e3 := fun k => setWord_entryWord h2.wf i (putField (w2.word (entryAddr i 10)) 16 16 n) (j := 10) (k := k) (by omega)
  generalize w2.setWord (entryAddr i 10) _ = w3 at *
  have h4 := h3.setWord 0 (j := 8) (by omega) (by omega)
  have e4 := fun k => setWord_entryWord h3.wf i 0 (j := 8) (k := k) (by omega)
  generalize w3.setWord (entryAddr i 8) _ = w4 at *
  have h5 := h4.setWord 0 (j := 9) (by omega) (by omega)
  have e5 := fun k => setWord_entryWord h4.wf i 0 (j := 9) (k := k) (by omega)
  generalize w4.setWord (entryAddr i 9) _ = w5 at *
  have h6 := h5.setWord (putField (w5.word (entryAddr i 10)) 0 16 (signed16 0)) (j := 10) (by omega) (by omega)
  have e6 := fun k => setWord_entryWord h5.wf i (putField (w5.word (entryAddr i 10)) 0 16 (signed16 0)) (j := 10) (k := k)
    (by omega)
  generalize w5.setWord (entryAddr i 10) _ = w6 at *
  refine ⟨h6, ?_, ?_, ?_, ?_, ?_⟩
  all_goals simp [e6, e5, e4, e3, e2, e1]

/-- The figures that counting a PROBED entry gives, by APPLY and the course's correction mode. -/
def probedFigures (s : State) (i : EntryIx) (dev : Int) (k : Slot) : CourseFigures :=
  if s.entryApply i then
    { s.courseFigures k with
      remaining := (s.courseFigures k).remaining - 1, probed := (s.courseFigures k).probed + 1
      applied := (s.courseFigures k).applied + 1, appliedSum := (s.courseFigures k).appliedSum + dev
      zc := if s.courseMode k = .probe then
          computeZc ((s.courseFigures k).appliedSum + dev) ((s.courseFigures k).applied + 1) s.seq.profile.zmax
        else (s.courseFigures k).zc }
  else { s.courseFigures k with
    remaining := (s.courseFigures k).remaining - 1, probed := (s.courseFigures k).probed + 1 }

theorem endedFigures_probed {s w : State} (hw : BookWf w) (hsame : SameCourses s w) (k : Slot) (i : EntryIx) {dev : Int}
    (hk : w.kindWord i = s.kindWord i) (hd : fieldSigned (w.word (entryAddr i 12)) 0 = dev)
    (hfit : FiguresFit (probedFigures s i dev k)) :
    endedFigures w k i .probed .done = probedFigures s i dev k := by
  have hfin := sameCourses_finishEntry hw i .probed .done
  have happly : (w.finishEntry i .probed .done).entryApply i = s.entryApply i := by
    unfold State.entryApply
    rw [← hk]
    exact congrArg (fun v : Word => v.getLsbD 11) (finishEntry_word hw i .probed .done (j := 1) (by omega))
  have htwelve : fieldSigned ((w.finishEntry i .probed .done).word (entryAddr i 12)) 0 = dev := by
    rw [finishEntry_word hw i .probed .done (j := 12) (by omega), hd]
  have hfig : (w.finishEntry i .probed .done).courseFigures k = s.courseFigures k :=
    (hfin.courseFigures k).trans (hsame.courseFigures k)
  have hmode : (w.finishEntry i .probed .done).courseMode k = s.courseMode k :=
    (hfin.courseMode k).trans (hsame.courseMode k)
  have hseq : (w.finishEntry i .probed .done).seq = s.seq := hfin.seq.trans hsame.seq
  unfold endedFigures
  generalize w.finishEntry i .probed .done = u at *
  unfold State.countedFigures State.recomputeZc State.countIn
  unfold probedFigures at *
  by_cases ha : s.entryApply i = true
  · obtain ⟨-, -, ⟨hlow, hhigh⟩, -⟩ := hfit
    simp only [ha, if_true] at hlow hhigh
    by_cases hm : s.courseMode k = .probe <;>
      simp [happly, ha, hm, hmode, hfig, htwelve, State.probeZc_fits, hlow, hhigh, hseq]
  · simp [happly, ha, hfig]

theorem probeDone_entry {s : State} {i : EntryIx} {a : Attempt} {sample : Int × Int} (h : s.head.gripper.content = .entry i)
    (ha : s.trim.attempt = some a) (hs : s.trim.settleSample = some sample) (n : Nat) :
    s.probeDone n =
      endedAtGripper (probedWritten s i (measuredTop sample n) a.target.z s.head.gripper.tally) i .probed := by
  unfold State.probeDone
  dsimp only
  rw [h, ha, hs]
  rfl

theorem probeDone_void {s : State} {f : Option EntryIx} (h : s.head.gripper.content = .void f) (n : Nat) :
    s.probeDone n = s.clearGripper := by
  unfold State.probeDone
  dsimp only
  rw [h]

theorem probe_void_done {f : Option EntryIx} {bytes : List Byte} {n : Half} {s : State}
    (h : ReportsDone s .gripper .probe bytes n) (hn : n.toNat ≤ 600) (hf : s.head.gripper.content = .void f) :
    ∃ t, exec (.queryReply bytes) s = .next t ∧ (t.line.at .gripper).state = .ready ∧
      (t.line.at .gripper).operation = .none ∧ t.head = { s.head with gripper := .cleared, restartTimer := none } ∧
      t.trim.attempt = none ∧ t.trim.settleSample = none ∧ t.trim.setPoint = s.trim.setPoint ∧
      KeptBut [.line, .trim, .head] s t ∧ CausesKeptBut [] s t := by
  obtain ⟨hexec, h1, h2⟩ := exec_done h fun _ => hn
  have hdone : (doneBase s .gripper .probe n).operationDone .probe n.toNat = (doneBase s .gripper .probe n).clearGripper :=
    probeDone_void (s := doneBase s .gripper .probe n) hf n.toNat
  rw [hdone] at hexec h1 h2
  have htrim : ∀ v : State, (finish s (v.clearGripper.schedulePoll .gripper false)).trim = v.clearGripper.trim := fun v =>
    (finish_frame s _).2.2.2.2.2.2.2.2.2.2.1
  have hclear : ∀ v : State, v.clearGripper.trim.attempt = none ∧ v.clearGripper.trim.settleSample = none ∧
      v.clearGripper.trim.setPoint = v.trim.setPoint ∧
      v.clearGripper.head = { v.head with gripper := .cleared, restartTimer := none } := fun v => by
    simp [State.clearGripper, State.endAttempt]
  obtain ⟨c1, c2, c3, c4⟩ := hclear (doneBase s .gripper .probe n)
  refine ⟨_, hexec, h1, h2, ?_, ?_, ?_, ?_, done_closed (touches_clearGripper _).mono⟩
  · rw [head_closed]
    exact c4
  · rw [htrim, c1]
  · rw [htrim, c2]
  · rw [htrim]
    exact c3

/-- A stroke out of range fails the operation (R89). -/
theorem probe_out_of_range {bytes : List Byte} {n : Half} {s : State} (h : ReportsDone s .gripper .probe bytes n)
    (hn : 600 < n.toNat) (hx : (s.line.at .gripper).state ≠ .faulted) :
    ∃ t, exec (.queryReply bytes) s = .next t ∧ (t.line.at .gripper).state = .faulted ∧
      (t.line.at .gripper).lastError = errorRange ∧ ServedAttemptFails s .probe t ∧ hasCause t .headStation = true ∧
      HaltRequested s t ∧ KeptBut haltBlocks s t ∧
      CausesKeptBut [.headStation, .halted, .entryFailed, .courseClosed] s t := by
  obtain ⟨⟨hpoll, -⟩, hop, hp⟩ := h
  have hset : settlement s .gripper (doneStatus .probe n) = ⟨.none, false, none, some (some .probe, errorRange)⟩ := by
    unfold settlement settleOperation settleDone
    rw [hop]
    simp [doneStatus, hn]
  obtain ⟨hy, herr, -⟩ := settledStation_failed (p := .gripper) (x := s.line.at .gripper) (d := doneStatus .probe n)
    (r := settlement s .gripper (doneStatus .probe n)) (c := some .probe) (e := errorRange) (by rw [hset])
  obtain ⟨-, hst, -⟩ := poll_station (s := s) (d := doneStatus .probe n) hp
  obtain ⟨hcause, hhalt⟩ := poll_faults (d := doneStatus .probe n) hp hy hx
  have htouch : Touches haltBlocks [.headStation, .halted, .entryFailed, .courseClosed] s
      (pollReported s .gripper (doneStatus .probe n)) := by
    rw [pollReported_fault hp hy hx]
    exact (pollBase_frame s .gripper (doneStatus .probe n)).2.2.2.2.2.mono.trans (touches_headStationFault _ _)
  refine ⟨_, poll_ended (d := doneStatus .probe n) hpoll hp (.inr ?_), ?_, ?_, poll_served hp hy (by rw [hset]; rfl), hcause, hhalt,
    (htouch.trans (touches_schedulePoll _ .gripper false).mono).closed⟩
  · rw [answeredStation, hy]
    simp
  · rw [hst]
    exact hy
  · rw [hst]
    exact herr

theorem probe_entry_done {i : EntryIx} {a : Attempt} {gz sz top dev : Int} {bytes : List Byte} {n : Half} {s : State}
    (hw : BookWf s) (h : ReportsDone s .gripper .probe bytes n) (hn : n.toNat ≤ 600)
    (hi : s.head.gripper.content = .entry i) (ha : s.trim.attempt = some a) (hs : s.trim.settleSample = some (gz, sz))
    (ht : s.head.gripper.tally ≤ 65535) (htop : Clamped (-2000000) 2000000 (gz + sz - (n.toNat : Int)) top)
    (hdev : Clamped (-32767) 32767 (gz + sz - (n.toNat : Int) - a.target.z) dev) :
    ∃ t, exec (.queryReply bytes) s = .next t ∧ t.entryState i = some .probed ∧ ResultOf i .done s t ∧
      (t.word (entryAddr i 11)).toInt = top ∧ fieldSigned (t.word (entryAddr i 12)) 0 = dev ∧
      field (t.word (entryAddr i 10)) 16 16 = s.head.gripper.tally ∧ field (t.word (entryAddr i 10)) 0 16 = 0 ∧
      t.word (entryAddr i 8) = 0 ∧ t.word (entryAddr i 9) = 0 ∧ t.word (entryAddr i 13) = s.time ∧
      t.issue.list = s.issue.list.filter (fun r => r.entry ≠ i) ∧ t.trim.attempt = none ∧
      t.head = { s.head with gripper := .cleared, restartTimer := none } ∧
      CountsAs i (probedFigures s i dev) s t ∧
      CountedBytes i [(entryAddr i 0, 4), (entryAddr i 7, 28)] s t ∧
      KeptBut [.bytes, .seq, .list, .line, .trim, .head] s t ∧ CausesKeptBut [.courseClosed] s t := by
  obtain ⟨hexec, -, -⟩ := exec_done h fun _ => hn
  obtain ⟨hhead, -, hissue, -, -, -, hcells, hstart, -⟩ := doneBase_frame s .gripper .probe n
  have htouch := done_closed (bs := [.bytes, .seq, .list, .line, .trim, .head]) (cs := [.courseClosed])
    (touches_probeDone (doneBase s .gripper .probe n) n.toNat).mono
  have hvw : BookWf (doneBase s .gripper .probe n) := by
    unfold BookWf
    rw [hcells]
    exact hw
  have hclampTop : clampInt (-2000000) 2000000 (measuredTop (gz, sz) n.toNat) = top :=
    clamped_unique (by omega) (clamped_clampInt (by omega) _) htop
  have hclampDev : clampInt (-32767) 32767 (measuredTop (gz, sz) n.toNat - a.target.z) = dev :=
    clamped_unique (by omega) (clamped_clampInt (by omega) _) hdev
  have htopIn := clampInt_bounds (lo := -2000000) (hi := 2000000) (by omega) (measuredTop (gz, sz) n.toNat)
  have hdevIn := clampInt_bounds (lo := -32767) (hi := 32767) (by omega) (measuredTop (gz, sz) n.toNat - a.target.z)
  rw [hclampTop] at htopIn
  rw [hclampDev] at hdevIn
  rw [show (doneBase s .gripper .probe n).operationDone .probe n.toNat = (doneBase s .gripper .probe n).probeDone n.toNat
    from rfl] at hexec
  rw [probeDone_entry (s := doneBase s .gripper .probe n) hi ha hs, hhead] at hexec htouch
  obtain ⟨hwr, w8, w9, w10, w11, w12⟩ :=
    written_probed hvw i (measuredTop (gz, sz) n.toNat) a.target.z s.head.gripper.tally
  have hframe := probedWritten_frame (doneBase s .gripper .probe n) i (measuredTop (gz, sz) n.toNat) a.target.z
    s.head.gripper.tally
  rw [hissue, hhead] at hframe
  rw [hclampTop] at w11
  rw [hclampDev] at w12
  generalize probedWritten (doneBase s .gripper .probe n) i (measuredTop (gz, sz) n.toNat) a.target.z
    s.head.gripper.tally = w at *
  have hsame : SameCourses s w := hstart.courses.trans hwr.same
  have hend := ended_placed hwr.wf s i .probed
  have hword : ∀ j, 8 ≤ j → j ≤ 12 → (placedEnd s w i .probed).word (entryAddr i j) = w.word (entryAddr i j) :=
    fun j h8 h12 => endedAtGripper_word hwr.wf i .probed h8 h12 s
  obtain ⟨hlist, hattempt, hgrip⟩ := placedEnd_frame s w i .probed
  have hlow : ∀ {j}, j < 8 → w.word (entryAddr i j) = s.word (entryAddr i j) := fun hj =>
    (hwr.word hj).trans (State.word_congr hcells _)
  have hsigned : fieldSigned (w.word (entryAddr i 12)) 0 = dev := by
    rw [w12]
    exact fieldSigned_ofNat (by omega)
  change _ = Host.Outcome.next (placedEnd s w i .probed) at hexec
  change KeptBut _ s (placedEnd s w i .probed) ∧ CausesKeptBut _ s (placedEnd s w i .probed) at htouch
  refine ⟨_, hexec, hend.state, ?_, ?_, ?_, ?_, ?_, ?_, ?_, hend.stamp.trans hsame.time, ?_, hattempt, ?_,
    countsAs_placed hsame hend fun k hfit => endedFigures_probed hwr.wf hsame k i (hlow (by omega)) hsigned hfit,
    countedBytes_placed hcells hsame hwr hend, htouch⟩
  · obtain ⟨hr1, hr2⟩ := hend.result
    exact ⟨hr1, hr2.trans (by rw [hlow (by omega)])⟩
  · rw [hword 11 (by omega) (by omega), w11, toInt_ofInt_word htopIn.1 htopIn.2]
  · rw [hword 12 (by omega) (by omega), hsigned]
  · rw [hword 10 (by omega) (by omega), w10, field_putField_ne (by omega) (by omega), field_putField (by omega)]
    omega
  · rw [hword 10 (by omega) (by omega), w10, field_putField (by omega)]
    rfl
  · rw [hword 8 (by omega) (by omega), w8]
  · rw [hword 9 (by omega) (by omega), w9]
  · rw [hlist, hframe.1]
  · rw [hgrip, hframe.2]

/-- Settles O48, by the stroke and the content of the gripper. -/
theorem probeDoneRecordsTheTop : Obligations.ProbeDoneRecordsTheTop :=
  ⟨fun _ _ _ _ _ _ _ _ _ hw h hn hi ha hs ht htop hdev => probe_entry_done hw h hn hi ha hs ht htop hdev,
    fun _ _ _ h hn hx => probe_out_of_range h hn hx, fun _ _ _ _ h hn hf => probe_void_done h hn hf⟩

end Sys2Proof
end

section
/-! SUPPORT. A control reset (R24, R176): the book's bytes, and every block's reset state. -/

namespace Sys2Proof

open Sys2Proof.Machine

/-! ### The profile latch (R19) -/

theorem latchAreas_mem {during : List LatchWrite} {r : Nat × Nat} (h : r ∈ latchAreas during) : ∃ f, r = (profileAddr f, 4) := by
  obtain ⟨w, -, rfl⟩ := List.mem_map.1 h
  exact ⟨w.field, rfl⟩

theorem bytesKept_afterWrites {s : State} (hw : BookWf s) (during : List LatchWrite) :
    BookWf (s.afterWrites during) ∧ BytesKeptOutside (latchAreas during) s (s.afterWrites during) := by
  unfold State.afterWrites
  induction during generalizing s with
  | nil => exact ⟨hw, bytesKept_refl _ _⟩
  | cons w ws ih =>
    have hwf : BookWf (s.writeProfile w) := State.setWord_wf s _ _ (profileAddr_fits w.field) hw
    have hfirst : BytesKeptOutside (latchAreas (w :: ws)) s (s.writeProfile w) := fun x hx =>
      State.read_setWord_ne s _ x _ hw (profileAddr_fits w.field) (hx _ (List.mem_cons_self ..))
    obtain ⟨h1, h2⟩ := ih hwf
    exact ⟨h1, bytesKept_trans hfirst (bytesKept_mono h2 (List.subset_cons_self ..))⟩

theorem latchProfile_cells (s : State) (during : List LatchWrite) :
    (s.latchProfile during).book.cells = (s.afterWrites during).book.cells := rfl

/-- A latch reads the profile words alone. -/
theorem readProfile_congr {s t : State} (h : ∀ f, t.word (profileAddr f) = s.word (profileAddr f)) :
    t.readProfile = s.readProfile := by
  unfold State.readProfile State.profileNat State.profileInt
  simp only [h]

theorem latchedProfile_congr {s t : State} (hs : BookWf s) (ht : BookWf t)
    (h : ∀ f, t.word (profileAddr f) = s.word (profileAddr f)) (during : List LatchWrite) :
    t.latchedProfile during = s.latchedProfile during := by
  refine readProfile_congr fun f => ?_
  rw [State.asLatched, State.asLatched, word_writeProfile f _ ht, word_writeProfile f _ hs, h f]

/-! ### The book's bytes (R24) -/

/-- The words of the ACTIVE course record that its return to OPEN writes. -/
def activeArea (s : State) : List (Nat × Nat) := (s.seq.active.map fun k => (courseAddr k 0, 8)).toList

theorem courseAddr_one (k : Slot) : courseAddr k 1 = courseAddr k 0 + 4 := by unfold courseAddr; omega

theorem bytesKept_courseUpdate {s : State} (hw : BookWf s) (k : Slot) (c : CourseState) :
    BytesKeptOutside [(courseAddr k 0, 8)] s ((s.setCourseState k c).bumpCourse k) := fun x hx => by
  have hx' := hx _ (List.mem_singleton_self _)
  have hone := courseAddr_one k
  have h1 : BookWf (s.setCourseState k c) := State.setCourseState_wf s k c hw
  rw [State.bumpCourse_read _ k x h1 (by omega)]
  exact State.read_setWord_ne s _ x _ hw (by simp) (by omega)

theorem bytesKept_reopenActive {s : State} (hw : BookWf s) : BytesKeptOutside (activeArea s) s s.reopenActive := by
  unfold State.reopenActive activeArea
  cases s.seq.active with
  | none => exact bytesKept_refl _ _
  | some k => exact bytesKept_courseUpdate hw k .opened

theorem reopenActive_record {s : State} (hw : BookWf s) {k : Slot} (ha : s.seq.active = some k) :
    s.reopenActive.courseState k = some .opened ∧
      s.reopenActive.word (courseAddr k 0) = s.word (courseAddr k 0) + 2 := by
  have h1 : BookWf (s.setCourseState k .opened) := State.setCourseState_wf s k _ hw
  unfold State.reopenActive
  rw [ha]
  refine ⟨?_, ?_⟩
  · change ((s.setCourseState k .opened).bumpCourse k).courseState k = _
    rw [courseState_courseUpdate hw, if_pos rfl]
  · change ((s.setCourseState k .opened).bumpCourse k).word (courseAddr k 0) = _
    rw [State.bumpCourse_count _ k h1, State.setCourseState_word s k _ _ hw (.inl (by rw [courseAddr_one]))]

/-- What the book's reset writes beside returning entries. -/
def baseAreas (s : State) : List (Nat × Nat) := (layoutVersionAddr, 4) :: activeArea s

/-- What a control reset may write beside returning entries. -/
def resetAreas (s : State) (during : List LatchWrite) : List (Nat × Nat) := baseAreas s ++ latchAreas during

theorem mem_baseAreas {s : State} {r : Nat × Nat} (h : r ∈ baseAreas s) :
    (∃ k, s.seq.active = some k ∧ r = (courseAddr k 0, 8)) ∨ r = (layoutVersionAddr, 4) := by
  rcases List.mem_cons.1 h with rfl | h
  · exact .inr rfl
  · unfold activeArea at h
    cases ha : s.seq.active with
    | none => simp [ha] at h
    | some k => exact .inl ⟨k, rfl, by simpa [ha] using h⟩

theorem mem_resetAreas {s : State} {during : List LatchWrite} {r : Nat × Nat} (h : r ∈ resetAreas s during) :
    (∃ k, s.seq.active = some k ∧ r = (courseAddr k 0, 8)) ∨ r = (layoutVersionAddr, 4) ∨
      ∃ f, r = (profileAddr f, 4) := by
  rcases List.mem_append.1 h with h | h
  · exact (mem_baseAreas h).imp_right .inl
  · exact .inr (.inr (latchAreas_mem h))

section
variable {s : State} {inputs : InitInputs}

/-- The book has been reset, and no course is active: the profile is latched from here. -/
def resetBase (s : State) : State := s.resetBook.withSeq { s.resetBook.seq with active := none, closeMark := false }

theorem controlReset_cells (s : State) (inputs : InitInputs) :
    (s.controlReset inputs).book.cells = ((resetBase s).afterWrites inputs.during).book.cells := rfl

theorem bytesKept_resetBase (hw : BookWf s) : BytesKeptOutside (baseAreas s) (entriesReturned s) (resetBase s) := by
  have hret := bookWf_entriesReturned hw
  have h1 : BytesKeptOutside (activeArea s) (entriesReturned s) (entriesReturned s).reopenActive :=
    bytesKept_reopenActive hret
  have h2 : BytesKeptOutside [(layoutVersionAddr, 4)] (entriesReturned s).reopenActive (resetBase s) := fun x hx =>
    State.read_setWord_ne _ _ x _ (bookWf_reopenActive hret) (by decide) (hx _ (List.mem_singleton_self _))
  exact bytesKept_trans (bytesKept_mono h1 (List.subset_cons_self ..)) (bytesKept_mono h2 (by simp [baseAreas]))

theorem bookWf_resetBase (hw : BookWf s) : BookWf (resetBase s) := bookWf_resetBook hw

theorem bytesKept_latchedReset (hw : BookWf s) :
    BytesKeptOutside (latchAreas inputs.during) (resetBase s) (s.controlReset inputs) :=
  bytesKept_congr (bytesKept_afterWrites (bookWf_resetBase hw) inputs.during).2 (controlReset_cells s inputs)

theorem bytesKept_controlReset (hw : BookWf s) :
    BytesKeptOutside (resetAreas s inputs.during) (entriesReturned s) (s.controlReset inputs) :=
  bytesKept_trans (bytesKept_mono (bytesKept_resetBase hw) (List.subset_append_left ..))
    (bytesKept_mono (bytesKept_latchedReset hw) (List.subset_append_right ..))

/-- The returned entries lie above everything else that a reset writes. -/
theorem controlReset_entryWord (hw : BookWf s) (i : EntryIx) (j : Nat) :
    (s.controlReset inputs).word (entryAddr i j) = (entriesReturned s).word (entryAddr i j) := by
  refine (bytesKept_controlReset hw).word fun r hr => .inr ?_
  rcases mem_resetAreas hr with ⟨k, -, rfl⟩ | rfl | ⟨f, rfl⟩
  · have := k.isLt
    simp only [courseAddr, entryAddr]
    omega
  · simp only [layoutVersionAddr, entryAddr]
    omega
  · have := profileAddr_header f
    unfold entryAddr
    omega

/-- Below the entries nothing is returned. -/
theorem controlReset_word (hw : BookWf s) {a : Nat} (h : a + 4 ≤ 0x0800)
    (ha : ∀ r ∈ resetAreas s inputs.during, a + 4 ≤ r.1 ∨ r.1 + r.2 ≤ a) :
    (s.controlReset inputs).word a = s.word a :=
  ((bytesKept_controlReset hw).word ha).trans (Memory.readWord_returnInFlight h)

theorem lowByte_append (a b c d : Byte) : (a ++ (b ++ (c ++ d))).extractLsb' 0 8 = d := by
  rw [BitVec.extractLsb'_append_eq_of_add_le (by omega), BitVec.extractLsb'_append_eq_of_add_le (by omega),
    BitVec.extractLsb'_append_eq_right]

theorem entryCode_read (s : State) (i : EntryIx) : s.entryCode i = s.book.cells.read (entryAddr i 0) :=
  lowByte_append _ _ _ _

theorem controlReset_entryState (hw : BookWf s) (i : EntryIx) :
    (InFlight s i → (s.controlReset inputs).entryState i = some .posted) ∧
      (¬InFlight s i → (s.controlReset inputs).entryState i = s.entryState i) := by
  have hsame : (s.controlReset inputs).entryState i = (entriesReturned s).entryState i :=
    State.entryState_congr (controlReset_entryWord hw i 0)
  have hread : (entriesReturned s).entryCode i =
      if 2 ≤ (s.entryCode i).toNat ∧ (s.entryCode i).toNat ≤ 5 then entryCodeOf .posted else s.entryCode i := by
    have haddr : 0x0800 ≤ entryAddr i 0 ∧ entryAddr i 0 % 64 = 0 := by unfold entryAddr; omega
    rw [entryCode_read, entryCode_read]
    refine (Memory.read_returnInFlight s.book.cells (entryAddr i 0)).trans ?_
    simp only [haddr, true_and]
  have hcode : ∀ c : Byte, (2 ≤ c.toNat ∧ c.toNat ≤ 5) ↔ (entryStateOf c = some .issued ∨ entryStateOf c = some .transit ∨
      entryStateOf c = some .head ∨ entryStateOf c = some .placing) := by decide
  rw [hsame]
  unfold InFlight State.entryState
  rw [← hcode, hread]
  refine ⟨fun h => ?_, fun h => ?_⟩
  · rw [if_pos h]
    rfl
  · rw [if_neg h]

theorem entriesReturned_word (s : State) (i : EntryIx) {j : Nat} (h1 : 1 ≤ j) (h16 : j < 16) :
    (entriesReturned s).word (entryAddr i j) = s.word (entryAddr i j) :=
  State.word_of_read fun x hx1 hx2 => by
    refine (Memory.read_returnInFlight s.book.cells x).trans (if_neg ?_)
    unfold entryAddr at *
    omega

/-- The profile words where the latch starts. -/
theorem resetBase_profile (hw : BookWf s) (f : ProfileField) :
    (resetBase s).word (profileAddr f) = s.word (profileAddr f) := by
  have hf := profileAddr_header f
  have hlow : 0x0020 ≤ profileAddr f := by cases f <;> decide
  refine ((bytesKept_resetBase hw).word fun r hr => ?_).trans (Memory.readWord_returnInFlight (by omega))
  rcases mem_baseAreas hr with ⟨k, -, rfl⟩ | rfl
  · left
    unfold courseAddr
    omega
  · right
    unfold layoutVersionAddr
    omega

theorem controlReset_keepsWrites (hw : BookWf s) (f : ProfileField) :
    (s.controlReset inputs).word (profileAddr f) = writtenWord inputs.during f (s.word (profileAddr f)) := by
  rw [State.word_congr (controlReset_cells s inputs), State.afterWrites, word_writeProfile f _ (bookWf_resetBase hw),
    resetBase_profile hw]

theorem controlReset_profile (hw : BookWf s) :
    (s.controlReset inputs).seq.profile = s.latchedProfile inputs.during :=
  latchedProfile_congr hw (bookWf_resetBase hw) (resetBase_profile hw) inputs.during

theorem controlReset_layout (hw : BookWf s) : (s.controlReset inputs).word layoutVersionAddr = 1 := by
  have hbase : (resetBase s).word layoutVersionAddr = 1 :=
    State.word_setWord _ _ _ (bookWf_reopenActive (bookWf_entriesReturned hw)) (by decide)
  refine ((bytesKept_latchedReset hw).word fun r hr => ?_).trans hbase
  obtain ⟨f, rfl⟩ := latchAreas_mem hr
  left
  cases f <;> decide

theorem controlReset_boom (hw : BookWf s) : (s.controlReset inputs).word boomWordAddr = s.word boomWordAddr := by
  refine controlReset_word hw (by decide) fun r hr => ?_
  rcases mem_resetAreas hr with ⟨k, -, rfl⟩ | rfl | ⟨f, rfl⟩
  · left
    simp only [courseAddr, boomWordAddr]
    omega
  · right
    decide
  · left
    cases f <;> decide

/-- The ACTIVE course record, returned to OPEN in one update. -/
theorem controlReset_active (hw : BookWf s) {k : Slot} (ha : s.seq.active = some k) :
    (s.controlReset inputs).courseState k = some .opened ∧
      (s.controlReset inputs).word (courseAddr k 0) = s.word (courseAddr k 0) + 2 := by
  have hret := bookWf_entriesReturned hw
  obtain ⟨hstate, hcount⟩ := reopenActive_record (s := entriesReturned s) hret ha
  have hrest : ∀ w, w < 2 → (s.controlReset inputs).word (courseAddr k w) =
      (entriesReturned s).reopenActive.word (courseAddr k w) := fun w hw2 => by
    have hlayout : (resetBase s).word (courseAddr k w) = (entriesReturned s).reopenActive.word (courseAddr k w) :=
      State.word_setWord_ne _ _ _ _ (bookWf_reopenActive hret) (by decide)
        (.inr (by simp only [courseAddr, layoutVersionAddr]; omega))
    refine ((bytesKept_latchedReset hw).word fun r hr => ?_).trans hlayout
    obtain ⟨f, rfl⟩ := latchAreas_mem hr
    have := profileAddr_header f
    right
    simp only [courseAddr]
    omega
  refine ⟨(State.courseState_congr (hrest 1 (by omega))).trans hstate, ?_⟩
  rw [hrest 0 (by omega), hcount]
  refine congrArg (· + 2) (Memory.readWord_returnInFlight ?_)
  have := k.isLt
  unfold courseAddr
  omega

/-- The other words of the course records. -/
theorem controlReset_courseWord (hw : BookWf s) {k : Slot} {j : Nat} (hj : j < 16) (h : s.seq.active ≠ some k ∨ 2 ≤ j) :
    (s.controlReset inputs).word (courseAddr k j) = s.word (courseAddr k j) := by
  have hk := k.isLt
  refine controlReset_word hw (by unfold courseAddr; omega) fun r hr => ?_
  rcases mem_resetAreas hr with ⟨l, ha, rfl⟩ | rfl | ⟨f, rfl⟩
  · have hl : l = k → 2 ≤ j := fun he => h.resolve_left fun hn => hn (he ▸ ha)
    by_cases he : l.val = k.val
    · have := hl (Fin.ext he)
      simp only [courseAddr]
      omega
    · simp only [courseAddr]
      omega
  · right
    simp only [courseAddr, layoutVersionAddr]
    omega
  · have := profileAddr_header f
    right
    simp only [courseAddr]
    omega

/-- The rest of the header, and the words between the status block and the entries. -/
theorem controlReset_read (hw : BookWf s) {a : Nat}
    (ha : (4 ≤ a ∧ a < 0x0100 ∧ ∀ f, a < profileAddr f ∨ profileAddr f + 4 ≤ a) ∨ (0x0600 ≤ a ∧ a < 0x0800)) :
    (s.controlReset inputs).book.cells.read a = s.book.cells.read a := by
  refine (bytesKept_controlReset hw a fun r hr => ?_).trans
    ((Memory.read_returnInFlight s.book.cells a).trans (if_neg (by omega)))
  rcases mem_resetAreas hr with ⟨k, -, rfl⟩ | rfl | ⟨f, rfl⟩
  · have := k.isLt
    simp only [courseAddr]
    omega
  · simp only [layoutVersionAddr]
    omega
  · rcases ha with ⟨-, -, h⟩ | ⟨h, -⟩
    · exact h f
    · have := profileAddr_header f
      omega

end

end Sys2Proof
end

section
/-! SUPPORT. A control reset (R176) and power-on (R177), as their commands are closed. -/

namespace Sys2Proof

open Sys2Proof.Machine

/-! ### The blocks (R66, R81, R104, R122, R142, R167) -/

theorem sensedLine_at (l : IdentityLines) (now : Word) (last : List Byte) (p : Position) :
    (sensedLine l now last).at p = sensedStation p (identityAt l p) now := by cases p <;> rfl

theorem sensedLine_spec (l : IdentityLines) (now : Word) (last : List Byte) : SensedLine l now (sensedLine l now last) := by
  refine ⟨fun p h => ?_, fun p h => ?_, rfl, rfl, ?_⟩
  · rw [sensedLine_at, sensedStation, if_pos h]
    rfl
  · rw [sensedLine_at, sensedStation, if_neg (by simp [h])]
    rfl
  · change stationsComplete l = true ↔ _
    simp [stationsComplete, and_assoc]

theorem trim_reset (t : Trim) (e : Bool) :
    t.reset e = { State.reset.trim with
      offset := t.offset, range := t.range, driveEnable := !e, sending := true, nextFrame := 1
      lastFrame := setPointFrame 0 (!e) .zero } := rfl

section
variable {s : State} {inputs : InitInputs}

/-- The blocks that a control reset clears outright. -/
theorem controlReset_blocks (s : State) (inputs : InitInputs) :
    (s.controlReset inputs).issue = ⟨[], none, false⟩ ∧ (s.controlReset inputs).train = ⟨[], false, false⟩ ∧
      (s.controlReset inputs).line = sensedLine inputs.lines s.time s.line.lastFrame ∧
      (s.controlReset inputs).tracker = s.tracker.reset ∧ (s.controlReset inputs).trim = s.trim.reset s.control.emergency ∧
      (s.controlReset inputs).head = s.head.reset ∧
      (s.controlReset inputs).host = { s.host with cause := 0, mask := 0, attention := false } ∧
      (s.controlReset inputs).cal = s.cal ∧ (s.controlReset inputs).time = s.time ∧
      (s.controlReset inputs).pending = s.pending ∧ (s.controlReset inputs).status.count = s.status.count + 2 := by
  unfold State.controlReset State.rewriteStatus State.resetBlocks State.resetSeq State.resetBook HostPort.reset
  simp

theorem controlReset_control (hw : BookWf s) :
    (s.controlReset inputs).control =
      ⟨.init, false, false, decide (s.word boomWordAddr ≠ 0), s.control.emergency, false, true, true, false⟩ := by
  have hframe : (s.resetBook.resetSeq inputs.during).control = s.control := by
    simp [State.resetSeq, State.resetBook]
  have hboom : (s.resetBook.resetSeq inputs.during).word boomWordAddr = s.word boomWordAddr :=
    (State.word_congr (t := s.resetBook.resetSeq inputs.during) (s := s.controlReset inputs) rfl _).trans
      (controlReset_boom hw)
  change (s.resetBook.resetSeq inputs.during).control.reset (s.resetBook.resetSeq inputs.during).boomWordMoving = _
  rw [hframe, State.boomWordMoving, hboom]
  rfl

theorem controlReset_seq (hw : BookWf s) :
    (s.controlReset inputs).seq =
      { s.seq with active := none, closeMark := false, profile := s.latchedProfile inputs.during } := by
  have hprofile := controlReset_profile (inputs := inputs) hw
  have hseq : s.resetBook.seq = s.seq := by simp [State.resetBook]
  have hshape : (s.controlReset inputs).seq =
      { s.resetBook.seq with active := none, closeMark := false, profile := (s.controlReset inputs).seq.profile } := rfl
  rw [hshape, hprofile, hseq]

/-! ### The reset closed -/

/-- Nothing of what a reset has cleared is set again as its command is closed. -/
theorem finishReset_cleared {u : State} (old : State) (hl : u.issue = ⟨[], none, false⟩) (ht : u.train = ⟨[], false, false⟩)
    (ha : u.seq.active = none) (hc : u.host.cause = 0) (hm : u.host.mask = 0) :
    (finishReset old u).issue = ⟨[], none, false⟩ ∧ (finishReset old u).train = ⟨[], false, false⟩ ∧
      (finishReset old u).host.cause = 0 ∧ (finishReset old u).host.mask = 0 ∧
      (finishReset old u).host.attention = false ∧ (finishReset old u).status = u.status := by
  obtain ⟨hmask, -, -, -, hlist, hfeed, hqueue, hlimit, -⟩ := finishReset_frame old u
  obtain ⟨hstarved, hdrive, hatt, hcause⟩ := finishReset_outputs old u
  have hnow : u.starvedNow = false := starvedNow_eq_false (by rw [hl]) ha
  have hstill : u.driveWanted = false := by simp [State.driveWanted, ht]
  rw [hnow] at hstarved hcause
  rw [hstill] at hdrive
  have hzero : (finishReset old u).host.cause = 0 := hcause.trans hc
  refine ⟨?_, ?_, hzero, hmask.trans hm, ?_, ?_⟩
  · calc (finishReset old u).issue
        = ⟨(finishReset old u).issue.list, (finishReset old u).issue.feed, (finishReset old u).issue.starved⟩ := rfl
      _ = ⟨[], none, false⟩ := by rw [hlist, hfeed, hstarved, hl]
  · calc (finishReset old u).train
        = ⟨(finishReset old u).train.queue, (finishReset old u).train.drive, (finishReset old u).train.limitReached⟩ := rfl
      _ = ⟨[], false, false⟩ := by rw [hqueue, hlimit, hdrive, ht]
  · rw [hatt, attentionLevel, hzero]
    simp
  · simp [finishReset, State.spendFree, State.evaluate, State.evalDrive, State.evalAttention, status_evalStarved]

theorem finishReset_word (old u : State) (a : Nat) : (finishReset old u).word a = u.word a :=
  State.word_congr (by rw [(finishReset_frame old u).2.2.1]) a

theorem status_finishReset {u : State} (hu : ResetWork s u) : (finishReset s u).status.fields = (finishReset s u).statusNow := by
  obtain ⟨-, -, -, h⟩ := (derived_iff _).1 (derived_reset hu s)
  exact h

/-- A control reset, whichever input asked for it. -/
theorem control_reset {c : Instr} (hw : BookWf s) (hexec : exec c s = answerReset s (s.controlReset inputs)) :
    ∃ t, exec c s = .next t ∧
      t.control = ⟨.init, false, false, decide (s.word boomWordAddr ≠ 0), s.control.emergency, false, true, true, false⟩ ∧
      t.host.cause = 0 ∧ t.host.mask = 0 ∧ t.host.attention = false ∧ t.issue = ⟨[], none, false⟩ ∧
      t.train = ⟨[], false, false⟩ ∧ SensedLine inputs.lines s.time t.line ∧
      t.tracker = { s.tracker with
        receiving := true, collected := [], sequence := none, history := [], window := [], lossTimer := none
        state := .lost } ∧
      t.trim = { State.reset.trim with
        offset := s.trim.offset, range := s.trim.range, driveEnable := !s.control.emergency, sending := true
        nextFrame := 1, lastFrame := setPointFrame 0 (!s.control.emergency) .zero } ∧
      t.head = { s.head with bay := .cleared, gripper := .cleared, restartTimer := none, lastVoidRelease := none } ∧
      t.seq = { s.seq with active := none, closeMark := false, profile := s.latchedProfile inputs.during } ∧
      t.status.count = s.status.count + 2 ∧ t.status.fields = t.statusNow ∧
      (∀ i, InFlight s i → t.entryState i = some .posted) ∧ (∀ i, ¬InFlight s i → t.entryState i = s.entryState i) ∧
      (∀ i j, 1 ≤ j → j < 16 → t.word (entryAddr i j) = s.word (entryAddr i j)) ∧
      (∀ k, s.seq.active = some k →
        t.courseState k = some .opened ∧ t.word (courseAddr k 0) = s.word (courseAddr k 0) + 2) ∧
      (∀ k j, j < 16 → s.seq.active ≠ some k ∨ 2 ≤ j → t.word (courseAddr k j) = s.word (courseAddr k j)) ∧
      t.word layoutVersionAddr = 1 ∧ KeepsWrites inputs.during s t ∧
      (∀ a, (4 ≤ a ∧ a < 0x0100 ∧ ∀ f, a < profileAddr f ∨ profileAddr f + 4 ≤ a) ∨ (0x0600 ≤ a ∧ a < 0x0800) →
        t.book.cells.read a = s.book.cells.read a) ∧
      KeptBut [.bytes, .seq, .list, .feed, .queue, .limit, .line, .tracker, .trim, .head, .control, .mask] s t := by
  obtain ⟨hissue, htrain, hline, htracker, htrim, hhead, hhost, hcal, htime, hpending, hcount⟩ := controlReset_blocks s inputs
  have hcontrol := controlReset_control (inputs := inputs) hw
  have hseq := controlReset_seq (inputs := inputs) hw
  have hstate := fun i => controlReset_entryState (inputs := inputs) hw i
  have hentry := fun i j => controlReset_entryWord (inputs := inputs) hw i j
  have hactive := fun k => controlReset_active (inputs := inputs) hw (k := k)
  have hcourse := fun k j => controlReset_courseWord (inputs := inputs) hw (k := k) (j := j)
  have hlayout := controlReset_layout (inputs := inputs) hw
  have hwrites := fun f => controlReset_keepsWrites (inputs := inputs) hw f
  have hread := fun a => controlReset_read (inputs := inputs) hw (a := a)
  have hstatus := status_finishReset (.control (s := s) inputs)
  generalize s.controlReset inputs = u at *
  obtain ⟨-, -, fbook, fseq, -, -, -, -, fline, ftracker, ftrim, fhead, fcontrol, -⟩ :=
    finishReset_frame s u
  obtain ⟨c1, c2, c3, c4, c5, c6⟩ := finishReset_cleared s hissue htrain (by rw [hseq]) (by rw [hhost]) (by rw [hhost])
  have hword := fun a => finishReset_word s u a
  refine ⟨_, hexec, fcontrol.trans hcontrol, c3, c4, c5, c1, c2, ?_, ?_, ?_, ?_, fseq.trans hseq, ?_, hstatus,
    fun i h => (State.entryState_congr (hword _)).trans ((hstate i).1 h),
    fun i h => (State.entryState_congr (hword _)).trans ((hstate i).2 h),
    fun i j h1 h16 => (hword _).trans ((hentry i j).trans (entriesReturned_word s i h1 h16)),
    fun k hk => ⟨(State.courseState_congr (hword _)).trans (hactive k hk).1, (hword _).trans (hactive k hk).2⟩,
    fun k j hj h => (hword _).trans (hcourse k j hj h), (hword _).trans hlayout, fun f => (hword _).trans (hwrites f),
    fun a ha => ?_, ?_⟩
  · rw [fline, hline]
    exact sensedLine_spec inputs.lines s.time s.line.lastFrame
  · rw [ftracker, htracker]
    rfl
  · rw [ftrim, htrim, trim_reset]
  · rw [fhead, hhead]
    rfl
  · rw [c6, hcount]
  · rw [fbook]
    exact hread a ha
  · rw [keptBut_iff]
    simp [hcal, htime, hpending, hhost]

end

/-- Settles O50: the reset of the host port, and RESET outside INIT. -/
theorem controlResetClearsTheWork : Obligations.ControlResetClearsTheWork := by
  intro lines during c s hw h
  refine control_reset (inputs := ⟨lines, during⟩) hw ?_
  obtain rfl | ⟨rfl, hs⟩ := h
  · rfl
  · exact if_neg hs

end Sys2Proof
end

section
/-! SUPPORT. Power-on (R23, R177, R195). -/

namespace Sys2Proof

open Sys2Proof.Machine

theorem read_eq_zero {m : Memory} {a : Nat} (h : ∀ c ∈ m, c.1 ≠ a) : m.read a = 0 := by
  induction m with
  | nil => rfl
  | cons c m ih =>
    obtain ⟨x, b⟩ := c
    rw [Memory.read, if_neg (h (x, b) (List.mem_cons_self ..))]
    exact ih fun c hc => h c (List.mem_cons_of_mem _ hc)

/-- The book of power-on holds the layout version and the default profile, and nothing else. -/
theorem powerOn_read {a : Nat} (h : (1 ≤ a ∧ a < 0x0020) ∨ 0x007C ≤ a) : Memory.powerOn.read a = 0 := by
  have hplace : ∀ c ∈ Memory.powerOn, c.1 = 0 ∨ (0x0020 ≤ c.1 ∧ c.1 < 0x007C) := by decide
  refine read_eq_zero fun c hc he => ?_
  have := hplace c hc
  omega

/-- The profile words fill the header from 0x20 to 0x7B. -/
theorem outside_profile {a : Nat} (h : ∀ f, a < profileAddr f ∨ profileAddr f + 4 ≤ a) : a < 0x0020 ∨ 0x007C ≤ a := by
  have h1 := h .toleranceXY
  have h2 := h .toleranceZ
  have h3 := h .toleranceYaw
  have h4 := h .slewXY
  have h5 := h .slewZ
  have h6 := h .slewYaw
  have h7 := h .windowXYZ
  have h8 := h .windowYaw
  have h9 := h .settleCount
  have h10 := h .settleLimit
  have h11 := h .reachCount
  have h12 := h .lossExponent
  have h13 := h .restartDelay
  have h14 := h .unsteadyOn
  have h15 := h .unsteadyOff
  have h16 := h .openTime
  have h17 := h .transitLimit
  have h18 := h .workingPoll
  have h19 := h .zmax
  have h20 := h .probeClearance
  have h21 := h .preferredFeeder
  have h22 := h .earlySpread
  have h23 := h .recoveryMode
  simp only [profileAddr] at *
  omega

section
variable (s : State) (em : Bool) (w : StoreWrite) (inputs : InitInputs)

theorem powerUp_word (a : Nat) : (s.powerUp em w).word a = State.reset.word a := State.word_congr rfl a

theorem powerUp_profile (f : ProfileField) : (s.powerUp em w).word (profileAddr f) = profileDefault f := by
  rw [powerUp_word]
  cases f <;> decide

theorem powerUp_latched (during : List LatchWrite) :
    (s.powerUp em w).latchedProfile during = State.reset.latchedProfile during :=
  latchedProfile_congr (s := State.reset) Memory.powerOn_wf (bookWf_powerUp s em w) (fun _ => powerUp_word s em w _) during

theorem latched_default : State.reset.latchedProfile [] = .default := by decide

/-- Every byte but those of the layout version and the profile reads 0. -/
theorem powerOn_bytes {a : Nat} (h0 : a < layoutVersionAddr ∨ layoutVersionAddr + 4 ≤ a)
    (hf : ∀ f, a < profileAddr f ∨ profileAddr f + 4 ≤ a) :
    ((s.powerUp em w).controlReset inputs).book.cells.read a = 0 := by
  have hzero : Memory.powerOn.read a = 0 := by
    refine powerOn_read ?_
    have := outside_profile hf
    unfold layoutVersionAddr at h0
    omega
  refine (bytesKept_controlReset (bookWf_powerUp s em w) a fun r hr => ?_).trans ?_
  · rcases mem_resetAreas hr with ⟨k, ha, -⟩ | rfl | ⟨f, rfl⟩
    · cases ha
    · exact h0
    · exact hf f
  · refine (Memory.read_returnInFlight Memory.powerOn a).trans ?_
    rw [hzero]
    exact if_neg fun h => absurd h.2.2.1 (by decide)

/-- What the calibration store holds when power is lost (R195). -/
theorem storeAtLoss_spec :
    (s.cal.busy = false ∨ ¬ ImageGood s.image ∨ w = .notBegun → s.storeAtLoss w = s.cal.store) ∧
      (s.cal.busy = true → ImageGood s.image → w = .finished → s.storeAtLoss w = s.image) ∧
      (∀ done, s.cal.busy = true → ImageGood s.image → w = .writing done →
        (s.storeAtLoss w)[31] = ~~~s.image[31] ∧
          ∀ j : Fin 32, j.val < 31 →
            (s.storeAtLoss w)[j] = if done.getLsbD j.val then s.image[j] else s.cal.store[j]) := by
  have hgood : ∀ {v : State}, v.cal.busy = true → ImageGood v.image → (v.cal.busy && calibrationGood v.image) = true :=
    fun hb hg => by rw [hb, (calibrationGood_iff _).2 hg]; rfl
  refine ⟨fun h => ?_, fun hb hg hw => ?_, fun done hb hg hw => ?_⟩
  · unfold State.storeAtLoss
    split
    · rename_i hc
      rw [Bool.and_eq_true, calibrationGood_iff] at hc
      rcases h with h | h | h
      · simp [h] at hc
      · exact absurd hc.2 h
      · rw [h]
    · rfl
  · subst hw
    exact if_pos (hgood hb hg)
  · subst hw
    have hstore : s.storeAtLoss (.writing done) = Vector.ofFn (storeWordAtLoss s.cal.store s.image done) :=
      if_pos (hgood hb hg)
    rw [hstore]
    refine ⟨?_, fun j hj => ?_⟩
    · simp [storeWordAtLoss]
    · simp [storeWordAtLoss, Nat.ne_of_lt hj]

end

/-- Settles O49. -/
theorem powerOnClearsThePart : Obligations.PowerOnClearsThePart := by
  intro lines em w during s
  have hw := bookWf_powerUp s em w
  obtain ⟨hissue, htrain, hline, htracker, htrim, hhead, hhost, hcal, htime, hpending, -⟩ :=
    controlReset_blocks (s.powerUp em w) ⟨lines, during⟩
  have hcontrol := controlReset_control (inputs := ⟨lines, during⟩) hw
  have hseq := controlReset_seq (inputs := ⟨lines, during⟩) hw
  have hlayout := controlReset_layout (inputs := ⟨lines, during⟩) hw
  have hwrites := fun f => controlReset_keepsWrites (inputs := ⟨lines, during⟩) hw f
  have hread := fun a => powerOn_bytes s em w ⟨lines, during⟩ (a := a)
  have hstatus := status_finishReset (.power (s := s) ⟨lines, during⟩ em w)
  have hboom : decide ((s.powerUp em w).word boomWordAddr ≠ 0) = false := by
    rw [powerUp_word]
    decide
  obtain ⟨s1, s2, s3⟩ := storeAtLoss_spec s w
  rw [hboom] at hcontrol
  rw [powerUp_latched] at hseq
  simp only [powerUp_profile] at hwrites
  have hexec : exec (.powerOn ⟨lines, during⟩ em w) s =
    .next (finishReset s ((s.powerUp em w).controlReset ⟨lines, during⟩)) := rfl
  generalize (s.powerUp em w).controlReset ⟨lines, during⟩ = u at *
  obtain ⟨-, -, fbook, fseq, -, -, -, -, fline, ftracker, ftrim, fhead, fcontrol, fcal, ftime, fpending⟩ :=
    finishReset_frame s u
  obtain ⟨c1, c2, c3, c4, c5, -⟩ := finishReset_cleared s hissue htrain (by rw [hseq]) (by rw [hhost]) (by rw [hhost])
  have hstore : (finishReset s u).cal.store = s.storeAtLoss w := by
    rw [fcal, hcal]
    rfl
  refine ⟨_, hexec, fun f => (finishReset_word s u _).trans (hwrites f), (finishReset_word s u _).trans hlayout,
    fun a h0 hf => ?_, fseq.trans hseq, fun hd => ?_, c1, c2, ?_, ?_, ?_, ?_, hstatus, fcontrol.trans hcontrol, c3, c4, c5,
    ?_, ?_, ?_, ?_, fun h => hstore.trans (s1 h), fun h1 h2 h3 => hstore.trans (s2 h1 h2 h3), fun done h1 h2 h3 => ?_⟩
  · rw [fbook]
    exact hread a h0 hf
  · rw [fseq, hseq, hd]
    exact latched_default
  · rw [fline, hline]
    exact sensedLine_spec lines 0 _
  · rw [ftracker, htracker]
    rfl
  · rw [ftrim, htrim, trim_reset]
    rfl
  · rw [fhead, hhead]
    rfl
  · rw [ftime, htime]
    rfl
  · rw [fcal, hcal]
    rfl
  · rw [fcal, hcal]
    rfl
  · rw [fpending, hpending]
    rfl
  · rw [hstore]
    exact s3 done h1 h2 h3

end Sys2Proof
end

section
/-! SUPPORT. The figures of a course's range (R30): what recounting finds, that nothing else is found, and that it fits. -/

namespace Sys2Proof

open Sys2Proof.Machine

/-! ### The figures of a list of entries -/

/-- The entries of a list that read one state. -/
def readingIn (s : State) (l : List EntryIx) (e : EntryState) : List EntryIx := l.filter fun i => s.entryState i = some e

/-- The entries of a list that can still be taken. -/
def openIn (s : State) (l : List EntryIx) : List EntryIx :=
  l.filter fun i => s.entryState i = some .free ∨ s.entryState i = some .posted

/-- The PROBED entries of a list with APPLY. -/
def appliedIn (s : State) (l : List EntryIx) : List EntryIx := (readingIn s l .probed).filter fun i => s.entryApply i

/-- `CountsRange` over any list of entries. -/
def CountsList (s : State) (l : List EntryIx) (f : CourseFigures) : Prop :=
  f.remaining = (openIn s l).length ∧
    f.laid = (readingIn s l .laid).length ∧ f.probed = (readingIn s l .probed).length ∧
    f.failed = (readingIn s l .failed).length ∧ f.cancelled = (readingIn s l .cancelled).length ∧
    f.devSum = ((readingIn s l .laid).map fun i => fieldSigned (s.word (entryAddr i 9)) 0).sum ∧
    LargestOf (readingIn s l .laid) (fun i => fieldSigned (s.word (entryAddr i 8)) 0) f.maxX ∧
    LargestOf (readingIn s l .laid) (fun i => fieldSigned (s.word (entryAddr i 8)) 16) f.maxY ∧
    LargestOf (readingIn s l .laid) (fun i => fieldSigned (s.word (entryAddr i 9)) 0) f.maxZ ∧
    LargestOf (readingIn s l .laid) (fun i => fieldSigned (s.word (entryAddr i 9)) 16) f.maxYaw ∧
    f.applied = (appliedIn s l).length ∧
    f.appliedSum = ((appliedIn s l).map fun i => fieldSigned (s.word (entryAddr i 12)) 0).sum

theorem countsRange_iff (s : State) (k : Slot) (f : CourseFigures) :
    CountsRange s k f ↔ CountsList s (s.courseEntries k) f := Iff.rfl

section
variable {s : State} {l : List EntryIx} {i : EntryIx}

theorem readingIn_concat_same {e : EntryState} (h : s.entryState i = some e) :
    readingIn s (l ++ [i]) e = readingIn s l e ++ [i] := by simp [readingIn, h]

theorem readingIn_concat_other {e : EntryState} (h : s.entryState i ≠ some e) :
    readingIn s (l ++ [i]) e = readingIn s l e := by simp [readingIn, h]

theorem readingIn_concat_ne {e e' : EntryState} (h : s.entryState i = some e) (hne : e ≠ e') :
    readingIn s (l ++ [i]) e' = readingIn s l e' :=
  readingIn_concat_other fun h' => hne (Option.some.inj (h.symm.trans h'))

theorem openIn_concat_open (h : s.entryState i = some .free ∨ s.entryState i = some .posted) :
    openIn s (l ++ [i]) = openIn s l ++ [i] := by simp [openIn, h]

theorem openIn_concat_other (h1 : s.entryState i ≠ some .free) (h2 : s.entryState i ≠ some .posted) :
    openIn s (l ++ [i]) = openIn s l := by simp [openIn, h1, h2]

theorem appliedIn_concat_applied (h : s.entryState i = some .probed) (ha : s.entryApply i = true) :
    appliedIn s (l ++ [i]) = appliedIn s l ++ [i] := by simp [appliedIn, readingIn_concat_same h, ha]

theorem appliedIn_concat_other (h : s.entryState i = some .probed → s.entryApply i = false) :
    appliedIn s (l ++ [i]) = appliedIn s l := by
  by_cases hp : s.entryState i = some .probed
  · simp [appliedIn, readingIn_concat_same hp, h hp]
  · rw [appliedIn, readingIn_concat_other hp, appliedIn]

theorem appliedIn_concat_ne {e : EntryState} (h : s.entryState i = some e) (hne : e ≠ .probed) :
    appliedIn s (l ++ [i]) = appliedIn s l :=
  appliedIn_concat_other fun h' => absurd (Option.some.inj (h.symm.trans h')) hne

theorem LargestOf.concat {dev : EntryIx → Int} {m : Nat} (h : LargestOf l dev m) (i : EntryIx) :
    LargestOf (l ++ [i]) dev (max m (deviationMagnitude (dev i))) := by
  obtain ⟨hle, hmem⟩ := h
  unfold deviationMagnitude
  refine ⟨fun j hj => ?_, ?_⟩
  · rcases List.mem_append.1 hj with hj | hj
    · exact le_max_of_le_left (hle j hj)
    · rw [List.mem_singleton.1 hj]
      exact le_max_right ..
  · rcases le_total (min 32767 (dev i).natAbs) m with h | h
    · rw [max_eq_left h]
      exact hmem.imp_right fun ⟨j, hj, he⟩ => ⟨j, List.mem_append_left _ hj, he⟩
    · rw [max_eq_right h]
      exact .inr ⟨i, by simp, rfl⟩

theorem largestOf_unique {dev : EntryIx → Int} {m n : Nat} (hm : LargestOf l dev m) (hn : LargestOf l dev n) : m = n := by
  have hle : ∀ {a b : Nat}, LargestOf l dev a → LargestOf l dev b → a ≤ b := fun ha hb => by
    rcases ha.2 with h | ⟨i, hi, h⟩
    · omega
    · exact h ▸ hb.1 i hi
  exact Nat.le_antisymm (hle hm hn) (hle hn hm)

theorem largestOf_le {dev : EntryIx → Int} {m : Nat} (h : LargestOf l dev m) : m ≤ 32767 := by
  rcases h.2 with h | ⟨i, -, h⟩ <;> omega

/-! ### Recounting finds them (R30) -/

theorem recountEntry_open {k : Slot} {f : CourseFigures} (h : s.entryState i = some .free ∨ s.entryState i = some .posted) :
    s.recountEntry k f i = { f with remaining := f.remaining + 1 } := by
  unfold State.recountEntry
  rcases h with h | h <;> simp [h]

theorem recountEntry_terminal {k : Slot} {f : CourseFigures} {e : EntryState} (h : s.entryState i = some e)
    (he : e.terminal = true) (hk : s.entrySlot i = k.val) : s.recountEntry k f i = s.countIn i e f := by
  unfold State.recountEntry
  cases e <;> simp_all [EntryState.terminal]

theorem recountEntry_other {k : Slot} {f : CourseFigures} (h1 : s.entryState i ≠ some .free)
    (h2 : s.entryState i ≠ some .posted) (h : ∀ e, s.entryState i = some e → e.terminal = false) :
    s.recountEntry k f i = f := by
  unfold State.recountEntry
  split
  · exact absurd ‹_› h1
  · exact absurd ‹_› h2
  · rename_i e _ _ he
    simp [h e he]
  · rfl

theorem countsList_open {f : CourseFigures} (hf : CountsList s l f) {e : EntryState} (he : s.entryState i = some e)
    (ho : e = .free ∨ e = .posted) : CountsList s (l ++ [i]) { f with remaining := f.remaining + 1 } := by
  obtain ⟨h1, h2, h3, h4, h5, h6, h7, h8, h9, h10, h11, h12⟩ := hf
  have hne : ∀ e', e' ≠ .free → e' ≠ .posted → e ≠ e' := by
    rintro e' hf hp rfl
    exact ho.elim hf hp
  unfold CountsList
  rw [openIn_concat_open (ho.imp (fun h => h ▸ he) fun h => h ▸ he),
    readingIn_concat_ne he (hne .laid (by decide) (by decide)), readingIn_concat_ne he (hne .probed (by decide) (by decide)),
    readingIn_concat_ne he (hne .failed (by decide) (by decide)),
    readingIn_concat_ne he (hne .cancelled (by decide) (by decide)),
    appliedIn_concat_ne he (hne .probed (by decide) (by decide)), List.length_append, ← h1]
  exact ⟨rfl, h2, h3, h4, h5, h6, h7, h8, h9, h10, h11, h12⟩

theorem countsList_terminal {f : CourseFigures} (hf : CountsList s l f) {e : EntryState} (he : s.entryState i = some e)
    (ht : e.terminal = true) : CountsList s (l ++ [i]) (s.countIn i e f) := by
  obtain ⟨h1, h2, h3, h4, h5, h6, h7, h8, h9, h10, h11, h12⟩ := hf
  unfold CountsList
  have hclosed : ∀ e', e'.terminal = false → s.entryState i ≠ some e' := fun e' h h' => by
    rw [← Option.some.inj (he.symm.trans h'), ht] at h
    cases h
  rw [openIn_concat_other (hclosed _ rfl) (hclosed _ rfl)]
  cases e with
  | laid =>
    simp (disch := decide) only [State.countIn, readingIn_concat_same he, readingIn_concat_ne he, appliedIn_concat_ne he,
      List.length_append, List.length_singleton, List.map_append, List.sum_append, List.map_cons, List.map_nil,
      List.sum_singleton, h2, h6]
    exact ⟨h1, trivial, h3, h4, h5, trivial, h7.concat i, h8.concat i, h9.concat i, h10.concat i, h11, h12⟩
  | probed =>
    cases ha : s.entryApply i with
    | true =>
      simp (disch := decide) only [State.countIn, ha, if_true, readingIn_concat_same he, readingIn_concat_ne he,
        appliedIn_concat_applied he ha, List.length_append, List.length_singleton, List.map_append, List.sum_append,
        List.map_cons, List.map_nil, List.sum_singleton, h3, h11, h12]
      exact ⟨h1, h2, trivial, h4, h5, h6, h7, h8, h9, h10, trivial, trivial⟩
    | false =>
      simp (disch := decide) only [State.countIn, ha, Bool.false_eq_true, if_false, readingIn_concat_same he,
        readingIn_concat_ne he, appliedIn_concat_other fun _ => ha, List.length_append, List.length_singleton, h3]
      exact ⟨h1, h2, trivial, h4, h5, h6, h7, h8, h9, h10, h11, h12⟩
  | failed =>
    simp (disch := decide) only [State.countIn, readingIn_concat_same he, readingIn_concat_ne he, appliedIn_concat_ne he,
      List.length_append, List.length_singleton, h4]
    exact ⟨h1, h2, h3, trivial, h5, h6, h7, h8, h9, h10, h11, h12⟩
  | cancelled =>
    simp (disch := decide) only [State.countIn, readingIn_concat_same he, readingIn_concat_ne he, appliedIn_concat_ne he,
      List.length_append, List.length_singleton, h5]
    exact ⟨h1, h2, h3, h4, trivial, h6, h7, h8, h9, h10, h11, h12⟩
  | _ => simp [EntryState.terminal] at ht

theorem countsList_other {f : CourseFigures} (hf : CountsList s l f) (hnf : s.entryState i ≠ some .free)
    (hnp : s.entryState i ≠ some .posted) (h : ∀ e, e.terminal = true → s.entryState i ≠ some e) :
    CountsList s (l ++ [i]) f := by
  unfold CountsList
  rw [openIn_concat_other hnf hnp, readingIn_concat_other (h .laid rfl), readingIn_concat_other (h .probed rfl),
    readingIn_concat_other (h .failed rfl), readingIn_concat_other (h .cancelled rfl),
    appliedIn_concat_other fun hp => absurd hp (h .probed rfl)]
  exact hf

theorem countsList_concat {k : Slot} {f : CourseFigures} (hf : CountsList s l f)
    (hk : ∀ e, s.entryState i = some e → e.terminal = true → s.entrySlot i = k.val) :
    CountsList s (l ++ [i]) (s.recountEntry k f i) := by
  by_cases hopen : s.entryState i = some .free ∨ s.entryState i = some .posted
  · rw [recountEntry_open hopen]
    rcases hopen with he | he
    · exact countsList_open hf he (.inl rfl)
    · exact countsList_open hf he (.inr rfl)
  · obtain ⟨hnf, hnp⟩ := not_or.1 hopen
    by_cases hterm : ∃ e, s.entryState i = some e ∧ e.terminal = true
    · obtain ⟨e, he, ht⟩ := hterm
      rw [recountEntry_terminal he ht (hk e he ht)]
      exact countsList_terminal hf he ht
    · have hother : ∀ e, e.terminal = true → s.entryState i ≠ some e := fun e ht h => hterm ⟨e, h, ht⟩
      rw [recountEntry_other hnf hnp fun e he => Bool.not_eq_true _ ▸ fun ht => hother e ht he]
      exact countsList_other hf hnf hnp hother

theorem countsList_recount {k : Slot} (l : List EntryIx)
    (hk : ∀ i ∈ l, ∀ e, s.entryState i = some e → e.terminal = true → s.entrySlot i = k.val) :
    CountsList s l (l.foldl (s.recountEntry k) .zero) := by
  induction l using List.reverseRecOn with
  | nil => exact ⟨rfl, rfl, rfl, rfl, rfl, rfl, ⟨by simp [readingIn], .inl rfl⟩, ⟨by simp [readingIn], .inl rfl⟩,
      ⟨by simp [readingIn], .inl rfl⟩, ⟨by simp [readingIn], .inl rfl⟩, rfl, rfl⟩
  | append_singleton l i ih =>
    rw [List.foldl_append]
    exact countsList_concat (ih fun j hj => hk j (List.mem_append_left _ hj)) (hk i (by simp))

/-! ### Nothing else is found, and it fits -/

theorem countsList_unique {f g : CourseFigures} (hf : CountsList s l f) (hg : CountsList s l g) :
    g = { f with zc := g.zc } := by
  obtain ⟨f1, f2, f3, f4, f5, f6, f7, f8, f9, f10, f11, f12⟩ := hf
  obtain ⟨g1, g2, g3, g4, g5, g6, g7, g8, g9, g10, g11, g12⟩ := hg
  rw [CourseFigures.mk.injEq]
  exact ⟨g1.trans f1.symm, g2.trans f2.symm, g3.trans f3.symm, g4.trans f4.symm, g5.trans f5.symm, g6.trans f6.symm,
    largestOf_unique g7 f7, largestOf_unique g8 f8, largestOf_unique g9 f9, largestOf_unique g10 f10,
    g11.trans f11.symm, g12.trans f12.symm, rfl⟩

theorem fieldSigned_bounds (v : Word) (lo : Nat) : -32768 ≤ fieldSigned v lo ∧ fieldSigned v lo ≤ 32768 := by
  have h1 := BitVec.le_toInt (v.extractLsb' lo 16)
  have h2 := BitVec.toInt_lt (x := v.extractLsb' lo 16)
  unfold fieldSigned
  omega

theorem sum_fieldSigned_bounds (l : List EntryIx) (v : EntryIx → Word) (lo : Nat) :
    -32768 * (l.length : Int) ≤ (l.map fun i => fieldSigned (v i) lo).sum ∧
      (l.map fun i => fieldSigned (v i) lo).sum ≤ 32768 * l.length := by
  induction l with
  | nil => simp
  | cons i l ih =>
    have := fieldSigned_bounds (v i) lo
    simp only [List.map_cons, List.sum_cons, List.length_cons]
    omega

/-- Figures that `n` entries can give, whatever their Zc. -/
def SmallFigures (n : Nat) (f : CourseFigures) : Prop :=
  (f.remaining ≤ n ∧ f.laid ≤ n ∧ f.probed ≤ n ∧ f.failed ≤ n ∧ f.cancelled ≤ n ∧ f.applied ≤ n) ∧
    (f.maxX ≤ 32767 ∧ f.maxY ≤ 32767 ∧ f.maxZ ≤ 32767 ∧ f.maxYaw ≤ 32767) ∧
    (-32768 * (n : Int) ≤ f.devSum ∧ f.devSum ≤ 32768 * n) ∧ -32768 * (n : Int) ≤ f.appliedSum ∧ f.appliedSum ≤ 32768 * n

theorem countsList_small {f : CourseFigures} (hf : CountsList s l f) : SmallFigures l.length f := by
  obtain ⟨h1, h2, h3, h4, h5, h6, h7, h8, h9, h10, h11, h12⟩ := hf
  have hreading : ∀ e, (readingIn s l e).length ≤ l.length := fun e => List.length_filter_le ..
  have happlied : (appliedIn s l).length ≤ l.length := (List.length_filter_le ..).trans (hreading .probed)
  have hopen : (openIn s l).length ≤ l.length := List.length_filter_le ..
  have hdev := sum_fieldSigned_bounds (readingIn s l .laid) (fun i => s.word (entryAddr i 9)) 0
  have happ := sum_fieldSigned_bounds (appliedIn s l) (fun i => s.word (entryAddr i 12)) 0
  rw [← h6] at hdev
  rw [← h12] at happ
  have := hreading .laid
  exact ⟨⟨h1 ▸ hopen, h2 ▸ hreading _, h3 ▸ hreading _, h4 ▸ hreading _, h5 ▸ hreading _, h11 ▸ happlied⟩,
    ⟨largestOf_le h7, largestOf_le h8, largestOf_le h9, largestOf_le h10⟩, by omega, by omega, by omega⟩

theorem SmallFigures.fits {n : Nat} {f : CourseFigures} (h : SmallFigures n f) (hn : n ≤ 993) {zc : Int}
    (hz : Within 100 zc) : FiguresFit { f with zc := zc } := by
  unfold SmallFigures at h
  unfold Within at hz
  unfold FiguresFit
  dsimp only
  omega

theorem SmallFigures.takenOut {n : Nat} {f : CourseFigures} (h : SmallFigures n f) (s : State) (i : EntryIx)
    (e : EntryState) : SmallFigures (n + 1) (takenOut s i e f) := by
  obtain ⟨hcounts, hmaxima, hdev, happ⟩ := h
  have h9 := fieldSigned_bounds (s.word (entryAddr i 9)) 0
  have h12 := fieldSigned_bounds (s.word (entryAddr i 12)) 0
  unfold SmallFigures Sys2Proof.takenOut
  dsimp only
  refine ⟨by omega, hmaxima, ?_, ?_⟩
  · split <;> omega
  · split <;> omega

theorem SmallFigures.cancelled {n : Nat} {f : CourseFigures} (h : SmallFigures n f) :
    SmallFigures (n + 1) { f with remaining := f.remaining - 1, cancelled := f.cancelled + 1 } := by
  unfold SmallFigures at *
  dsimp only
  omega

theorem length_courseEntries (s : State) (k : Slot) : (s.courseEntries k).length ≤ 992 := by
  have h := List.length_filterMap_le (fun n => if h : n < 992 then some (⟨n, h⟩ : EntryIx) else none)
    (List.range' (s.courseFirst k) (min (s.courseCount k) 992))
  rw [List.length_range'] at h
  exact h.trans (Nat.min_le_right ..)

theorem countsRange_small {k : Slot} {f : CourseFigures} (hf : CountsRange s k f) : SmallFigures 992 f := by
  have h := countsList_small ((countsRange_iff s k f).1 hf)
  have := length_courseEntries s k
  unfold SmallFigures at *
  omega

theorem countsRange_unique {k : Slot} {f g : CourseFigures} (hf : CountsRange s k f) (hg : CountsRange s k g) :
    g = { f with zc := g.zc } := countsList_unique hf hg

/-- An applied probe of the range is counted. -/
theorem countsRange_applied {k : Slot} {f : CourseFigures} (hf : CountsRange s k f) (hi : s.inCourse k i = true)
    (he : s.entryState i = some .probed) (ha : s.entryApply i = true) : f.applied ≠ 0 := by
  obtain ⟨-, -, -, -, -, -, -, -, -, -, happlied, -⟩ := hf
  have hm : i ∈ appliedProbes s k := by simp [appliedProbes, entriesIn, mem_courseEntries, hi, he, ha]
  rw [happlied]
  exact List.length_pos_iff.2 (List.ne_nil_of_mem hm) |>.ne'

/-! ### Valid ranges (R28) -/

theorem entryFitsCourse_iff {k : Slot} :
    s.entryFitsCourse k i = true ↔ ¬InFlight s i ∧ (Terminal s i → s.entrySlot i = k.val) := by
  unfold State.entryFitsCourse InFlight Terminal
  cases s.entryState i with
  | none => simp
  | some e => cases e <;> simp [EntryState.inFlight, EntryState.terminal]

theorem rangeValid_iff (s : State) (k : Slot) : s.rangeValid k = true ↔ RangeValid s k := by
  simp only [State.rangeValid, RangeValid, Bool.and_eq_true, decide_eq_true_eq, List.all_eq_true, mem_courseEntries,
    entryFitsCourse_iff, Nat.pos_iff_ne_zero, and_assoc]

theorem countsRange_recount {k : Slot} (h : RangeValid s k) : CountsRange s k (s.recount k) :=
  countsList_recount _ fun i hi e he ht => ((h.2.2 i ((mem_courseEntries s k i).1 hi)).2) (by
    unfold Terminal
    cases e <;> simp_all [EntryState.terminal])

end

end Sys2Proof
end

section
/-! SUPPORT. Activation (2.3): the update of the course record. -/

namespace Sys2Proof

open Sys2Proof.Machine

/-! ### One update of a course record (R29, R32) -/

/-- What activation writes to a course record in one update of it. -/
def recordWritten (s : State) (k : Slot) (result : Word) (f : CourseFigures) (stamp : Word) (c : CourseState) : State :=
  (((((s.setWord (courseAddr k 5) result).setCourseFigures k f).setWord (courseAddr k 14) s.time).setWord (courseAddr k 15)
    stamp).setCourseState k c).bumpCourse k

theorem courseAddr_apart (k : Slot) {v w : Nat} (h : v ≠ w) :
    courseAddr k v + 4 ≤ courseAddr k w ∨ courseAddr k w + 4 ≤ courseAddr k v := by
  unfold courseAddr
  omega

section
variable {s : State} (hw : BookWf s) (k : Slot) (result : Word) (f : CourseFigures) (stamp : Word) (c : CourseState)
include hw

theorem recordWritten_wf : BookWf (recordWritten s k result f stamp c) :=
  State.bumpCourse_wf _ k (State.setCourseState_wf _ k c (State.setWord_wf _ _ _ (by simp) (State.setWord_wf _ _ _ (by simp)
    (State.setCourseFigures_wf _ k f (State.setWord_wf _ _ _ (by simp) hw)))))

theorem recordWritten_word {v : Nat} (h0 : v ≠ 0) (h1 : v ≠ 1) :
    (recordWritten s k result f stamp c).word (courseAddr k v) =
      if v = 15 then stamp else if v = 14 then s.time
      else ((s.setWord (courseAddr k 5) result).setCourseFigures k f).word (courseAddr k v) := by
  have hf := State.setCourseFigures_wf _ k f (State.setWord_wf s (courseAddr k 5) result (by simp) hw)
  have h14 := State.setWord_wf _ (courseAddr k 14) s.time (by simp) hf
  have h15 := State.setWord_wf _ (courseAddr k 15) stamp (by simp) h14
  rw [recordWritten, State.bumpCourse_word _ _ _ (State.setCourseState_wf _ k c h15) (courseAddr_apart k h0),
    State.setCourseState_word _ _ _ _ h15 (courseAddr_apart k h1)]
  by_cases hv : v = 15
  · rw [if_pos hv, hv, State.word_setWord _ _ _ h14 (by simp)]
  · rw [if_neg hv, State.word_setWord_ne _ _ _ _ h14 (by simp) (courseAddr_apart k hv)]
    by_cases hv' : v = 14
    · rw [if_pos hv', hv', State.word_setWord _ _ _ hf (by simp)]
    · rw [if_neg hv', State.word_setWord_ne _ _ _ _ hf (by simp) (courseAddr_apart k hv')]

theorem recordWritten_result : (recordWritten s k result f stamp c).word (courseAddr k 5) = result := by
  rw [recordWritten_word hw k result f stamp c (by omega) (by omega), if_neg (by omega), if_neg (by omega),
    setCourseFigures_low (State.setWord_wf s _ _ (by simp) hw) k f (by omega), State.word_setWord _ _ _ hw (by simp)]

theorem recordWritten_opened : (recordWritten s k result f stamp c).word (courseAddr k 14) = s.time :=
  recordWritten_word hw k result f stamp c (by omega) (by omega)

theorem recordWritten_closed : (recordWritten s k result f stamp c).word (courseAddr k 15) = stamp :=
  recordWritten_word hw k result f stamp c (by omega) (by omega)

theorem recordWritten_figures (hf : FiguresFit f) : (recordWritten s k result f stamp c).courseFigures k = f := by
  have hw5 : BookWf (s.setWord (courseAddr k 5) result) := State.setWord_wf s _ _ (by simp) hw
  refine (State.courseFigures_congr fun v h6 h13 => ?_).trans (updated_figures hw5 k hf)
  rw [recordWritten_word hw k result f stamp c (by omega) (by omega), if_neg (by omega), if_neg (by omega),
    updated_word hw5 k f (by omega)]

theorem recordWritten_state : (recordWritten s k result f stamp c).courseState k = some c :=
  (courseState_courseUpdate (State.setWord_wf _ _ _ (by simp) (State.setWord_wf _ _ _ (by simp)
    (State.setCourseFigures_wf _ k f (State.setWord_wf s _ _ (by simp) hw)))) k).trans (if_pos rfl)

theorem recordWritten_count :
    (recordWritten s k result f stamp c).word (courseAddr k 0) = s.word (courseAddr k 0) + 2 := by
  have h5 := State.setWord_wf s (courseAddr k 5) result (by simp) hw
  have hf := State.setCourseFigures_wf _ k f h5
  have h14 := State.setWord_wf _ (courseAddr k 14) s.time (by simp) hf
  have h15 := State.setWord_wf _ (courseAddr k 15) stamp (by simp) h14
  rw [recordWritten, State.bumpCourse_count _ _ (State.setCourseState_wf _ k c h15),
    State.setCourseState_word _ _ _ _ h15 (courseAddr_apart k (by omega)),
    State.word_setWord_ne _ _ _ _ h14 (by simp) (courseAddr_apart k (by omega)),
    State.word_setWord_ne _ _ _ _ hf (by simp) (courseAddr_apart k (by omega)), setCourseFigures_low h5 k f (by omega),
    State.word_setWord_ne _ _ _ _ hw (by simp) (courseAddr_apart k (by omega))]

theorem bytesKept_courseWord {v : Nat} (hv : v < 16) (x : Word) :
    BytesKeptOutside [(courseAddr k 0, 64)] s (s.setWord (courseAddr k v) x) := fun y hy =>
  State.read_setWord_ne s _ y _ hw (by unfold courseAddr; omega) (by
    have := hy _ (List.mem_singleton_self _)
    unfold courseAddr at *
    omega)

theorem bytesKept_recordWritten :
    BytesKeptOutside [(courseAddr k 0, 64)] s (recordWritten s k result f stamp c) := by
  have h5 := State.setWord_wf s (courseAddr k 5) result (by simp) hw
  have hf := State.setCourseFigures_wf _ k f h5
  have h14 := State.setWord_wf _ (courseAddr k 14) s.time (by simp) hf
  have h15 := State.setWord_wf _ (courseAddr k 15) stamp (by simp) h14
  have hfigures : BytesKeptOutside [(courseAddr k 0, 64)] (s.setWord (courseAddr k 5) result)
      ((s.setWord (courseAddr k 5) result).setCourseFigures k f) := fun x hx =>
    State.read_setCourseFigures_ne _ _ _ _ h5 (by
      have := hx _ (List.mem_singleton_self _)
      unfold courseAddr at *
      omega)
  have hstate : BytesKeptOutside [(courseAddr k 0, 64)]
      ((((s.setWord (courseAddr k 5) result).setCourseFigures k f).setWord (courseAddr k 14) s.time).setWord
        (courseAddr k 15) stamp) (recordWritten s k result f stamp c) := fun x hx =>
    bytesKept_courseUpdate h15 k c x (List.forall_mem_singleton.2 (by
      have := hx _ (List.mem_singleton_self _)
      dsimp only at *
      omega))
  exact bytesKept_trans (bytesKept_trans (bytesKept_trans (bytesKept_trans (bytesKept_courseWord hw k (by omega) result)
    hfigures) (bytesKept_courseWord hf k (by omega) s.time)) (bytesKept_courseWord h14 k (by omega) stamp)) hstate

end

theorem touches_recordWritten (s : State) (k : Slot) (result : Word) (f : CourseFigures) (stamp : Word) (c : CourseState) :
    Touches [.bytes] [] s (recordWritten s k result f stamp c) :=
  (((((touches_setWord s _ _).trans (touches_setCourseFigures _ k f)).trans (touches_setWord _ _ _)).trans
    (touches_setWord _ _ _)).trans (touches_setWord _ _ _)).trans (touches_bumpCourse _ k)

theorem recordWritten_frame (s : State) (k : Slot) (result : Word) (f : CourseFigures) (stamp : Word) (c : CourseState) :
    (recordWritten s k result f stamp c).seq = s.seq ∧ (recordWritten s k result f stamp c).time = s.time := by
  simp [recordWritten, State.setCourseState]

end Sys2Proof
end

section
/-! SUPPORT. Activation (2.3): where it starts, and a range that is not valid. -/

namespace Sys2Proof

open Sys2Proof.Machine

/-! ### Where activation starts (R19, R27) -/

/-- The profile has been latched, and the late writes to entries have been taken. -/
structure Latched (during : List LatchWrite) (l : List (Nat × Nat)) (s v : State) : Prop where
  wf : BookWf v
  seq : v.seq = { s.seq with profile := s.latchedProfile during }
  time : v.time = s.time
  touches : Touches [.bytes, .seq] [] s v
  above : ∀ r ∈ l, 0x0500 ≤ r.1
  bytes : BytesKeptOutside (l ++ latchAreas during) s v
  writes : KeepsWrites during s v

theorem touches_latchProfile (s : State) (during : List LatchWrite) :
    Touches [.bytes, .seq] [] s (s.latchProfile during) :=
  (Touches.foldl (bs := [.bytes, .seq]) (cs := []) (f := State.writeProfile) (fun t w => (touches_setWord t _ _).mono) during
    s).trans (touches_withSeq _ _).mono

theorem latched_latchProfile {s : State} (hw : BookWf s) (during : List LatchWrite) :
    Latched during [] s (s.latchProfile during) where
  wf := State.latchProfile_wf s during hw
  seq := rfl
  time := by simp [State.latchProfile]
  touches := touches_latchProfile s during
  above := by simp
  bytes := bytesKept_congr (bytesKept_afterWrites hw during).2 (latchProfile_cells s during)
  writes := fun f => word_writeProfile f during hw

section
variable {during : List LatchWrite} {l : List (Nat × Nat)} {s v : State} (h : Latched during l s v)
include h

/-- Neither the latch nor a write to an entry touches the course records. -/
theorem Latched.courseWord (k : Slot) {j : Nat} (hj : j < 16) : v.word (courseAddr k j) = s.word (courseAddr k j) := by
  refine h.bytes.word fun r hr => ?_
  rcases List.mem_append.1 hr with hr | hr
  · have := h.above r hr
    unfold courseAddr
    omega
  · obtain ⟨f, rfl⟩ := latchAreas_mem hr
    have := profileAddr_header f
    simp only [courseAddr]
    omega

theorem Latched.courseEntries (k : Slot) : v.courseEntries k = s.courseEntries k := by
  unfold State.courseEntries State.courseFirst State.courseCount
  rw [h.courseWord k (by omega), h.courseWord k (by omega)]

theorem Latched.courseMode (k : Slot) : v.courseMode k = s.courseMode k := by
  unfold State.courseMode
  rw [h.courseWord k (by omega)]

theorem Latched.inCourse (k : Slot) (i : EntryIx) : v.inCourse k i = s.inCourse k i := by
  unfold State.inCourse State.courseFirst State.courseCount
  rw [h.courseWord k (by omega), h.courseWord k (by omega)]

/-- A late write to an entry. -/
theorem Latched.late {m : List (Nat × Nat)} {u : State} (hw : BookWf u) (hseq : u.seq = v.seq) (htime : u.time = v.time)
    (ht : Touches [.bytes, .seq] [] v u) (hm : ∀ r ∈ m, 0x0500 ≤ r.1) (hb : BytesKeptOutside m v u) :
    Latched during (m ++ l) s u where
  wf := hw
  seq := hseq.trans h.seq
  time := htime.trans h.time
  touches := h.touches.trans ht
  above := fun r hr => (List.mem_append.1 hr).elim (hm r) (h.above r)
  bytes := bytesKept_trans (bytesKept_mono h.bytes (by simp)) (bytesKept_mono hb (by simp))
  writes := fun f => (hb.word fun r hr => by
    have := hm r hr
    have := profileAddr_header f
    omega).trans (h.writes f)

end

/-- The latch leaves the words of every entry. -/
theorem latchProfile_entryWord {s : State} (hw : BookWf s) (during : List LatchWrite) (i : EntryIx) (j : Nat) :
    (s.latchProfile during).word (entryAddr i j) = s.word (entryAddr i j) :=
  (latched_latchProfile hw during).bytes.word fun r hr => by
    obtain ⟨f, rfl⟩ := latchAreas_mem hr
    have := profileAddr_header f
    simp only [entryAddr]
    omega

theorem latchProfile_entryState {s : State} (hw : BookWf s) (during : List LatchWrite) (i : EntryIx) :
    (s.latchProfile during).entryState i = s.entryState i :=
  State.entryState_congr (latchProfile_entryWord hw during i 0)

/-- No loss timer is due: the profile is latched and the record is activated. -/
theorem exec_courseActivation {s : State} {during : List LatchWrite} (late : List LateWrite) (h : ActivationDue s during) :
    exec (.courseActivation ⟨during, late⟩) s = answer s ((s.latchProfile during).activate s.seq.pointer late) := by
  obtain ⟨hrun, hidle, hopen, hloss⟩ := h
  have hmay : s.mayActivate = true := by simp [State.mayActivate, hrun, hidle, hopen]
  have hstay : (s.latchProfile during).expireLossIfDue = s.latchProfile during := by
    have htimer : (s.latchProfile during).tracker.lossTimer = s.tracker.lossTimer := by simp [State.latchProfile]
    unfold State.expireLossIfDue
    rw [htimer]
    cases hn : s.tracker.lossTimer with
    | none => rfl
    | some n => exact if_neg (not_le.2 (hloss n hn))
  change answer s (if s.mayActivate then _ else _) = _
  rw [if_pos hmay, hstay]

/-! ### Valid ranges after the latch (R28) -/

theorem rangeValid_latchProfile {s : State} (hw : BookWf s) (during : List LatchWrite) (k : Slot) :
    RangeValid (s.latchProfile during) k ↔ RangeValid s k := by
  have h := latched_latchProfile hw during
  unfold RangeValid InFlight Terminal State.courseCount State.courseFirst State.entrySlot State.kindWord
  simp only [latchProfile_entryState hw, latchProfile_entryWord hw, h.inCourse, h.courseWord k (show 2 < 16 by omega),
    h.courseWord k (show 3 < 16 by omega)]

theorem countsRange_latchProfile {s : State} (hw : BookWf s) (during : List LatchWrite) (k : Slot) (f : CourseFigures) :
    CountsRange (s.latchProfile during) k f ↔ CountsRange s k f := by
  have h := latched_latchProfile hw during
  unfold CountsRange appliedProbes entriesIn State.entryApply State.kindWord
  simp only [latchProfile_entryState hw, latchProfile_entryWord hw, h.courseEntries]

/-! ### A range that is not valid (R29) -/

/-- The sequencer after an empty course: a zero summary, and the next record. -/
def emptyClosing (q : Sequencer) : Sequencer := { q with lastLaid := 0, lastSum := 0, pointer := q.pointer + 1 }

theorem closeInvalid_eq (s : State) (k : Slot) : s.closeInvalid k =
    (((recordWritten s k courseInvalidRange .zero s.time .closed).withSeq (emptyClosing s.seq)).showCourses.raise
      .courseClosed) := by
  have h : s.closeInvalid k = (((recordWritten s k courseInvalidRange .zero s.time .closed).withSeq
      (emptyClosing (recordWritten s k courseInvalidRange .zero s.time .closed).seq)).showCourses.raise .courseClosed) := rfl
  rw [h, (recordWritten_frame s k courseInvalidRange .zero s.time .closed).1]

theorem closeInvalid_cells (s : State) (k : Slot) : (s.closeInvalid k).book.cells =
    (recordWritten s k courseInvalidRange .zero s.time .closed).book.cells := by
  rw [closeInvalid_eq]
  simp [State.showCourses]

theorem closeInvalid_seq (s : State) (k : Slot) : (s.closeInvalid k).seq = emptyClosing s.seq := by
  rw [closeInvalid_eq]
  simp [State.showCourses]

theorem touches_showCourses (s : State) : Touches [] [] s s.showCourses :=
  touches_of_frame (by simp [keptBut_iff, State.showCourses]) (by simp [State.showCourses]) (by simp [State.showCourses])

theorem touches_closeInvalid (s : State) (k : Slot) :
    Touches [.bytes, .seq] [.courseClosed] s (s.closeInvalid k) := by
  rw [closeInvalid_eq]
  have h1 := touches_recordWritten s k courseInvalidRange .zero s.time .closed
  generalize recordWritten s k courseInvalidRange .zero s.time .closed = u at *
  have h2 := touches_withSeq u (emptyClosing s.seq)
  generalize u.withSeq (emptyClosing s.seq) = v at *
  exact ((h1.mono.trans h2.mono).trans (touches_showCourses v).mono).trans (touches_raise _ .courseClosed).mono

theorem closeInvalid_raises (s : State) (k : Slot) : hasCause (s.closeInvalid k) .courseClosed = true := by
  rw [closeInvalid_eq]
  simp

theorem figuresFit_zero : FiguresFit .zero := by
  unfold FiguresFit
  decide

/-- Settles O22. -/
theorem activationClosesAnInvalidCourse : Obligations.ActivationClosesAnInvalidCourse := by
  intro k during s hw hdue hk hinvalid
  have hl := latched_latchProfile hw during
  have hexec := exec_courseActivation [] hdue
  have hact : (s.latchProfile during).activate s.seq.pointer [] = (s.latchProfile during).closeInvalid k := by
    rw [hk, State.activate, if_neg fun h => hinvalid ((rangeValid_latchProfile hw during k).1 ((rangeValid_iff _ k).1 h))]
    rfl
  rw [hact] at hexec
  generalize s.latchProfile during = v at *
  have hcells : (finish s (v.closeInvalid k)).book.cells =
      (recordWritten v k courseInvalidRange .zero v.time .closed).book.cells := by simp [closeInvalid_cells]
  have hword := State.word_congr hcells
  have hbytes := bytesKept_recordWritten hl.wf k courseInvalidRange .zero v.time .closed
  obtain ⟨hframe, hcauses⟩ := (hl.touches.mono.trans (touches_closeInvalid v k)).closed
  refine ⟨_, hexec, ?_, ?_, ?_, ?_, ?_, ?_, ?_, hasCause_finish_raised s (closeInvalid_raises v k), fun f => ?_, ?_, hframe,
    hcauses⟩
  · exact (State.courseState_congr (hword _)).trans (recordWritten_state hl.wf k _ _ _ _)
  · exact (hword _).trans (recordWritten_result hl.wf k _ _ _ _)
  · exact (State.courseFigures_congr fun w _ _ => hword _).trans (recordWritten_figures hl.wf k _ _ _ _ figuresFit_zero)
  · exact (hword _).trans ((recordWritten_opened hl.wf k _ _ _ _).trans hl.time)
  · exact (hword _).trans ((recordWritten_closed hl.wf k _ _ _ _).trans hl.time)
  · rw [hword, recordWritten_count hl.wf, hl.courseWord k (by omega)]
  · rw [(finish_frame s _).2.2.2.1, closeInvalid_seq, hl.seq, ← hk]
    rfl
  · refine (hword _).trans ((hbytes.word fun r hr => ?_).trans (hl.writes f))
    have := profileAddr_header f
    rw [List.mem_singleton.1 hr]
    simp only [courseAddr]
    omega
  · exact bytesKept_congr (bytesKept_trans (bytesKept_mono hl.bytes (by simp)) (bytesKept_mono hbytes (by simp))) hcells

end Sys2Proof
end

section
/-! SUPPORT. Activation (2.3): a valid range, late writes to its entries, and a loss timer that is due. -/

namespace Sys2Proof

open Sys2Proof.Machine

/-! ### Zc at activation (R31) -/

theorem activationZc_none {s : State} {k : Slot} {f : CourseFigures} (h : s.courseMode k = .none) :
    s.activationZc k f = 0 := by
  unfold State.activationZc
  rw [h]

theorem activationZc_laid {s : State} {k : Slot} {f : CourseFigures} (h : s.courseMode k = .laid) :
    s.activationZc k f = computeZc s.seq.lastSum.toInt s.seq.lastLaid.toNat s.seq.profile.zmax := by
  unfold State.activationZc
  rw [h]

theorem activationZc_probe {s : State} {k : Slot} {f : CourseFigures} (h : s.courseMode k = .probe) :
    s.activationZc k f = s.probeZc f := by
  unfold State.activationZc
  rw [h]

theorem within_activationZc {during : List LatchWrite} {l : List (Nat × Nat)} {s v : State} (h : Latched during l s v)
    (k : Slot) (f : CourseFigures) : Within 100 (v.activationZc k f) := by
  have hz : 0 ≤ v.seq.profile.zmax ∧ v.seq.profile.zmax ≤ 100 := by
    rw [h.seq]
    exact profileInt_bounds _ .zmax (by omega)
  have hclamped : ∀ sum n, Within 100 (computeZc sum n v.seq.profile.zmax) := fun sum n => by
    have := carriedCorrectionTruncatesAndClamps.2.1 sum n _ hz.1
    unfold Within at *
    omega
  cases hm : v.courseMode k with
  | none => exact activationZc_none hm ▸ ⟨by omega, by omega⟩
  | laid => exact activationZc_laid hm ▸ hclamped _ _
  | probe => exact activationZc_probe hm ▸ hclamped _ _

/-! ### The record opened (R30 to R32) -/

/-- The sequencer with the record of slot `k` ACTIVE. -/
def activeSeq (q : Sequencer) (k : Slot) : Sequencer := { q with active := some k, closeMark := false }

/-- The record of slot `k` has been made ACTIVE with the figures `f`. -/
def madeActive (s : State) (k : Slot) (f : CourseFigures) : State :=
  (recordWritten s k courseValid { f with zc := s.activationZc k f } 0 .active).withSeq (activeSeq s.seq k)

theorem openActive_eq (s : State) (k : Slot) (f : CourseFigures) :
    s.openActive k f = if f.remaining = 0 then (madeActive s k f).closeCourse k else madeActive s k f := by
  unfold madeActive
  rw [← (recordWritten_frame s k courseValid { f with zc := s.activationZc k f } 0 .active).1]
  rfl

theorem madeActive_cells (s : State) (k : Slot) (f : CourseFigures) : (madeActive s k f).book.cells =
    (recordWritten s k courseValid { f with zc := s.activationZc k f } 0 .active).book.cells := rfl

theorem madeActive_wf {s : State} (hw : BookWf s) (k : Slot) (f : CourseFigures) : BookWf (madeActive s k f) := by
  unfold BookWf
  rw [madeActive_cells]
  exact recordWritten_wf hw k courseValid _ 0 .active

theorem madeActive_word (s : State) (k : Slot) (f : CourseFigures) (a : Nat) : (madeActive s k f).word a =
    (recordWritten s k courseValid { f with zc := s.activationZc k f } 0 .active).word a :=
  State.word_congr (madeActive_cells s k f) a

theorem madeActive_figures {s : State} (hw : BookWf s) (k : Slot) (f : CourseFigures)
    (hf : FiguresFit { f with zc := s.activationZc k f }) :
    (madeActive s k f).courseFigures k = { f with zc := s.activationZc k f } :=
  (State.courseFigures_congr fun _ _ _ => madeActive_word s k f _).trans
    (recordWritten_figures hw k courseValid _ 0 .active hf)

theorem madeActive_time (s : State) (k : Slot) (f : CourseFigures) : (madeActive s k f).time = s.time := by
  have h := (recordWritten_frame s k courseValid { f with zc := s.activationZc k f } 0 .active).2
  unfold madeActive
  generalize recordWritten s k courseValid _ 0 .active = u at *
  exact h

theorem touches_madeActive (s : State) (k : Slot) (f : CourseFigures) :
    Touches [.bytes, .seq] [] s (madeActive s k f) :=
  (touches_recordWritten s k courseValid { f with zc := s.activationZc k f } 0 .active).mono.trans (touches_withSeq _ _).mono

theorem touches_openActive (s : State) (k : Slot) (f : CourseFigures) :
    Touches [.bytes, .seq] [.courseClosed] s (s.openActive k f) := by
  rw [openActive_eq]
  split
  · exact (touches_madeActive s k f).mono.trans (touches_closeCourse _ k)
  · exact (touches_madeActive s k f).mono

theorem closeCourse_word {s : State} (hw : BookWf s) (k : Slot) {v : Nat} (h0 : v ≠ 0) (h1 : v ≠ 1) (h15 : v ≠ 15) :
    (s.closeCourse k).word (courseAddr k v) = s.word (courseAddr k v) := by
  have hw1 : BookWf (s.setWord (courseAddr k 15) s.time) := State.setWord_wf s _ _ (by simp) hw
  have hcells : (s.closeCourse k).book.cells =
      (((s.setWord (courseAddr k 15) s.time).setCourseState k .closed).bumpCourse k).book.cells := by
    simp [State.closeCourse]
  rw [State.word_congr hcells, State.bumpCourse_word _ _ _ (State.setCourseState_wf _ k _ hw1) (courseAddr_apart k h0),
    State.setCourseState_word _ _ _ _ hw1 (courseAddr_apart k h1),
    State.word_setWord_ne _ _ _ _ hw (by simp) (courseAddr_apart k h15)]

/-- What opening the record leaves, whether or not it then closes. -/
theorem openActive_record {s : State} (hw : BookWf s) (k : Slot) (f : CourseFigures)
    (hf : FiguresFit { f with zc := s.activationZc k f }) :
    (s.openActive k f).courseFigures k = { f with zc := s.activationZc k f } ∧
      (s.openActive k f).word (courseAddr k 5) = courseValid ∧ (s.openActive k f).word (courseAddr k 14) = s.time ∧
      BytesKeptOutside [(courseAddr k 0, 64)] s (s.openActive k f) := by
  have hwf := madeActive_wf hw k f
  have hfig := madeActive_figures hw k f hf
  have h5 : (madeActive s k f).word (courseAddr k 5) = courseValid :=
    (madeActive_word s k f _).trans <| recordWritten_result hw k courseValid _ 0 .active
  have h14 : (madeActive s k f).word (courseAddr k 14) = s.time :=
    (madeActive_word s k f _).trans <| recordWritten_opened hw k courseValid _ 0 .active
  have hbytes : BytesKeptOutside [(courseAddr k 0, 64)] s (madeActive s k f) :=
    bytesKept_congr (bytesKept_recordWritten hw k courseValid _ 0 .active) (madeActive_cells s k f)
  rw [openActive_eq]
  split
  · refine ⟨(State.closeCourse_spec _ k hwf).1.trans hfig, (closeCourse_word hwf k (by omega) (by omega) (by omega)).trans h5,
      (closeCourse_word hwf k (by omega) (by omega) (by omega)).trans h14, bytesKept_trans hbytes fun x hx => ?_⟩
    exact State.closeCourse_read _ k x hwf (hx _ (List.mem_singleton_self _))
  · exact ⟨hfig, h5, h14, hbytes⟩

theorem openActive_stays {s : State} (hw : BookWf s) (k : Slot) {f : CourseFigures} (h : f.remaining ≠ 0) :
    (s.openActive k f).courseState k = some .active ∧ (s.openActive k f).word (courseAddr k 15) = 0 ∧
      (s.openActive k f).seq = activeSeq s.seq k ∧ Touches [.bytes, .seq] [] s (s.openActive k f) := by
  rw [openActive_eq, if_neg h]
  exact ⟨(State.courseState_congr (madeActive_word s k f _)).trans (recordWritten_state hw k courseValid _ 0 .active),
    (madeActive_word s k f _).trans (recordWritten_closed hw k courseValid _ 0 .active), rfl,
    touches_madeActive s k f⟩

/-- The sequencer after a course has closed with these figures. -/
def closedSeq (q : Sequencer) (f : CourseFigures) : Sequencer :=
  { q with
    active := none, closeMark := false, pointer := q.pointer + 1
    lastLaid := BitVec.ofNat 16 f.laid, lastSum := BitVec.ofInt 32 f.devSum }

theorem openActive_closes {s : State} (hw : BookWf s) (k : Slot) {f : CourseFigures} (h : f.remaining = 0)
    (hf : FiguresFit { f with zc := s.activationZc k f }) :
    (s.openActive k f).courseState k = some .closed ∧ (s.openActive k f).word (courseAddr k 15) = s.time ∧
      (s.openActive k f).seq = closedSeq s.seq f ∧ hasCause (s.openActive k f) .courseClosed = true := by
  have hwf := madeActive_wf hw k f
  have hfig := madeActive_figures hw k f hf
  have htime := madeActive_time s k f
  obtain ⟨-, hstate, h15, -, hseq, hcause⟩ := State.closeCourse_spec _ k hwf
  rw [openActive_eq, if_pos h]
  refine ⟨hstate, h15.trans htime, hseq.trans ?_, ?_⟩
  · rw [hfig]
    rfl
  · simp [hasCause, hcause, causeMask_bit]

/-! ### What an activation shows (R30 to R32, R38) -/

section
variable {during : List LatchWrite} {l : List (Nat × Nat)} {s v : State} (h : Latched during l s v)
include h

theorem activated_opens {k : Slot} {p : Profile} (hk : s.seq.pointer = k) (hp : p = s.latchedProfile during)
    {f : CourseFigures} (hf : SmallFigures 993 f) :
    ActivatedWith k f p.zmax s (finish s (v.openActive k f)) ∧ StandsActivated k p f s (finish s (v.openActive k f)) ∧
      KeepsWrites during s (finish s (v.openActive k f)) ∧
      BytesKeptOutside ((courseAddr k 0, 64) :: l ++ latchAreas during) s (finish s (v.openActive k f)) ∧
      KeptBut [.bytes, .seq] s (finish s (v.openActive k f)) ∧
      CausesKeptBut [.courseClosed] s (finish s (v.openActive k f)) ∧
      ∀ i j, (finish s (v.openActive k f)).word (entryAddr i j) = v.word (entryAddr i j) := by
  have hfit := hf.fits (le_refl _) (within_activationZc h k f)
  have hp' : v.seq.profile = p := by rw [h.seq, hp]
  obtain ⟨hfig, h5, h14, hbytes⟩ := openActive_record h.wf k f hfit
  obtain ⟨hframe, hcauses⟩ := (h.touches.mono.trans (touches_openActive v k f)).closed
  have hcells : (finish s (v.openActive k f)).book.cells = (v.openActive k f).book.cells := by simp
  have hword := State.word_congr hcells
  have hseq : (finish s (v.openActive k f)).seq = (v.openActive k f).seq := by simp
  refine ⟨?_, ⟨(hword _).trans h5, ((hword _).trans h14).trans h.time, fun hr => ?_, fun hr => ?_⟩, fun x => ?_,
    bytesKept_congr (bytesKept_trans (bytesKept_mono h.bytes (by simp)) (bytesKept_mono hbytes (by simp))) hcells, hframe,
    hcauses, fun i j => ?_⟩
  · refine (State.courseFigures_congr fun w _ _ => hword _).trans (hfig.trans
      (congrArg (fun z => { f with zc := z }) ?_))
    have hprobe := v.probeZc_fits f (by unfold SmallFigures at hf; omega) (by unfold SmallFigures at hf; omega)
    rw [hp'] at hprobe
    cases hm : s.courseMode k with
    | none => exact activationZc_none ((h.courseMode k).trans hm)
    | laid =>
      refine (activationZc_laid ((h.courseMode k).trans hm)).trans ?_
      rw [hp', h.seq]
    | probe => exact (activationZc_probe ((h.courseMode k).trans hm)).trans hprobe
  · obtain ⟨hstate, h15, hq, htouch⟩ := openActive_stays h.wf k hr
    refine ⟨(State.courseState_congr (hword _)).trans hstate, (hword _).trans h15, ?_, (h.touches.trans htouch).closed.2⟩
    rw [hseq, hq, h.seq, hp, activeSeq]
  · obtain ⟨hstate, h15, hq, hclosed⟩ := openActive_closes h.wf k hr hfit
    refine ⟨(State.courseState_congr (hword _)).trans hstate, ((hword _).trans h15).trans h.time, ?_,
      hasCause_finish_raised s hclosed, hcauses⟩
    rw [hseq, hq, h.seq, hp, ← hk]
    rfl
  · refine (hword _).trans ((hbytes.word fun r hr => ?_).trans (h.writes x))
    have := profileAddr_header x
    rw [List.mem_singleton.1 hr]
    simp only [courseAddr]
    omega
  · refine (hword _).trans (hbytes.word fun r hr => ?_)
    rw [List.mem_singleton.1 hr]
    simp only [courseAddr, entryAddr]
    omega

end

end Sys2Proof
end

section
/-! SUPPORT. Activation (2.3): late writes to entries, and a loss timer that is due. -/

namespace Sys2Proof

open Sys2Proof.Machine

/-! ### A valid range (R30) -/

theorem activate_unwritten {s : State} {k : Slot} (hv : RangeValid s k) :
    s.activate k [] = s.openActive k (s.recount k) := by
  rw [State.activate, if_pos ((rangeValid_iff s k).2 hv)]
  rfl

theorem activate_written {s : State} {k : Slot} (hv : RangeValid s k) (w : LateWrite) :
    s.activate k [w] = (s.lateBookWrite w).openActive k (s.lateCount k w (s.recount k)) := by
  rw [State.activate, if_pos ((rangeValid_iff s k).2 hv)]
  rfl

theorem SmallFigures.mono {n m : Nat} {f : CourseFigures} (h : SmallFigures n f) (hnm : n ≤ m) : SmallFigures m f := by
  unfold SmallFigures at *
  omega

theorem countsRange_latched {s : State} (hw : BookWf s) (during : List LatchWrite) {k : Slot} (hv : RangeValid s k) :
    CountsRange s k ((s.latchProfile during).recount k) :=
  (countsRange_latchProfile hw during k _).1 (countsRange_recount ((rangeValid_latchProfile hw during k).2 hv))

section
variable {s : State} {during : List LatchWrite} {k : Slot} {p : Profile} (hw : BookWf s) (hdue : ActivationDue s during)
  (hk : s.seq.pointer = k) (hv : RangeValid s k) (hp : p = s.latchedProfile during)
include hw hdue hk hv hp

theorem activation_opens :
    ∃ t f, exec (.courseActivation ⟨during, []⟩) s = .next t ∧ CountsRange s k f ∧ ActivatedWith k f p.zmax s t ∧
      StandsActivated k p f s t ∧ KeepsWrites during s t ∧ BytesKeptOutside ((courseAddr k 0, 64) :: latchAreas during) s t ∧
      KeptBut [.bytes, .seq] s t := by
  have hcounts := countsRange_latched hw during hv
  have hexec := exec_courseActivation [] hdue
  rw [hk, activate_unwritten ((rangeValid_latchProfile hw during k).2 hv)] at hexec
  obtain ⟨hzc, hstands, hwrites, hbytes, hframe, -, -⟩ :=
    activated_opens (latched_latchProfile hw during) hk hp ((countsRange_small hcounts).mono (by omega))
  exact ⟨_, _, hexec, hcounts, hzc, hstands, hwrites, hbytes, hframe⟩

end

/-! ### A FREE write served while activation runs (R8, R30) -/

theorem countOut_takenOut {s : State} {i : EntryIx} {e : EntryState} {f : CourseFigures}
    (h : e = .probed → s.entryApply i = true → f.applied ≠ 0) :
    s.countOut i e { f with remaining := f.remaining + 1 } = takenOut s i e f := by
  unfold State.countOut takenOut
  cases e with
  | probed =>
    cases ha : s.entryApply i with
    | true => simp [State.fallApplied, h rfl ha]
    | false => simp
  | _ => simp

theorem lateBookWrite_free {s : State} {i : EntryIx} {e : EntryState} (he : s.entryState i = some e)
    (ht : e.terminal = true) : s.lateBookWrite (.free i) = s.setEntryState i .free := by
  cases e with
  | laid => simp [State.lateBookWrite, he]
  | probed => simp [State.lateBookWrite, he]
  | failed => simp [State.lateBookWrite, he]
  | cancelled => simp [State.lateBookWrite, he]
  | _ => cases ht

theorem lateCount_free {s : State} {k : Slot} {i : EntryIx} {e : EntryState} {f : CourseFigures}
    (he : s.entryState i = some e) (ht : e.terminal = true) (hi : s.inCourse k i = true)
    (h : e = .probed → s.entryApply i = true → f.applied ≠ 0) : s.lateCount k (.free i) f = takenOut s i e f := by
  rw [← countOut_takenOut h]
  simp [State.lateCount, he, ht, hi]

theorem takenOut_congr {s v : State} {i : EntryIx} (h : ∀ j, v.word (entryAddr i j) = s.word (entryAddr i j))
    (e : EntryState) (f : CourseFigures) : takenOut v i e f = takenOut s i e f := by
  unfold takenOut State.entryApply State.kindWord
  simp only [h]

/-! ### A CANCELLED write served while activation runs (R11, R30) -/

theorem lateBookWrite_cancel {s : State} {i : EntryIx} (he : s.entryState i = some .free ∨ s.entryState i = some .posted) :
    s.lateBookWrite (.cancel i) = s.finishEntry i .cancelled .cancelled := by
  rcases he with he | he
  · simp [State.lateBookWrite, he]
  · simp [State.lateBookWrite, he]

theorem lateCount_cancel {s : State} {k : Slot} {i : EntryIx} {f : CourseFigures}
    (he : s.entryState i = some .free ∨ s.entryState i = some .posted) (hi : s.inCourse k i = true) :
    s.lateCount k (.cancel i) f = { f with remaining := f.remaining - 1, cancelled := f.cancelled + 1 } := by
  simp [State.lateCount, he, hi]

section
variable {s : State} {during : List LatchWrite} {k : Slot} {p : Profile} (hw : BookWf s) (hdue : ActivationDue s during)
  (hk : s.seq.pointer = k) (hv : RangeValid s k) (hp : p = s.latchedProfile during)
include hw hdue hk hv hp

theorem activation_frees {i : EntryIx} {e : EntryState} {f g : CourseFigures} (hi : s.inCourse k i = true)
    (he : s.entryState i = some e) (ht : e.terminal = true) (hf : CountsRange s k f) (hg : g = takenOut s i e f) :
    ∃ t, exec (.courseActivation ⟨during, [.free i]⟩) s = .next t ∧ t.entryState i = some .free ∧
      t.courseState k = some .active ∧ ActivatedWith k g p.zmax s t ∧ StandsActivated k p g s t ∧
      KeepsWrites during s t ∧ BytesKeptOutside ((entryAddr i 0, 4) :: (courseAddr k 0, 64) :: latchAreas during) s t ∧
      KeptBut [.bytes, .seq] s t ∧ CausesKeptBut [] s t := by
  have hl := latched_latchProfile hw during
  have hcounts := countsRange_latched hw during hv
  have hexec := exec_courseActivation [.free i] hdue
  have hword := latchProfile_entryWord hw during i
  have he' := (latchProfile_entryState hw during i).trans he
  have hlate : (s.latchProfile during).lateCount k (.free i) ((s.latchProfile during).recount k) =
      takenOut s i e ((s.latchProfile during).recount k) := by
    refine (lateCount_free he' ht ((hl.inCourse k i).trans hi) ?_).trans (takenOut_congr hword e _)
    rintro rfl ha
    refine countsRange_applied hcounts hi he ?_
    rwa [State.entryApply, State.kindWord, hword] at ha
  rw [hk, activate_written ((rangeValid_latchProfile hw during k).2 hv), lateBookWrite_free he' ht, hlate] at hexec
  generalize (s.latchProfile during).recount k = f0 at *
  have hzc := countsRange_unique hf hcounts
  generalize f0.zc = z at hzc
  subst hzc
  generalize s.latchProfile during = v at *
  have hfreed : Latched during ([(entryAddr i 0, 4)] ++ []) s (v.setEntryState i .free) :=
    hl.late (State.setEntryState_wf v i _ hl.wf) (by simp) (by simp) (touches_setEntryState v i .free).mono
      (by simp only [List.mem_singleton, forall_eq, entryAddr]; omega) (bytesKept_setEntryState hl.wf i .free)
  obtain ⟨hzc, hstands, hwrites, hbytes, hframe, -, hentry⟩ :=
    activated_opens hfreed hk hp ((countsRange_small hcounts).takenOut s i e)
  subst hg
  obtain ⟨hactive, -, -, hcauses⟩ := hstands.2.2.1 (Nat.succ_ne_zero _)
  exact ⟨_, hexec, (State.entryState_congr (hentry i 0)).trans (State.entryState_setEntryState v i .free hl.wf), hactive, hzc,
    hstands, hwrites, bytesKept_mono hbytes (by simp), hframe, hcauses⟩

theorem activation_cancels {i : EntryIx} {f g : CourseFigures} (hi : s.inCourse k i = true)
    (he : s.entryState i = some .free ∨ s.entryState i = some .posted) (hf : CountsRange s k f)
    (hg : g = { f with remaining := f.remaining - 1, cancelled := f.cancelled + 1 }) :
    ∃ t, exec (.courseActivation ⟨during, [.cancel i]⟩) s = .next t ∧ t.entryState i = some .cancelled ∧
      ResultOf i .cancelled s t ∧ t.word (entryAddr i 13) = s.time ∧ ActivatedWith k g p.zmax s t ∧
      StandsActivated k p g s t ∧ KeepsWrites during s t ∧
      BytesKeptOutside ((courseAddr k 0, 64) :: terminalWords i ++ latchAreas during) s t ∧ KeptBut [.bytes, .seq] s t ∧
      CausesKeptBut [.courseClosed] s t := by
  have hl := latched_latchProfile hw during
  have hcounts := countsRange_latched hw during hv
  have hexec := exec_courseActivation [.cancel i] hdue
  have hword := latchProfile_entryWord hw during i
  have he' := he.imp (latchProfile_entryState hw during i).trans (latchProfile_entryState hw during i).trans
  rw [hk, activate_written ((rangeValid_latchProfile hw during k).2 hv), lateBookWrite_cancel he',
    lateCount_cancel he' ((hl.inCourse k i).trans hi)] at hexec
  generalize (s.latchProfile during).recount k = f0 at *
  have hzc := countsRange_unique hf hcounts
  generalize f0.zc = z at hzc
  subst hzc
  generalize s.latchProfile during = v at *
  obtain ⟨hstate, hresult, hstamp⟩ := State.finishEntry_spec v i .cancelled .cancelled hl.wf
  have hended : Latched during (terminalWords i ++ []) s (v.finishEntry i .cancelled .cancelled) :=
    hl.late (State.finishEntry_wf v i _ _ hl.wf) (by simp) (by simp) (touches_finishEntry v i .cancelled .cancelled).mono
      (fun _ => terminalWords_above) (bytesKept_finishEntry hl.wf i .cancelled .cancelled)
  obtain ⟨hzc, hstands, hwrites, hbytes, hframe, hcauses, hentry⟩ :=
    activated_opens hended hk hp (countsRange_small hcounts).cancelled
  subst hg
  have hresult' : ResultOf i .cancelled s (v.finishEntry i .cancelled .cancelled) := by
    unfold ResultOf at *
    rwa [hword 7] at hresult
  exact ⟨_, hexec, (State.entryState_congr (hentry i 0)).trans hstate, resultOf_congr hresult' (hentry i 7),
    ((hentry i 13).trans hstamp).trans hl.time, hzc, hstands, hwrites, bytesKept_mono hbytes (by simp), hframe, hcauses⟩

end

/-! ### A loss timer that is due (R119) -/

/-- The causes an activation can raise. -/
def activationCauses : List Cause := [.courseClosed, .bookWriteRefused]

theorem touches_lateBookWrite (s : State) (w : LateWrite) : Touches [.bytes, .seq] activationCauses s (s.lateBookWrite w) := by
  unfold State.lateBookWrite
  have hfree := fun i => (touches_setEntryState s i .free).mono (bs' := [.bytes, .seq]) (cs' := activationCauses)
  have hcancel := fun i => (touches_finishEntry s i .cancelled .cancelled).mono (bs' := [.bytes, .seq]) (cs' := activationCauses)
  have hdiscard : Touches [.bytes, .seq] activationCauses s s.discardWrite := (touches_raise s _).mono
  cases w with
  | cancel i =>
    dsimp only
    split
    · exact hcancel i
    · exact hcancel i
    · exact .refl _ _ s
    · exact hdiscard
  | free i =>
    dsimp only
    split
    · exact .refl _ _ s
    · exact hfree i
    · exact hfree i
    · exact hfree i
    · exact hfree i
    · exact hfree i
    · exact hdiscard

theorem touches_lateWrites (k : Slot) (late : List LateWrite) (s : State) (f : CourseFigures) :
    Touches [.bytes, .seq] activationCauses s (s.lateWrites k late f).1 := by
  induction late generalizing s f with
  | nil => exact .refl _ _ s
  | cons w ws ih => exact (touches_lateBookWrite s w).trans (ih _ _)

theorem touches_activate (s : State) (k : Slot) (late : List LateWrite) :
    Touches [.bytes, .seq] activationCauses s (s.activate k late) := by
  unfold State.activate
  split
  · exact (touches_lateWrites k late s _).trans (touches_openActive _ k _).mono
  · exact (touches_lateWrites k late s _).trans (touches_closeInvalid _ k).mono

theorem enterLost_eq (s : State) : s.enterLost = (trackLostState s).recoverLoss := rfl

theorem enterLost_lost (s : State) :
    s.enterLost.tracker = { s.tracker with state := .lost, history := [], window := [], lossTimer := none } ∧
      hasCause s.enterLost .trackLost = true ∧ s.enterLost.trim.settleCount = 0 := by
  rw [enterLost_eq]
  refine ⟨(State.recoverLoss_frame _).2.2.2.2.2.2.2.2.2.2.1,
    (touches_recoverLoss _).causes.stand _ (hasCause_trackLostState s), ?_⟩
  rcases recoverLoss_cases (trackLostState s) with h | h | ⟨i, hs, hi, h⟩
  · rw [h]
    rfl
  · rw [h]
    rfl
  · rw [h]
    exact failAttempt_settleCount hs hi _

theorem activation_expires {s : State} {during : List LatchWrite} (late : List LateWrite) {n : Nat} {p : Profile}
    (hrun : s.control.state = .run) (hidle : s.seq.active = none) (hopen : s.courseState s.seq.pointer = some .opened)
    (hp : p = s.latchedProfile during) (hn : s.tracker.lossTimer = some n) (hle : 2 ^ p.lossExponent ≤ n) :
    ∃ t, exec (.courseActivation ⟨during, late⟩) s = .next t ∧ t.seq.profile = p ∧
      t.tracker = { s.tracker with state := .lost, history := [], window := [], lossTimer := none } ∧
      hasCause t .trackLost = true ∧ t.trim.settleCount = 0 := by
  have hmay : s.mayActivate = true := by simp [State.mayActivate, hrun, hidle, hopen]
  have htracker : (s.latchProfile during).tracker = s.tracker := by simp [State.latchProfile]
  have hprofile : (s.latchProfile during).seq.profile = p := hp.symm
  have hexec : exec (.courseActivation ⟨during, late⟩) s =
      answer s ((s.latchProfile during).enterLost.activate s.seq.pointer late) := by
    change answer s (if s.mayActivate then _ else _) = _
    rw [if_pos hmay, State.expireLossIfDue, htracker, hn]
    dsimp only
    rw [hprofile, if_pos (show p.lossDelay ≤ n from hle)]
  obtain ⟨hlost, hcause, hsettle⟩ := enterLost_lost (s.latchProfile during)
  refine ⟨_, hexec, ?_, ?_, ?_, ?_⟩
  · simp [hprofile]
  · rw [← htracker, ← hlost]
    simp
  · exact hasCause_finish_raised s ((touches_activate _ _ late).causes.stand _ hcause)
  · rw [← hsettle]
    simp

/-- Settles O21: without late writes, with one, and with a loss timer that the latched delay makes due. -/
theorem activationOpensAValidCourse : Obligations.ActivationOpensAValidCourse :=
  ⟨fun _ _ _ _ hw hdue hk hv hp => activation_opens hw hdue hk hv hp,
    fun _ _ _ _ _ _ _ _ hw hdue hk hv hi he ht hf hg hp => activation_frees hw hdue hk hv hp hi he ht hf hg,
    fun _ _ _ _ _ _ _ hw hdue hk hv hi he hf hg hp => activation_cancels hw hdue hk hv hp hi he hf hg,
    fun _ late _ _ _ hrun hidle hopen hp hn hle => activation_expires late hrun hidle hopen hp hn hle⟩

end Sys2Proof
end
